-- ==== Sys2Proof/Word.lean ====
section
/-! DEFINITION. The word and byte types of the SKN-128 and the narrowest names for its numbers. Registers in pages are
32-bit words (spec/01, R30); memory is addressed by the byte, little-endian inside the device (spec/00, R10). -/

namespace Sys2Proof

/-- A register of a page, or a general register of a core. -/
abbrev Word := BitVec 32

/-- One byte. -/
abbrev Byte := BitVec 8

/-- The 64-bit time line (spec/02). -/
abbrev Tick := BitVec 64

/-- A 36-bit local address (spec/01, R21). -/
abbrev LocalAddr := BitVec 36

/-- A 48-bit fabric address (spec/01, R24). -/
abbrev FabAddr := BitVec 48

end Sys2Proof
end

