-- ==== Sys2Proof/Types.lean ====
section
/-! DEFINITION. The names the spec gives to things that are not words: register pages (spec/18, R604), requesters (spec/01, R33), access
widths, operating modes (spec/17, R583), flits (spec/15, R518), peers and message heads (spec/13, R475). Commands carry them as operands, so
that an operand is always in range. -/

namespace Sys2Proof

/-- The register pages of R604, by class and instance. -/
inductive Page where
  | tb | legsys | safepat | lg (g : Fin 32) | tmr (n : Fin 64) | modg (q : Fin 8) | xbs
  | ff (f : Fin 10) | pfe (p : Fin 24) | pfeseq | be (n : Fin 128) | olu (u : Fin 32) | pos (n : Fin 32)
  | core (k : Fin 36) | icu (k : Fin 36) | memerr | scrub (n : Fin 4) | cvu (n : Fin 8) | eva
  | eth (n : Fin 2) | uandi | stream | fab | link (l : Fin 8) | route (v : Fin 4) | firefly (i : Fin 10)
  | mode | pwr | dawn | boot | xspi
  deriving DecidableEq, Repr

/-- The kinds of requester (R33, field KIND: 1, 2, 3). -/
inductive ReqKind where
  | core | session | master
  deriving DecidableEq, Repr

/-- A requester's identity in the layout of ERR_INFO and OWNER (R33): home device, kind and index. A claim (R544) also names the
UID of the home device: `uid`, or none where that is this device's own. -/
structure Requester where
  devid : BitVec 12
  kind : ReqKind
  index : Fin 64
  uid : Option (BitVec 64) := none
  deriving DecidableEq, Repr

/-- The access widths in bytes. -/
inductive Width where
  | w1 | w2 | w4 | w8
  deriving DecidableEq, Repr

/-- The operating modes of R583; `code` is MODE.STAT.CUR. -/
inductive Mode where
  | retain | sleep | boot | selftest | configure | run | hold | safe
  deriving DecidableEq, Repr

/-- The strapping pins sampled when RESET_N rises (FAB.STRAPS, spec/15). -/
structure Straps where
  dawnEn : Bool
  root : Bool
  bootsel : Fin 8
  posid : Fin 16
  deriving DecidableEq, Repr

/-- Which compare of a leg. -/
inductive CmpSel where
  | a | b
  deriving DecidableEq, Repr

/-- A write access as it reaches a page: who makes it, the word, and whether the data carries poison (R31). -/
structure Wr where
  who : Requester
  data : Word
  poison : Bool
  deriving DecidableEq, Repr

/-- The four measurements of a slice's calibration (R180, R181), as frac32 words, and whether it overloaded. -/
structure Cal where
  z : Word
  p : Word
  n : Word
  m : Word
  ovld : Bool
  deriving DecidableEq, Repr

/-- How an instruction stands in its code (spec/10, R360 to R369): the prefixes of the compact encoding, or the SAT and RO/RM bits of a
bundle syllable; the syllable's unit and stop bit; whether the encoding breaks a rule that its other operands do not show: a
field that must be 0 is not, or prefixes out of order; and the opcode byte where it is a reserved one, which stands in the place of
the command's own (R374). DESIGN CHOICE (log 144). -/
structure Enc where
  rep : Bool := false
  sat : Bool := false
  rnd : Option Byte := none
  wide : Bool := false
  unit : Fin 8 := 0
  stop : Bool := true
  bad : Bool := false
  reserved : Option Byte := none
  deriving DecidableEq, Repr

/-- Parts that Dawn tests, as sets: reference buffers and the time reference (bit 8), delay lines, slices, lanes of ETH0 and ETH1,
lanes of the links, gate slices, receiver slices (R598, R602). -/
structure DawnSet where
  ref : BitVec 9 := 0#9
  dl : BitVec 32 := 0#32
  slice : BitVec 128 := 0#128
  eth : BitVec 8 := 0#8
  bl : BitVec 32 := 0#32
  gate : BitVec 16 := 0#16
  rx : BitVec 4 := 0#4
  deriving DecidableEq, Repr

/-- A write that starts Dawn, and what Dawn will find in the silicon (R598). -/
structure DawnAsk where
  w : Wr
  found : DawnSet
  deriving DecidableEq, Repr

/-- What an LCTL carries: a sequence number, and a credit return for one VC (R522, R523). -/
structure LctlWord where
  number : Fin 4096
  vc : Fin 4 := 0
  credits : Fin 64 := 0
  deriving DecidableEq, Repr

/-- A flit (R518): its header fields, its credit return among them, its payload and its CRC, which a flit takes as it is sent. -/
structure Flit where
  typ : Nat
  vc : Nat
  dest : Nat
  src : Nat
  lseq : Nat := 0
  cret : Nat := 0
  tail : Bool := true
  pmap : Nat := 0
  hops : Nat := 0
  payload : List Byte := []
  crc : Nat := 0
  deriving DecidableEq, Repr

/-- Where a datagram goes or came from: MAC address, IP version and address, UDP port, and the port's own address used. -/
structure Peer where
  mac : Nat
  v6 : Bool
  ip : Nat
  port : Nat
  own : Nat
  deriving DecidableEq, Repr

/-- The head of a Uandi request as it reaches the control engine through ETH0 (R475): who sent it, session, POISON, generation and
sequence number. -/
structure UandiHead where
  peer : Peer
  sess : Fin 16
  poison : Bool
  gen : BitVec 16
  seq : BitVec 32
  deriving DecidableEq, Repr

/-- A link of a device of a board that is up (R549): the device at its far end, by its place in the list of the board's devices, and the
number of the link there. -/
structure BoardLink where
  peer : Nat
  far : Fin 8
  deriving DecidableEq, Repr

/-- A device of a board as its discovery meets it (R549): its UID, its POSID, whether a newer claim refuses the ROOT's, and its links in
ascending order, none for one that is not up. -/
structure BoardDev where
  uid : BitVec 64
  posid : Fin 16
  claimed : Bool
  links : List (Option BoardLink)
  deriving DecidableEq, Repr

/-- What the outside and the silicon bring to a boot (R593, R436, R549, R594): the straps; the ticks that pass until the last step; the ECC
decoders (R433) and the bulk SRAM banks that fail; what Dawn finds and how long it takes; the board that a ROOT discovers, itself first, and
what training finds of its own lanes (inverted, reversed) link by link; and what the flash delivers at 0 and at 0x0200_0000 (none: no DQS).
-/
structure BootRun where
  straps : Straps
  ticks : Nat
  decoders : BitVec 128
  banks : BitVec 48
  dawn : DawnSet
  dawnTicks : Nat
  board : List BoardDev
  lanes : List (BitVec 4 × Bool)
  copy1 : Option (List Byte)
  copy2 : Option (List Byte)
  deriving DecidableEq, Repr

end Sys2Proof
end

