-- ==== Sys2Proof/Syntax.lean ====
section
/-! DEFINITION. The commands of the SKN-128: one constructor for each row of spec/opcode_table.json, those that
write a register and then those without operands behind the rest (Lean compiles no constructor with operands past the 245th; what a
register write names can also reach the part as REGISTER_WRITE). The table
gives its rows no bits; a command is what reaches the part from outside (an access, a frame, a flit, a level at a pin, an
instruction of a core) or an event of its own that falls due. Its operands are what the part cannot know by itself. -/

namespace Sys2Proof

/-- What a port tells with a received frame: the instant of its timestamp point in fines (R471), the errors its frame buffer has put into
the frame (word, 88-bit error as in R421), codewords that the FEC has corrected and could not correct since the last frame (R493), and the
priorities whose receive buffer has passed three quarters full, and has fallen below one quarter (R467). -/
structure RxLine where
  fines : Nat
  damage : List (Nat × Nat) := []
  fecCorr : Nat := 0
  fecUncorr : Nat := 0
  high : BitVec 8 := 0#8
  low : BitVec 8 := 0#8
  deriving DecidableEq, Repr

/-- One command. The docstring of each constructor is its row: mnemonic, rule and summary. -/
inductive Instr where
  /-- REGISTER_WRITE (R31). A write to a register page register that has no row of its own is checked against the refusal conditions and performed or refused. -/
  | registerWrite (who : Requester) (addr : LocalAddr) (width : Width) (data : Word) (poison : Bool)
  /-- ERR_CODE_READ (R34). A read of ERR_CODE returns the first recorded error and clears CODE and MORE. -/
  | errCodeRead (page : Page) (who : Requester)
  /-- SOFT_RST_COMPLETE (R39). The soft reset returns registers at 0x040 and above and the internal state to reset values, and SOFT_RST reads 0. -/
  | softRstComplete (page : Page)
  /-- ABORT_DONE (R42). The abort finishes, ABORT_DONE and ABORT_OUTCOME are written and the abort event is raised. -/
  | abortDone (page : Page)
  /-- FORCED_ABORT (R46). A function that does not quiesce within the abort budget has its reset island reset, EN cleared and UNUSABLE set. -/
  | forcedAbort (page : Page)
  /-- DL_CALIBRATION (R56). Every 65,536 ticks a leg group's delay line is calibrated against its replica and DL_OK and DL_WORST are updated. -/
  | dlCalibration (g : Fin 32) (err : Nat)
  /-- TLCMP_FIRE (R60). The time line reaches the compare value, TLCMP_FIRED sets and the TLCMP event is raised. -/
  | tlcmpFire (c : Fin 8)
  /-- SYNC_WORD_RECEIVE (R63). A non-ROOT device captures a SYNC word, aligns its time line and sends the word on with the hop count incremented. -/
  | syncWordReceive (hop : Byte) (stop : Bool) (edge : Nat)
  /-- TSYNC_EXCHANGE_START (R539). At its scheduled tick each end of an up link sends a TSYNC request. -/
  | tsyncExchangeStart (l : Fin 8) (fine : Fin 64)
  /-- TSYNC_REQUEST (R539). A TSYNC request arrives, is stamped t2, and a TSYNC response carrying t2 and t3 is sent. -/
  | tsyncRequest (l : Fin 8) (n : Nat) (t2 t3 : BitVec 64)
  /-- TSYNC_RESPONSE (R67). A TSYNC response arrives, and offset and delay are computed and applied by the sync state machine. -/
  | tsyncResponse (l : Fin 8) (n : Nat) (t2 t3 t4 : BitVec 64)
  /-- TSYNC_TIMEOUT (R539). A TSYNC response that does not arrive within 2^16 ticks voids its exchange and TS_BAD counts it. -/
  | tsyncTimeout (l : Fin 8)
  /-- CARRIER_ZERO (R85). A running carrier reaches count 0, raises ZERO, drives the trigger network and applies ZERO actions. -/
  | carrierZero (g : Fin 32)
  /-- CARRIER_PERIOD (R85). A running carrier reaches PER, raises PERIOD and applies PERIOD actions. -/
  | carrierPeriod (g : Fin 32)
  /-- COMPARE_MATCH (R98). The followed carrier's count equals a compare value, the match drives the trigger network and its action is placed at tick and fine. -/
  | compareMatch (leg : Fin 128) (cmp : CmpSel) (early : Bool)
  /-- DEAD_TIME_EXPIRY (R108). The dead time after a state change elapses and the output the new state asserts is asserted. -/
  | deadTimeExpiry (leg : Fin 128) (high : Bool)
  /-- MINP_EXPIRY (R110). The minimum pulse of an asserted output elapses and a delayed deassertion is made. -/
  | minpExpiry (leg : Fin 128) (high : Bool)
  /-- TRIP_PIN_ASSERT (R114). A TRIP pin holds its asserted level for TRIP_FLT ticks and raises its cause for its zones. -/
  | tripPinAssert (pin : Fin 32)
  /-- ILK_EXPIRY (R119). The trip interlock ILK elapses and the output asserted by a trip action is asserted. -/
  | ilkExpiry (leg : Fin 128) (high : Bool)
  /-- SAFEPAT_ILK_EXPIRY (R123). The safe-pattern interlock elapses and a safe-pattern assertion is made. -/
  | safepatIlkExpiry (leg : Fin 128) (high : Bool)
  /-- TIMER_COUNT_STEP (R136). A timer takes a count step from its source, prescaler or master event. -/
  | timerCountStep (n : Fin 64)
  /-- TIO_EDGE (R139). A new level on a TIO pin is recognised after its filter and produces an edge. -/
  | tioEdge (pin : Fin 64) (level : Bool)
  /-- CAP_HEAD_READ (R156). A read of CAP_HEAD pops the head capture and copies its edge and stamp. -/
  | capHeadRead (n : Fin 64) (who : Requester)
  /-- INIT_DONE (R177). Initial calibration ends, passing slices take new coefficients, failing ones are retired and INIT_DONE sets. -/
  | initDone (q : Fin 8) (cals : List Cal)
  /-- ROTATION_STEP_START (R180). At a step origin the spare is calibrated through SETTLE to CHECK and connected to the target channel. -/
  | rotationStepStart (q : Fin 8) (cal : Cal) (ho : List Word) (chMean : Word) (ovld : Bool)
  /-- HANDOVER_SWITCH (R183). At the first output boundary after CHECK the channel's filter switches to the spare and HO_DONE is raised. -/
  | handoverSwitch (q : Fin 8)
  /-- OLD_SLICE_RELEASE (R185). When no conversion holds the old slice it becomes the spare, and a delayed step origin starts with SLIP. -/
  | oldSliceRelease (q : Fin 8)
  /-- SLICE_OVERLOAD (R174). A slice input exceeds range, the integrators reset, the output holds full scale and OVLD is set. -/
  | sliceOverload (q : Fin 8) (sl : Fin 13) (pos : Bool)
  /-- REF_FAIL (R173). The group reference leaves its band, REF_FAIL is raised and steps in progress are cancelled. -/
  | refFail (q : Fin 8)
  /-- XBS_STUCK (R200). An XBS input delivers STUCK_LIM identical bits, sets XSTUCK and raises XBS_STUCK. -/
  | xbsStuck (x : Fin 64)
  /-- FAST_OUTPUT (R209). A fast-path filter produces an output at its boundary and delivers it to SMP, band engines, comparators and streams. -/
  | fastOutput (ch : Fin 160) (x : Word)
  /-- CONVERSION_START (R223). A free engine starts its head request at its due tick, or at once when late. -/
  | conversionStart (p : Fin 24)
  /-- CONVERSION_END (R216). A conversion window ends and the mean of its K outputs is computed. -/
  | conversionEnd (p : Fin 24) (outs : List Word)
  /-- RESULT_APPEND (R218). The result is appended to the result FIFO, delivered to OLUs and streams, and DONE is raised. -/
  | resultAppend (p : Fin 24)
  /-- RES_HEAD_READ (R229). A read of RES_HEAD pops the head result and copies its flags, stamp and sequence number. -/
  | resHeadRead (p : Fin 24) (who : Requester)
  /-- BAND_EVALUATION (R247). A band engine evaluates a fast-path output against the band and decides the requested state. -/
  | bandEvaluation (n : Fin 128)
  /-- OLU_EVALUATION (R258). A timer trigger starts an OLU evaluation that takes its inputs at the trigger tick. -/
  | oluEvaluation (u : Fin 32)
  /-- OLU_COMMIT (R268). The evaluation commits its integrators, outputs and target references in one slot. -/
  | oluCommit (u : Fin 32)
  /-- OLU_MISS (R270). An evaluation not committed by its deadline is abandoned and MISS is raised. -/
  | oluMiss (u : Fin 32)
  /-- INT_LO_READ (R285). A read of INT_D_LO or INT_Q_LO copies the middle and high words of the same integrator into holding registers. -/
  | intLoRead (u : Fin 32) (q : Bool) (who : Requester)
  /-- FE_PEAK_READ (R277). A read of FE_PEAK returns the largest following error and clears it. -/
  | fePeakRead (u : Fin 32) (who : Requester)
  /-- POS_LEVEL_RECOGNISED (R288). A new level on POSA, POSB or POSZ is recognised after the filter and moves the count by its mode. -/
  | posLevelRecognised (n : Fin 32) (a b z : Bool)
  /-- PROBE (R303). A recognised probe edge latches RAW of its channel with stamp and edge, or sets PRB_OVR. -/
  | probe (n : Fin 32) (level : Bool)
  /-- SPEED_WINDOW_END (R305). At each window end CNT_WIN takes the count change and the window speed is updated. -/
  | speedWindowEnd (n : Fin 32)
  /-- SPEED_TIMEOUT (R304). SPD_TO times 4096 ticks without a step make the edge-period speed invalid. -/
  | speedTimeout (n : Fin 32)
  /-- SSI_FRAME_COMPLETE (R309). An SSI frame completes, its position updates RAW and COUNT and SSI_DONE is raised. -/
  | ssiFrameComplete (n : Fin 32)
  /-- SSI_DATA_LO_READ (R310). A read of SSI_DATA_LO copies SSI_DATA_HI and SSI_STAMP_LO of the same frame into holding registers. -/
  | ssiDataLoRead (n : Fin 32) (who : Requester)
  /-- HALT_TAKES_EFFECT (R344). After outstanding long operations and loads complete the core halts and HALTED is raised. -/
  | haltTakesEffect (k : Fin 36)
  /-- LONG_OP_COMPLETE (R329). A long operation completes, writes its result and reports any exception. -/
  | longOpComplete (k : Fin 36)
  /-- STORE_DRAIN (R332). A buffered store completes its write at its target and frees its entry. -/
  | storeDrain (k : Fin 36) (page : Bool)
  /-- IMPRECISE_ENTRY (R410). A pending divide-by-zero or bus error is taken at the next instruction boundary. -/
  | impreciseEntry (k : Fin 36)
  /-- INTERRUPT_ENTRY (R416). The highest takeable ICU line is taken at an instruction boundary through descriptor 192 + l. -/
  | interruptEntry (k : Fin 36)
  /-- NOP (R373). Instruction nop does nothing. -/
  | nop (k : Fin 36) (e : Enc)
  /-- MOV (R373). Instruction mov copies a w register. -/
  | mov (k : Fin 36) (d a : Fin 32) (e : Enc)
  /-- MOVI (R373). Instruction movi writes a sign-extended immediate. -/
  | movi (k : Fin 36) (d : Fin 32) (imm : Word) (e : Enc)
  /-- MOVHI (R373). Instruction movhi writes the upper half of a register and keeps the lower half. -/
  | movhi (k : Fin 36) (d : Fin 32) (imm : Word) (e : Enc)
  /-- MVM_LO (R356). Instruction mvm.lo reads bits 31:0 of an m register under the multiplier visibility rule. -/
  | mvmLo (k : Fin 36) (d a : Fin 32) (e : Enc)
  /-- MVM_HI (R356). Instruction mvm.hi reads bits 63:32 of an m register. -/
  | mvmHi (k : Fin 36) (d a : Fin 32) (e : Enc)
  /-- MVM_G (R356). Instruction mvm.g reads the guard bits of an m register sign-extended. -/
  | mvmG (k : Fin 36) (d a : Fin 32) (e : Enc)
  /-- RND_Q31 (R353). Instruction rnd.q31 rounds an m register to frac32. -/
  | rndQ31 (k : Fin 36) (d a : Fin 32) (e : Enc)
  /-- MVA_LO (R373). Instruction mva.lo reads bits 31:0 of an accumulator. -/
  | mvaLo (k : Fin 36) (d a : Fin 32) (e : Enc)
  /-- MVA_HI (R373). Instruction mva.hi reads bits 63:32 of an accumulator. -/
  | mvaHi (k : Fin 36) (d a : Fin 32) (e : Enc)
  /-- MVA_G (R373). Instruction mva.g reads the guard bits of an accumulator sign-extended. -/
  | mvaG (k : Fin 36) (d a : Fin 32) (e : Enc)
  /-- ARND_Q31 (R353). Instruction arnd.q31 rounds an accumulator to frac32. -/
  | arndQ31 (k : Fin 36) (d a : Fin 32) (e : Enc)
  /-- SEXT_B (R373). Instruction sext.b sign-extends the low byte. -/
  | sextB (k : Fin 36) (d a : Fin 32) (e : Enc)
  /-- SEXT_H (R373). Instruction sext.h sign-extends the low halfword. -/
  | sextH (k : Fin 36) (d a : Fin 32) (e : Enc)
  /-- ZEXT_B (R373). Instruction zext.b zero-extends the low byte. -/
  | zextB (k : Fin 36) (d a : Fin 32) (e : Enc)
  /-- ZEXT_H (R373). Instruction zext.h zero-extends the low halfword. -/
  | zextH (k : Fin 36) (d a : Fin 32) (e : Enc)
  /-- ADD_I32 (R373). Instruction add.i32 adds, wrapping unless prefixed by sat. -/
  | addI32 (k : Fin 36) (d a b : Fin 32) (e : Enc)
  /-- SUB_I32 (R373). Instruction sub.i32 subtracts. -/
  | subI32 (k : Fin 36) (d a b : Fin 32) (e : Enc)
  /-- ADD_Q31 (R373). Instruction add.q31 adds with saturation. -/
  | addQ31 (k : Fin 36) (d a b : Fin 32) (e : Enc)
  /-- SUB_Q31 (R373). Instruction sub.q31 subtracts with saturation. -/
  | subQ31 (k : Fin 36) (d a b : Fin 32) (e : Enc)
  /-- ADD_I16X2 (R373). Instruction add.i16x2 adds per lane. -/
  | addI16x2 (k : Fin 36) (d a b : Fin 32) (e : Enc)
  /-- SUB_I16X2 (R373). Instruction sub.i16x2 subtracts per lane. -/
  | subI16x2 (k : Fin 36) (d a b : Fin 32) (e : Enc)
  /-- ADD_Q15X2 (R373). Instruction add.q15x2 adds per lane with saturation. -/
  | addQ15x2 (k : Fin 36) (d a b : Fin 32) (e : Enc)
  /-- SUB_Q15X2 (R373). Instruction sub.q15x2 subtracts per lane with saturation. -/
  | subQ15x2 (k : Fin 36) (d a b : Fin 32) (e : Enc)
  /-- NEG_I32 (R373). Instruction neg.i32 negates. -/
  | negI32 (k : Fin 36) (d a : Fin 32) (e : Enc)
  /-- NEG_Q31 (R373). Instruction neg.q31 negates with saturation. -/
  | negQ31 (k : Fin 36) (d a : Fin 32) (e : Enc)
  /-- ABS_I32 (R373). Instruction abs.i32 takes the absolute value. -/
  | absI32 (k : Fin 36) (d a : Fin 32) (e : Enc)
  /-- ABS_Q31 (R373). Instruction abs.q31 takes the absolute value with saturation. -/
  | absQ31 (k : Fin 36) (d a : Fin 32) (e : Enc)
  /-- MIN_I32 (R373). Instruction min.i32 takes the signed minimum. -/
  | minI32 (k : Fin 36) (d a b : Fin 32) (e : Enc)
  /-- MAX_I32 (R373). Instruction max.i32 takes the signed maximum. -/
  | maxI32 (k : Fin 36) (d a b : Fin 32) (e : Enc)
  /-- MINU_U32 (R373). Instruction minu.u32 takes the unsigned minimum. -/
  | minuU32 (k : Fin 36) (d a b : Fin 32) (e : Enc)
  /-- MAXU_U32 (R373). Instruction maxu.u32 takes the unsigned maximum. -/
  | maxuU32 (k : Fin 36) (d a b : Fin 32) (e : Enc)
  /-- AND (R373). Instruction and computes bitwise AND. -/
  | and (k : Fin 36) (d a b : Fin 32) (e : Enc)
  /-- OR (R373). Instruction or computes bitwise OR. -/
  | or (k : Fin 36) (d a b : Fin 32) (e : Enc)
  /-- XOR (R373). Instruction xor computes bitwise XOR. -/
  | xor (k : Fin 36) (d a b : Fin 32) (e : Enc)
  /-- ANDN (R373). Instruction andn computes a AND NOT b. -/
  | andn (k : Fin 36) (d a b : Fin 32) (e : Enc)
  /-- SHL (R373). Instruction shl shifts left by b[4:0]. -/
  | shl (k : Fin 36) (d a b : Fin 32) (e : Enc)
  /-- SHR (R373). Instruction shr shifts right logically. -/
  | shr (k : Fin 36) (d a b : Fin 32) (e : Enc)
  /-- SRA (R373). Instruction sra shifts right arithmetically. -/
  | sra (k : Fin 36) (d a b : Fin 32) (e : Enc)
  /-- SHL_Q31 (R373). Instruction shl.q31 shifts left with saturation. -/
  | shlQ31 (k : Fin 36) (d a b : Fin 32) (e : Enc)
  /-- SEQ (R384). Instruction seq writes 1 if the operands are equal. -/
  | seq (k : Fin 36) (d a b : Fin 32) (e : Enc)
  /-- SNE (R384). Instruction sne writes 1 if the operands differ. -/
  | sne (k : Fin 36) (d a b : Fin 32) (e : Enc)
  /-- SLT (R384). Instruction slt writes 1 on signed less-than. -/
  | slt (k : Fin 36) (d a b : Fin 32) (e : Enc)
  /-- SLTU (R384). Instruction sltu writes 1 on unsigned less-than. -/
  | sltu (k : Fin 36) (d a b : Fin 32) (e : Enc)
  /-- SGE (R384). Instruction sge writes 1 on signed greater-or-equal. -/
  | sge (k : Fin 36) (d a b : Fin 32) (e : Enc)
  /-- SGEU (R384). Instruction sgeu writes 1 on unsigned greater-or-equal. -/
  | sgeu (k : Fin 36) (d a b : Fin 32) (e : Enc)
  /-- CLZ (R373). Instruction clz counts leading zeros. -/
  | clz (k : Fin 36) (d a : Fin 32) (e : Enc)
  /-- NOT (R373). Instruction not inverts all bits. -/
  | not (k : Fin 36) (d a : Fin 32) (e : Enc)
  /-- ADDI_I32 (R373). Instruction addi.i32 adds a sign-extended immediate. -/
  | addiI32 (k : Fin 36) (d a : Fin 32) (imm : Word) (e : Enc)
  /-- ANDI (R373). Instruction andi ANDs with a sign-extended immediate. -/
  | andi (k : Fin 36) (d a : Fin 32) (imm : Word) (e : Enc)
  /-- ORI (R373). Instruction ori ORs with a sign-extended immediate. -/
  | ori (k : Fin 36) (d a : Fin 32) (imm : Word) (e : Enc)
  /-- XORI (R373). Instruction xori XORs with a sign-extended immediate. -/
  | xori (k : Fin 36) (d a : Fin 32) (imm : Word) (e : Enc)
  /-- SHLI (R373). Instruction shli shifts left by an immediate. -/
  | shli (k : Fin 36) (d a : Fin 32) (imm : Word) (e : Enc)
  /-- SHRI (R373). Instruction shri shifts right logically by an immediate. -/
  | shri (k : Fin 36) (d a : Fin 32) (imm : Word) (e : Enc)
  /-- SRAI (R373). Instruction srai shifts right arithmetically by an immediate. -/
  | srai (k : Fin 36) (d a : Fin 32) (imm : Word) (e : Enc)
  /-- SEQI (R384). Instruction seqi compares equal with an immediate. -/
  | seqi (k : Fin 36) (d a : Fin 32) (imm : Word) (e : Enc)
  /-- SNEI (R384). Instruction snei compares not-equal with an immediate. -/
  | snei (k : Fin 36) (d a : Fin 32) (imm : Word) (e : Enc)
  /-- SLTI (R384). Instruction slti compares signed less-than with an immediate. -/
  | slti (k : Fin 36) (d a : Fin 32) (imm : Word) (e : Enc)
  /-- SLTUI (R384). Instruction sltui compares unsigned less-than with an immediate. -/
  | sltui (k : Fin 36) (d a : Fin 32) (imm : Word) (e : Enc)
  /-- MUL_I32 (R356). Instruction mul.i32 writes the signed product to an m register. -/
  | mulI32 (k : Fin 36) (d a b : Fin 32) (e : Enc)
  /-- MUL_U32 (R356). Instruction mul.u32 writes the unsigned product to an m register. -/
  | mulU32 (k : Fin 36) (d a b : Fin 32) (e : Enc)
  /-- MUL_Q31 (R376). Instruction mul.q31 writes the exact Q2.62 product to an m register. -/
  | mulQ31 (k : Fin 36) (d a b : Fin 32) (e : Enc)
  /-- MAC_I32 (R357). Instruction mac.i32 accumulates a signed product modulo 2^72. -/
  | macI32 (k : Fin 36) (d a b : Fin 32) (e : Enc)
  /-- MAC_U32 (R357). Instruction mac.u32 accumulates an unsigned product modulo 2^72. -/
  | macU32 (k : Fin 36) (d a b : Fin 32) (e : Enc)
  /-- MAC_Q31 (R357). Instruction mac.q31 accumulates a product with 72-bit saturation. -/
  | macQ31 (k : Fin 36) (d a b : Fin 32) (e : Enc)
  /-- MSU_Q31 (R357). Instruction msu.q31 subtracts a product with 72-bit saturation. -/
  | msuQ31 (k : Fin 36) (d a b : Fin 32) (e : Enc)
  /-- DMAC_Q15X2 (R357). Instruction dmac.q15x2 accumulates the dual lane product. -/
  | dmacQ15x2 (k : Fin 36) (d a b : Fin 32) (e : Enc)
  /-- MTM (R373). Instruction mtm moves a w register into an m register scaled by 2^31. -/
  | mtm (k : Fin 36) (d a : Fin 32) (e : Enc)
  /-- CLR_M (R373). Instruction clr.m clears an m register. -/
  | clrM (k : Fin 36) (d : Fin 32) (e : Enc)
  /-- ACC_ADD (R376). Instruction acc.add adds an m register into an accumulator with saturation. -/
  | accAdd (k : Fin 36) (d a : Fin 32) (e : Enc)
  /-- ACC_SUB (R376). Instruction acc.sub subtracts an m register from an accumulator with saturation. -/
  | accSub (k : Fin 36) (d a : Fin 32) (e : Enc)
  /-- CLR_A (R373). Instruction clr.a clears an accumulator. -/
  | clrA (k : Fin 36) (d : Fin 32) (e : Enc)
  /-- MTA (R373). Instruction mta moves a w register into an accumulator scaled by 2^31. -/
  | mta (k : Fin 36) (d a : Fin 32) (e : Enc)
  /-- LD_B (R377). Instruction ld.b loads a byte sign-extended. -/
  | ldB (k : Fin 36) (d a : Fin 32) (imm : Word) (e : Enc)
  /-- LD_BU (R377). Instruction ld.bu loads a byte zero-extended. -/
  | ldBu (k : Fin 36) (d a : Fin 32) (imm : Word) (e : Enc)
  /-- LD_H (R377). Instruction ld.h loads a halfword sign-extended. -/
  | ldH (k : Fin 36) (d a : Fin 32) (imm : Word) (e : Enc)
  /-- LD_HU (R377). Instruction ld.hu loads a halfword zero-extended. -/
  | ldHu (k : Fin 36) (d a : Fin 32) (imm : Word) (e : Enc)
  /-- LD_W (R377). Instruction ld.w loads a word, waiting or forwarding under the store buffer rules. -/
  | ldW (k : Fin 36) (d a : Fin 32) (imm : Word) (e : Enc)
  /-- ST_B (R377). Instruction st.b stores a byte through the store buffer. -/
  | stB (k : Fin 36) (d a : Fin 32) (imm : Word) (e : Enc)
  /-- ST_H (R377). Instruction st.h stores a halfword. -/
  | stH (k : Fin 36) (d a : Fin 32) (imm : Word) (e : Enc)
  /-- ST_W (R377). Instruction st.w stores a word. -/
  | stW (k : Fin 36) (d a : Fin 32) (imm : Word) (e : Enc)
  /-- LD_D (R377). Instruction ld.d loads a register pair. -/
  | ldD (k : Fin 36) (d a : Fin 32) (imm : Word) (e : Enc)
  /-- ST_D (R425). Instruction st.d stores a register pair as one 8-byte store. -/
  | stD (k : Fin 36) (d a : Fin 32) (imm : Word) (e : Enc)
  /-- LDX_W (R377). Instruction ldx.w loads a word at a + b. -/
  | ldxW (k : Fin 36) (d a b : Fin 32) (e : Enc)
  /-- STX_W (R377). Instruction stx.w stores a word at a + b. -/
  | stxW (k : Fin 36) (d a b : Fin 32) (e : Enc)
  /-- DIV_I32 (R378). Instruction div.i32 divides signed in the LONG unit. -/
  | divI32 (k : Fin 36) (d a b : Fin 32) (e : Enc)
  /-- DIV_U32 (R378). Instruction div.u32 divides unsigned. -/
  | divU32 (k : Fin 36) (d a b : Fin 32) (e : Enc)
  /-- REM_I32 (R378). Instruction rem.i32 takes the signed remainder. -/
  | remI32 (k : Fin 36) (d a b : Fin 32) (e : Enc)
  /-- REM_U32 (R378). Instruction rem.u32 takes the unsigned remainder. -/
  | remU32 (k : Fin 36) (d a b : Fin 32) (e : Enc)
  /-- DIV_Q31 (R378). Instruction div.q31 divides in frac32 with rounding and saturation. -/
  | divQ31 (k : Fin 36) (d a b : Fin 32) (e : Enc)
  /-- SQRT_Q31 (R378). Instruction sqrt.q31 takes the square root in frac32. -/
  | sqrtQ31 (k : Fin 36) (d a : Fin 32) (e : Enc)
  /-- RCP_Q31 (R378). Instruction rcp.q31 takes the reciprocal of a normalised operand. -/
  | rcpQ31 (k : Fin 36) (d a : Fin 32) (e : Enc)
  /-- LMAC_Q63 (R378). Instruction lmac.q63 accumulates a 64-bit pair product into an accumulator. -/
  | lmacQ63 (k : Fin 36) (d a b : Fin 32) (e : Enc)
  /-- B (R365). Instruction b branches unconditionally. -/
  | b (k : Fin 36) (imm : Word) (e : Enc)
  /-- CALL (R386). Instruction call pushes the return address and branches. -/
  | call (k : Fin 36) (imm : Word) (e : Enc)
  /-- RET (R388). Instruction ret pops the return stack and branches, or faults when empty. -/
  | ret (k : Fin 36) (e : Enc)
  /-- JR (R373). Instruction jr branches to a register. -/
  | jr (k : Fin 36) (a : Fin 32) (e : Enc)
  /-- CALLR (R386). Instruction callr pushes the return address and branches to a register. -/
  | callr (k : Fin 36) (a : Fin 32) (e : Enc)
  /-- BZ (R384). Instruction bz branches if the tested register is 0. -/
  | bz (k : Fin 36) (a : Fin 32) (imm : Word) (e : Enc)
  /-- BNZ (R384). Instruction bnz branches if the tested register is not 0. -/
  | bnz (k : Fin 36) (a : Fin 32) (imm : Word) (e : Enc)
  /-- CBEQ (R384). Instruction cbeq branches when the operands are equal. -/
  | cbeq (k : Fin 36) (x y : Fin 32) (imm : Word) (e : Enc)
  /-- CBNE (R384). Instruction cbne branches when the operands differ. -/
  | cbne (k : Fin 36) (x y : Fin 32) (imm : Word) (e : Enc)
  /-- CBLT (R384). Instruction cblt branches on signed less-than. -/
  | cblt (k : Fin 36) (x y : Fin 32) (imm : Word) (e : Enc)
  /-- CBGE (R384). Instruction cbge branches on signed greater-or-equal. -/
  | cbge (k : Fin 36) (x y : Fin 32) (imm : Word) (e : Enc)
  /-- CBLTU (R384). Instruction cbltu branches on unsigned less-than. -/
  | cbltu (k : Fin 36) (x y : Fin 32) (imm : Word) (e : Enc)
  /-- CBGEU (R384). Instruction cbgeu branches on unsigned greater-or-equal. -/
  | cbgeu (k : Fin 36) (x y : Fin 32) (imm : Word) (e : Enc)
  /-- LOOP (R389). Instruction loop sets LPS, LPE and LPC for a hardware loop. -/
  | loop (k : Fin 36) (a : Fin 32) (imm : Word) (e : Enc)
  /-- TRAP (R399). Instruction trap enters descriptor 64 + n. -/
  | trap (k : Fin 36) (n : Byte) (e : Enc)
  /-- RETX (R406). Instruction retx restores PC, PSTAT, XCAUSE and XADDR from the frame, or faults. -/
  | retx (k : Fin 36) (e : Enc)
  /-- WAIT (R417). Instruction wait suspends issue until an enabled line is pending. -/
  | wait (k : Fin 36) (e : Enc)
  /-- BARRIER (R330). Instruction barrier waits for all earlier instructions and both store drain paths. -/
  | barrier (k : Fin 36) (e : Enc)
  /-- MFS (R350). Instruction mfs reads a special register. -/
  | mfs (k : Fin 36) (d a : Fin 32) (e : Enc)
  /-- MTS (R351). Instruction mts writes a special register, context-synchronizing for PSTAT and WINBASE. -/
  | mts (k : Fin 36) (d a : Fin 32) (e : Enc)
  /-- CE_CNT_READ (R432). A read of CE_CNT returns the count and clears it. -/
  | ceCntRead (id : Fin 119) (who : Requester)
  /-- UE_CNT_READ (R432). A read of UE_CNT returns the count and clears it. -/
  | ueCntRead (id : Fin 119) (who : Requester)
  /-- SCRUB_WORD (R439). A scrubber reads, decodes and counts one word, completing the pass after the last. -/
  | scrubWord (n : Fin 4)
  /-- CVU_COMPLETE (R450). A CVU operation ends, its outcome is decided and DONE is raised. -/
  | cvuComplete (c : Fin 8)
  /-- FRAME_RECEIVE (R465). An Ethernet frame is received and filtered, answered or passed to its consumer. -/
  | frameReceive (e : Fin 2) (bytes : List Byte) (fcsOk : Bool) (line : RxLine)
  /-- PFC_PAUSE_EXPIRY (R467). The pause quanta of a priority expire and transmission resumes. -/
  | pfcPauseExpiry (e : Fin 2) (p : Fin 8)
  /-- RAWTX_DONE (R474). A transmit slot has left, RAWTX_RD advances and RAWTX_DONE is raised. -/
  | rawtxDone (e : Fin 2) (fines : Nat)
  /-- TS_HEAD_READ (R472). A read of TS_HEAD pops a stamp and copies it into TS_POP_LO and TS_POP_HI. -/
  | tsHeadRead (e : Fin 2) (who : Requester)
  /-- OPEN (R484). A Uandi OPEN starts a new session generation and reports the last request performed. -/
  | sessOpen (h : UandiHead)
  /-- CLOSE (R485). A Uandi CLOSE closes the session after responding. -/
  | close (h : UandiHead)
  /-- READ (R478). A Uandi READ reads one aligned word at a fabric address. -/
  | read (h : UandiHead) (addr : FabAddr)
  /-- WRITE (R478). A Uandi WRITE writes one aligned word at a fabric address. -/
  | write (h : UandiHead) (addr : FabAddr) (data : Word)
  /-- READ_BLOCK (R478). A Uandi READ_BLOCK reads up to 8192 bytes. -/
  | readBlock (h : UandiHead) (addr : FabAddr) (len : Word)
  /-- WRITE_BLOCK (R479). A Uandi WRITE_BLOCK writes up to 8192 bytes. -/
  | writeBlock (h : UandiHead) (addr : FabAddr) (len : Word) (rest : List Byte)
  /-- RMW (R478). A Uandi RMW reads and masks-writes one word in one access. -/
  | rmw (h : UandiHead) (addr : FabAddr) (mask data : Word)
  /-- FENCE (R482). A Uandi FENCE completes after every earlier request of the session has completed. -/
  | fence (h : UandiHead)
  /-- ABORT_FUNCTION (R487). A Uandi ABORT_FUNCTION writes PAGE_CTL.ABORT and answers with the outcome. -/
  | abortFunction (h : UandiHead) (addr : FabAddr)
  /-- EVENT_SUBSCRIBE (R489). A Uandi EVENT_SUBSCRIBE sets, extends or reduces the session's event sources. -/
  | eventSubscribe (h : UandiHead) (mode : Byte) (hold : BitVec 16) (map : BitVec 1024)
  /-- CREDIT (R488). An unsequenced CREDIT updates a stream's cumulative credit limit. -/
  | credit (e : Fin 2) (h : UandiHead) (stream : Byte) (limit : Word)
  /-- LOAD_IMAGE (R491). A Uandi LOAD_IMAGE places an image chunk in the staging area. -/
  | loadImage (h : UandiHead) (offset total : Word) (last : Bool) (data : List Byte)
  /-- REMOTE_TIMEOUT (R482). A remote target that does not answer within REMOTE_TO ends the request with TIMEOUT. -/
  | remoteTimeout (n : Fin 16) (seq : BitVec 32)
  /-- EVENT_FRAME_HOLD_EXPIRY (R489). HOLD µs after the oldest queued record was granted, an event frame is sent. -/
  | eventFrameHoldExpiry (n : Fin 16)
  /-- RECORD_FLUSH_EXPIRY (R501). FLUSH ticks after its first entry a record closes. -/
  | recordFlushExpiry (n : Fin 16)
  /-- FRAME_FLUSH_EXPIRY (R504). FLUSH ticks after its first record closed a stream frame becomes ready to leave. -/
  | frameFlushExpiry (n : Fin 16)
  /-- STREAM_FAILOVER (R510). ETH1 down for FO_DELAY moves a failover stream to ETH0. -/
  | streamFailover (n : Fin 16)
  /-- STREAM_FAILBACK (R510). ETH1 up for FO_DELAY moves a failover stream back. -/
  | streamFailback (n : Fin 16)
  /-- IDENT (R517). An IDENT received in TRAIN completes training and the link enters UP. -/
  | ident (l : Fin 8) (uid : BitVec 64) (id : BitVec 12) (link : Fin 8) (tgen : BitVec 16) (fresh : Bool) (rxInv : BitVec 4) (reversed : Bool)
  /-- RESUME (R517). A RESUME received after RETRAIN restarts replay from the expected number and the link enters UP. -/
  | resume (l : Fin 8) (x : LctlWord)
  /-- LANE_LOCK_LOSS (R516). A link loses lane lock and enters RETRAIN. -/
  | laneLockLoss (l : Fin 8) (lane : Fin 4)
  /-- LINK_FAIL (R516). A link in RETRAIN for FAIL_TO enters FAILED and discards its replay buffer. -/
  | linkFail (l : Fin 8)
  /-- LINK_FAILED_RETRY (R516). 10 ms after entering FAILED the link enters TRAIN. -/
  | linkFailedRetry (l : Fin 8)
  /-- LCTL_TIMEOUT (R523). No LCTL for 2 µs while UP sends the link into RETRAIN. -/
  | lctlTimeout (l : Fin 8)
  /-- LCTL_ACK (R522). An LCTL ACK releases acknowledged flits from the replay buffer and returns credit. -/
  | lctlAck (l : Fin 8) (n : Fin 4096) (vc : Fin 4) (credits : Fin 64)
  /-- LCTL_NAK (R522). An LCTL NAK resends every unacknowledged flit from the named number. -/
  | lctlNak (l : Fin 8) (n : Fin 4096) (vc : Fin 4) (credits : Fin 64)
  /-- ACK_TIMER_EXPIRY (R522). 200 ns after the oldest unacknowledged acceptance the receiver sends an ACK. -/
  | ackTimerExpiry (l : Fin 8)
  /-- NAK_REPEAT_EXPIRY (R522). After 1 µs without progress the receiver repeats its NAK. -/
  | nakRepeatExpiry (l : Fin 8)
  /-- REQ_MESSAGE (R528). A REQ message arriving at its destination is performed and answered with a RESP. -/
  | reqMessage (l : Fin 8) (flits : List Flit)
  /-- RESP_MESSAGE (R528). A RESP message completes the request it answers. -/
  | respMessage (l : Fin 8) (flits : List Flit)
  /-- TRIP_FLIT (R538). A received TRIP flit acts for one tick as a source of each named zone with FAB_IN. -/
  | tripFlit (l : Fin 8) (zones : Byte) (origin : BitVec 12) (stamp : BitVec 48)
  /-- EVENT_FLIT (R564). A received EVENT flit becomes a forwarded request of the local EVA. -/
  | eventFlit (l : Fin 8) (f : Flit)
  /-- FENCE_FLIT (R535). A FENCE flit at its destination is answered with FENCE_ACK. -/
  | fenceFlit (l : Fin 8) (f : Flit)
  /-- FENCE_ACK (R535). A FENCE_ACK releases the flits held in the fence queue. -/
  | fenceAck (l : Fin 8) (f : Flit)
  /-- FABRIC_REQ_TIMEOUT (R533). A core or CVU request without response within REQ_TO completes with TIMEOUT. -/
  | fabricReqTimeout (tag : BitVec 16)
  /-- MAINT_FLIT (R541). A received MAINT request is forwarded along its path or performed at its target and answered. -/
  | maintFlit (l : Fin 8) (f : Flit)
  /-- MAINT_RESPONSE (R543). A MAINT response returns, MSTAT.DONE sets and MAINT_DONE is raised. -/
  | maintResponse (l : Fin 8) (f : Flit)
  /-- LOG_HEAD_READ (R566). A read of LOG_HEAD pops the oldest log record and copies its fields. -/
  | logHeadRead (who : Requester)
  /-- PEND_PEAK_READ (R561). A read of PEND_PEAK returns the peak pending count and clears it. -/
  | pendPeakRead (who : Requester)
  /-- FIREFLY_REORDER_TIMEOUT (R575). A held unit with no further unit within 1 µs is sent alone. -/
  | fireflyReorderTimeout (i : Fin 10)
  /-- WAKE_TIO (R592). A rising edge on an enabled TIO0–TIO3 wakes the device. -/
  | wakeTio (pin : Fin 4)
  /-- RESET (R593). RESET_N rising, or a RETAIN wake, runs BOOT from AON power-up to CONFIGURE. -/
  | reset (x : BootRun)
  /-- DAWN_SLICE_TIMEOUT (R598). A Dawn slice not passed 2 ms after its step began fails with a timeout. -/
  | dawnSliceTimeout (step : Fin 20) (slices : BitVec 64)
  /-- DAWN_DONE (R599). A Dawn run ends, failed blocks are marked UNUSABLE and the previous mode returns. -/
  | dawnDone (found : DawnSet)
  /-- LINK_CHG (R494). An Ethernet port's link state changes (lane lock, alignment, fault, LINK_UP), its STAT updates and LINK_CHG is raised. -/
  | linkChg (e : Fin 2) (v : Word)
  /-- TRIP_PIN_DEASSERT (R114). A TRIP pin leaves its asserted level, its TRIP_LVL bit clears and it stops asserting as a source of its zones. -/
  | tripPinDeassert (pin : Fin 32)
  /-- REF_OK_RESTORED (R173). The group's differential reference returns within ±2 % of 1.500 V and REF_OK sets, letting rotation steps start again. -/
  | refOkRestored (q : Fin 8)
  /-- SLICE_OVERLOAD_END (R174). 64 ticks after a slice's input returns inside ±1.35 V the slice resumes normal bits and the full-scale hold ends. -/
  | sliceOverloadEnd (q : Fin 8) (sl : Fin 13)
  /-- PD_CHG (R581). A power domain reaches OFF or ON after a PD_OFF write, PD_ON updates, memories are cleared on power-up and PD_CHG is raised. -/
  | pdChg (k : Fin 64)
  /-- CRC_ERR (R520). A flit arrives with a bad CRC, a reserved TYPE, a wrong VC or an LSEQ gap, is discarded, counted in CRC_ERR and answered by a NAK. -/
  | crcErr (l : Fin 8)
  /-- FO_FENCE_EXPIRY (R511). FO_FENCE µs after a stream's last frame left the old port, its first frame may leave on the new port. -/
  | foFenceExpiry (n : Fin 16)
  /-- LOCK_WRITE (R35). Writing the key 0x0000_4C4B to LOCK locks the page; any other value is ignored. -/
  | lockWrite (page : Page) (w : Wr)
  /-- OWNER_WRITE (R37). A write of OWNER by the owner, or by anyone when unowned, sets or clears the page owner. -/
  | ownerWrite (page : Page) (w : Wr)
  /-- IRQ_FORCE (R40). Writing 1 to a bit of IRQ_FORCE sets the same IRQ_RAW bit and nothing else. -/
  | irqForce (page : Page) (w : Wr)
  /-- PAGE_ENABLE (R46). A write of PAGE_CTL.EN enables or disables the function, and a change from 0 to 1 clears an UNUSABLE mark left by a forced abort. -/
  | pageEnable (page : Page) (w : Wr)
  /-- SOFT_RST (R39). Writing PAGE_CTL.SOFT_RST starts a soft reset of the page, preceded by an abort if the function is busy. -/
  | softRst (page : Page) (w : Wr)
  /-- ABORT (R41). Writing PAGE_CTL.ABORT starts an abort that cancels a suffix of the function's queued and running work. -/
  | abort (page : Page) (w : Wr)
  /-- RELOCK (R51). Writing REF_CTL.RELOCK starts relock of the time reference once REFIN has returned. -/
  | relock (w : Wr)
  /-- TLCMP_ARM (R60). A write of TLCMP_HI loads both halves of a time-line compare and arms it. -/
  | tlcmpArm (c : Fin 8) (w : Wr)
  /-- REACQ (R69). Writing SYNC_CTL.REACQ enters ACQUIRE when PARENT is set. -/
  | reacq (w : Wr)
  /-- PTP_COMMIT (R74). Writing PTP_CTL.COMMIT schedules the transfer of the PTP shadow values at the commit boundary. -/
  | ptpCommit (w : Wr)
  /-- LEGSYS_START (R87). A write to LEGSYS.START sets RUN of the named groups at one common tick, each loading its PHASE. -/
  | legsysStart (w : Wr)
  /-- LEGSYS_STOP (R87). A write to LEGSYS.STOP clears RUN of the named groups at one common tick. -/
  | legsysStop (w : Wr)
  /-- GSYNC_SW (R636). A write of LEGSYS.GSYNC_SW produces the global sync event at the second tick boundary. -/
  | gsyncSw (w : Wr)
  /-- TZ_SW (R113). A write of bit z to LEGSYS.TZ_SW acts as a source of zone z. -/
  | tzSw (w : Wr)
  /-- TZ_CLR (R115). A write of LEGSYS.TZ_CLR clears a zone if none of its sources asserts at the tick it becomes usable. -/
  | tzClr (w : Wr)
  /-- SAFEPAT_WRITE (R135). A write of SAFEPAT.PAT or ILK takes effect at once, also while the safe pattern is applied. -/
  | safepatWrite (pat : Option (Fin 8)) (w : Wr)
  /-- TIMER_COUNT_WRITE (R141). A write to COUNT replaces the count with no step, match or overflow. -/
  | timerCountWrite (n : Fin 64) (w : Wr)
  /-- MODG_INIT (R177). Writing MODG.CTL.INIT starts the initial calibration of all 13 slices of a group. -/
  | modgInit (q : Fin 8) (w : Wr)
  /-- COEF_WRITE (R176). A write of OFFS or GAIN is refused with COEF_LOCKED while the MODG page is enabled and applied otherwise. -/
  | coefWrite (q : Fin 8) (sl : Fin 13) (gain : Bool) (w : Wr)
  /-- SW_TRG (R220). Writing a SW_TRG bit fires the trigger entry, issuing a request to its engine. -/
  | swTrg (hi : Bool) (w : Wr)
  /-- BANK_SWAP (R271). Writing BANK.SWAP exchanges the coefficient banks at the next evaluation. -/
  | bankSwap (u : Fin 32) (w : Wr)
  /-- INT_CLR (R274). Writing BANK.INT_CLR clears both integrators before the next evaluation. -/
  | intClr (u : Fin 32) (w : Wr)
  /-- POS_COUNT_WRITE (R296). A write to COUNT sets RAW and COUNT at the tick it becomes usable. -/
  | posCountWrite (n : Fin 32) (w : Wr)
  /-- SSI_START (R307). Writing SSI_CTL.START starts an SSI frame, or refuses it with cause LINE_LOW or OVERRUN. -/
  | ssiStart (n : Fin 32) (w : Wr)
  /-- CORE_START (R342). Writing CORE.CTL.RUN from 0 to 1 starts the core at START_PC in privilege M. -/
  | coreStart (k : Fin 36) (w : Wr)
  /-- CACHE_DINV (R319). Writing CACHE_CTL.DINV invalidates the D-cache. -/
  | cacheDinv (k : Fin 36) (w : Wr)
  /-- CACHE_IINV (R319). Writing CACHE_CTL.IINV invalidates the I-cache. -/
  | cacheIinv (k : Fin 36) (w : Wr)
  /-- DBG_HALT (R344). Writing DBG.HALT requests a debug halt at the next instruction boundary. -/
  | dbgHalt (k : Fin 36) (w : Wr)
  /-- DBG_RESUME (R344). Writing DBG.RESUME continues execution of a halted core. -/
  | dbgResume (k : Fin 36) (w : Wr)
  /-- DBG_STEP (R344). Writing DBG.STEP executes one issue position with interrupts held and halts again. -/
  | dbgStep (k : Fin 36) (w : Wr)
  /-- DBG_RDATA_ACCESS (R348). An access to DBG_RDATA or DBG_RTAG reads or writes the selected register while halted, or sets NOT_HALTED. -/
  | dbgRdataAccess (k : Fin 36) (tag : Bool) (who : Requester) (w : Option Wr)
  /-- ICU_SET (R420). Writing ICU SET_LO or SET_HI sets PEND bits. -/
  | icuSet (k : Fin 36) (hi : Bool) (w : Wr)
  /-- SCRUB_REPORT (R438). START with MODE REPORT begins a scrubber pass that counts outcomes without writing. -/
  | scrubReport (n : Fin 4) (w : Wr)
  /-- SCRUB_REPAIR (R439). START with MODE REPAIR begins a scrubber pass that rewrites corrected and uncorrectable words. -/
  | scrubRepair (n : Fin 4) (w : Wr)
  /-- CVU_COMPUTE (R448). START in COMPUTE mode scans the range and writes RES. -/
  | cvuCompute (c : Fin 8) (w : Wr)
  /-- CVU_CHECK (R448). START in CHECK mode scans the range and compares RES with EXPECT. -/
  | cvuCheck (c : Fin 8) (w : Wr)
  /-- CVU_MESSAGE (R449). START in MESSAGE mode checks one Cricket message and its alive counter. -/
  | cvuMessage (c : Fin 8) (w : Wr)
  /-- CLR_LAST (R451). Writing CTL.CLR_LAST clears LAST_CTR.VALID. -/
  | clrLast (c : Fin 8) (w : Wr)
  /-- RAWTX_WR (R474). Advancing RAWTX_WR queues transmit ring slots for sending. -/
  | rawtxWr (e : Fin 2) (w : Wr)
  /-- MAINT_READ (R543). MCTL.GO with OP READ sends a MAINT read request along MPATH. -/
  | maintRead (w : Wr)
  /-- MAINT_WRITE (R543). MCTL.GO with OP WRITE sends a MAINT write request along MPATH. -/
  | maintWrite (w : Wr)
  /-- TGEN_WRITE (R544). A write of FAB.TGEN with a newer generation makes its requester the claimant. -/
  | tgenWrite (w : Wr)
  /-- RELEASE (R544). Writing FAB.CTL.RELEASE releases the claim. -/
  | release (w : Wr)
  /-- ID_WRITE (R545). A write of FAB.ID changes the device ID, announces it by IDENT and may fill dimension-order routes. -/
  | idWrite (w : Wr)
  /-- FIREFLY_ARM (R578). Writing ARM from 0 to 1 resets SEEN and INJ_CNT and loads the LFSR. -/
  | fireflyArm (i : Fin 10) (w : Wr)
  /-- PD_OFF_WRITE (R581). A write of PWR.PD_OFF switches domains off or on, subject to its refusals. -/
  | pdOffWrite (hi : Bool) (w : Wr)
  /-- MODE_REQ_RUN (R585). MODE.REQ = RUN requests RUN, refused while a RUN block holds. -/
  | modeReqRun (w : Wr)
  /-- MODE_REQ_HOLD (R584). MODE.REQ = HOLD requests HOLD. -/
  | modeReqHold (w : Wr)
  /-- MODE_REQ_CONFIGURE (R584). MODE.REQ = CONFIGURE requests CONFIGURE. -/
  | modeReqConfigure (w : Wr)
  /-- MODE_REQ_SAFE (R586). MODE.REQ = SAFE starts Dusk. -/
  | modeReqSafe (w : Wr)
  /-- MODE_REQ_SELFTEST (R600). MODE.REQ = SELFTEST starts an on-command Dawn run. -/
  | modeReqSelftest (x : DawnAsk)
  /-- MODE_REQ_SLEEP (R590). MODE.REQ = SLEEP waits for all running cores to be idle and then enters SLEEP. -/
  | modeReqSleep (w : Wr)
  /-- MODE_REQ_RETAIN (R591). MODE.REQ = RETAIN powers down all but AON and retained banks. -/
  | modeReqRetain (w : Wr)
  /-- VERIFY (R594). Writing BOOT.CTL.VERIFY verifies a neighbour-staged image. -/
  | verify (w : Wr)
  /-- RB_ADV (R597). Writing BOOT.CTL.RB_ADV raises the fused rollback level to the running image's RB_VER. -/
  | rbAdv (w : Wr)
  /-- DAWN_RUN (R600). Writing DAWN.CTL.RUN starts an on-command Dawn run. -/
  | dawnRun (x : DawnAsk)
  /-- REF_LOCK (R49). The time reference locks to REFIN and the time line starts counting from 0. -/
  | refLock
  /-- REF_LOSS (R50). The reference monitor declares loss of REFIN, enters holdover, raises REF_LOSS and trips the zones in LOSS_TZ. -/
  | refLoss
  /-- RELOCK_DONE (R51). Relock completes, LOCK sets and HOLDOVER clears together. -/
  | relockDone
  /-- MIDNIGHT (R57). The 48-bit stamp field rolls over, EPOCH increments and EVA raises MIDNIGHT. -/
  | midnight
  /-- SYNC_WORD_SEND (R63). The ROOT device sends its SYNC word with hop count 0 at time line 2^18. -/
  | syncWordSend
  /-- SYNC_TIMEOUT (R65). No valid SYNC word arrives within 2^20 ticks after lock and SYNC_TIMEOUT sets. -/
  | syncTimeout
  /-- PTP_COMMIT_BOUNDARY (R74). At the commit boundary the PTP shadow values standing there become active together. -/
  | ptpCommitBoundary
  /-- MAKE_UP (R75). After wake and relock the time line, timers, carriers and table phases are advanced by WAKE_CNT times 1280 ticks and WAKE is raised. -/
  | makeUp
  /-- SAFE_N_FALL (R124). SAFE_N falls, the safe pattern is applied and the SAFE_N event is raised. -/
  | safeNFall
  /-- SAFE_N_RISE (R134). SAFE_N rises and the SAFE_N rose cause is raised. -/
  | safeNRise
  /-- IMAGE_VERIFY_DONE (R491). Verification of a staged image completes and the last chunk is answered OK or IMAGE_BAD. -/
  | imageVerifyDone
  /-- STREAM_FRAME_SEND (R504). A ready stream frame leaves the port when credit allows. -/
  | streamFrameSend
  /-- TRIP_REPEAT (R537). Every 1 µs while a FAB_OUT zone stays latched the TRIP flit is resent. -/
  | tripRepeat
  /-- FENCE_TIMEOUT (R535). FENCE_TO µs without FENCE_ACK release the held flits and count FENCE_TMO. -/
  | fenceTimeout
  /-- EVA_GRANT (R561). EVA grants up to 32 pending requests in stamp order and delivers their records. -/
  | evaGrant
  /-- MODE_CHG (R584). A mode transition completes and MODE_CHG is raised. -/
  | modeChg
  /-- DUSK_COMPLETE (R588). Band engines and OLUs stop, the mode becomes SAFE and DUSK is raised. -/
  | duskComplete
  /-- SLEEP_ENTRY (R590). All running cores idle, the device applies the safe pattern, stops the time line and arms wake sources. -/
  | sleepEntry
  /-- SLEEP_IDLE_TIMEOUT (R590). Cores not idle within 50 µs refuse the SLEEP request with NOT_IDLE. -/
  | sleepIdleTimeout
  /-- WAKE_ETH (R464). A Uandi frame on ETH0 in SLEEP wakes the device and is discarded. -/
  | wakeEth
  /-- WAKE_TIMER (R590). WAKE_CNT reaching WAKE_TMR wakes the device. -/
  | wakeTimer
  /-- RESET_N_PULSE (R619). A low pulse on RESET_N of at least 10 µs resets the device. -/
  | resetNPulse
  /-- BOOT_SOURCE_TIMEOUT (R594). No VERIFY within 10 s falls back to loading from the host. -/
  | bootSourceTimeout
  /-- REFIN_RETURN (R51). REFIN returns to toggling within range, allowing a pending relock to proceed. -/
  | refinReturn
  deriving DecidableEq, Repr

end Sys2Proof
end

