-- ==== Sys2Proof/Decode.lean ====
section
/-! DEFINITION. The commands that a word spells. The block has no instruction encoding of its own: the opcode table gives no row
any bits, so no word spells a command. (The Kwesyn instructions reach the model as commands whose operands are the fields of
their encodings; spec/10 gives those encodings and Machine/Kwesyn.lean the fetch of their bytes.) -/

namespace Sys2Proof

/-- No row of the table has bits, so every word is refused. DESIGN CHOICE (log 3). -/
def decodeTableWord (_nbits _w : Nat) : Option Instr := none

end Sys2Proof
end

