-- ==== Sys2Proof/Machine/Bits.lean ====
section
/-! DEFINITION. Bit-field, sign-extension and byte-order helpers: a field of a register is read as a natural number and written
back in place; signed quantities pass through `Int` and are narrowed once at the end. -/

namespace Sys2Proof.Machine

/-- The field of `n` bits of `w` whose lowest bit is `lo`. -/
def fld (w : Word) (lo n : Nat) : Nat := (w.toNat / 2 ^ lo) % 2 ^ n

/-- Bit `i` of `w`. -/
def bit (w : Word) (i : Nat) : Bool := w.getLsbD i

/-- A word from a natural number, its low 32 bits. -/
def wd (n : Nat) : Word := BitVec.ofNat 32 n

/-- A Bool as the number 0 or 1. -/
def b2n (b : Bool) : Nat := if b then 1 else 0

/-- `w` with its `n`-bit field at `lo` replaced by the low `n` bits of `v`. -/
def setFld (w : Word) (lo n v : Nat) : Word :=
  wd (w.toNat % 2 ^ lo + (v % 2 ^ n) * 2 ^ lo + (w.toNat / 2 ^ (lo + n)) * 2 ^ (lo + n))

/-- `w` with bit `i` set to `b`. -/
def setBit (w : Word) (i : Nat) (b : Bool) : Word :=
  if b then w ||| wd (2 ^ i) else w &&& ~~~ (wd (2 ^ i))

/-- The word whose only set bit is bit `i`. -/
def oneBit (i : Nat) : Word := wd (2 ^ i)

/-- `old` with the bits of `mask` taken from `new`. -/
def merge (old new mask : Word) : Word := (old &&& ~~~ mask) ||| (new &&& mask)

/-- The two's-complement value of the low `n` bits of a natural number. -/
def signed (n v : Nat) : Int :=
  if v % 2 ^ n < 2 ^ (n - 1) then Int.ofNat (v % 2 ^ n) else Int.ofNat (v % 2 ^ n) - (2 ^ n : Nat)

/-- An integer reduced modulo 2^n, as a natural number. -/
def wrapN (n : Nat) (v : Int) : Nat := (v % ((2 ^ n : Nat) : Int)).toNat

/-- An integer as a word, modulo 2^32. -/
def wdI (v : Int) : Word := wd (wrapN 32 v)

/-- `v` held between `lo` and `hi`. -/
def clampI (lo hi v : Int) : Int := if v < lo then lo else if hi < v then hi else v

/-- Saturation to a signed field of `n` bits (spec/10: frac32 saturates at both ends of its range). -/
def satI (n : Nat) (v : Int) : Int := clampI (-((2 ^ (n - 1) : Nat) : Int)) (((2 ^ (n - 1) : Nat) : Int) - 1) v

/-- A quotient rounded half to even (spec/10); the divisor is positive. -/
def roundEven (n : Int) (den : Nat) : Int :=
  let q := n / (den : Int)
  let r := n % (den : Int)
  if 2 * r < den then q else if (den : Int) < 2 * r then q + 1 else if q % 2 = 0 then q else q + 1

/-- The two's-complement value of a word. -/
def sw (w : Word) : Int := signed 32 w.toNat

/-- The low 32 bits of a natural number, and the 32 bits above them. -/
def lo32 (n : Nat) : Word := wd n
def hi32 (n : Nat) : Word := wd (n / 2 ^ 32)

/-- The indices of the set bits of `w` below `n`, ascending. -/
def bitsOf (w : Word) (n : Nat) : List Nat := (List.range n).filter (fun i => bit w i)

/-- The `n` bytes of `v`, least significant first. -/
def bytesLE : Nat → Nat → List Byte
  | 0, _ => []
  | n + 1, v => BitVec.ofNat 8 v :: bytesLE n (v / 256)

/-- The number that bytes spell, least significant first. -/
def numLE : List Byte → Nat
  | [] => 0
  | b :: bs => b.toNat + 256 * numLE bs

/-- The `n` bytes of `v`, most significant first: the order of every wire (spec/00, R10). -/
def bytesBE (n v : Nat) : List Byte := (bytesLE n v).reverse

/-- The number that bytes spell, most significant first. -/
def numBE (bs : List Byte) : Nat := numLE bs.reverse

/-- A word counter's next value; counters of the register pages wrap. -/
def incW (w : Word) : Word := w + 1#32

/-- Bytes `i` to `i + n - 1` of a list. -/
def slice (bs : List Byte) (i n : Nat) : List Byte := (bs.drop i).take n

end Sys2Proof.Machine
end

