-- ==== Sys2Proof/Machine/Pages.lean ====
section
/-! DEFINITION. Page numbers, classes and instances (R23, R603), the instances each class has (R604), the power domain of each
page (R580, R604), the pages whose EN is fixed (R605) and the event source of each page (R563). -/

namespace Sys2Proof.Machine

/-- Page number P = 64 * class + instance (R603); BE[64] to BE[127] lie in class 11. -/
def pageNum : Page → Nat
  | .tb => 0 | .legsys => 64 | .safepat => 128 | .lg g => 192 + g.val | .tmr n => 256 + n.val
  | .modg q => 320 + q.val | .xbs => 384 | .ff f => 448 + f.val | .pfe p => 512 + p.val | .pfeseq => 576
  | .be n => 640 + n.val | .olu u => 768 + u.val | .pos n => 832 + n.val | .core k => 896 + k.val
  | .icu k => 960 + k.val | .memerr => 1024 | .scrub n => 1088 + n.val | .cvu n => 1152 + n.val | .eva => 1216
  | .eth n => 1280 + n.val | .uandi => 1344 | .stream => 1408 | .fab => 1472 | .link l => 1536 + l.val
  | .route v => 1600 + v.val | .firefly i => 1664 + i.val | .mode => 1728 | .pwr => 1792 | .dawn => 1856
  | .boot => 1920 | .xspi => 1984

/-- Page numbers by class, for code that runs over instances. -/
def pgTb : Nat := 0
def pgLegsys : Nat := 64
def pgSafepat : Nat := 128
def pgLg (g : Nat) : Nat := 192 + g
def pgTmr (n : Nat) : Nat := 256 + n
def pgModg (q : Nat) : Nat := 320 + q
def pgXbs : Nat := 384
def pgFf (f : Nat) : Nat := 448 + f
def pgPfe (p : Nat) : Nat := 512 + p
def pgPfeseq : Nat := 576
def pgBe (n : Nat) : Nat := 640 + n
def pgOlu (u : Nat) : Nat := 768 + u
def pgPos (n : Nat) : Nat := 832 + n
def pgCore (k : Nat) : Nat := 896 + k
def pgIcu (k : Nat) : Nat := 960 + k
def pgMemerr : Nat := 1024
def pgScrub (n : Nat) : Nat := 1088 + n
def pgCvu (n : Nat) : Nat := 1152 + n
def pgEva : Nat := 1216
def pgEth (n : Nat) : Nat := 1280 + n
def pgUandi : Nat := 1344
def pgStream : Nat := 1408
def pgFab : Nat := 1472
def pgLink (l : Nat) : Nat := 1536 + l
def pgRoute (r : Nat) : Nat := 1600 + r
def pgFirefly (i : Nat) : Nat := 1664 + i
def pgMode : Nat := 1728
def pgPwr : Nat := 1792
def pgDawn : Nat := 1856
def pgBoot : Nat := 1920
def pgXspi : Nat := 1984

/-- Page class and instance of a page number (R23). -/
def classOf (p : Nat) : Nat := p / 64
def instOf (p : Nat) : Nat := p % 64

/-- How many instances a class has (R604); 0 for a class the directory does not list. -/
def classCount (cls : Nat) : Nat :=
  match cls with
  | 0 => 1 | 1 => 1 | 2 => 1 | 3 => 32 | 4 => 64 | 5 => 8 | 6 => 1 | 7 => 10 | 8 => 24 | 9 => 1
  | 10 => 64 | 11 => 64 | 12 => 32 | 13 => 32 | 14 => 36 | 15 => 36 | 16 => 1 | 17 => 4 | 18 => 8
  | 19 => 1 | 20 => 2 | 21 => 1 | 22 => 1 | 23 => 1 | 24 => 8 | 25 => 4 | 26 => 10
  | 27 => 1 | 28 => 1 | 29 => 1 | 30 => 1 | 31 => 1 | _ => 0

/-- The directory lists the page (R23, R604). -/
def pageListed (p : Nat) : Bool := decide (p < 4096) && decide (instOf p < classCount (classOf p))

/-- All page numbers the directory lists. -/
def allPages : List Nat := (List.range 2048).filter pageListed

/-- EN is fixed at 1 (R38, the EN column of R604). -/
def enFixed (cls : Nat) : Bool :=
  match cls with
  | 0 => true | 1 => true | 2 => true | 14 => true | 15 => true | 16 => true | 19 => true | 23 => true
  | 25 => true | 27 => true | 28 => true | 30 => true | 31 => true | _ => false

/-- The power domain PDd of a page (R604); none for SAFEPAT, which lies in AON. -/
def pageDomain (p : Nat) : Option Nat :=
  match classOf p with
  | 0 => some 0
  | 1 => some 57
  | 3 => some (1 + instOf p / 4)
  | 4 => some (22 + instOf p / 32)
  | 5 => some (9 + instOf p)
  | 6 => some 27
  | 7 => some (17 + instOf p / 5)
  | 8 => some (19 + instOf p / 8)
  | 9 => some 19
  | 10 => some (1 + instOf p / 16)
  | 11 => some (5 + instOf p / 16)
  | 12 => some 26
  | 13 => some (24 + instOf p / 16)
  | 14 => some (if instOf p < 32 then 28 + instOf p / 2 else 12 + instOf p)
  | 15 => some (if instOf p < 32 then 28 + instOf p / 2 else 12 + instOf p)
  | 16 => some 57
  | 17 => some 56
  | 18 => some 56
  | 19 => some 57
  | 20 => some (58 + instOf p)
  | 21 => some 58
  | 22 => some 59
  | 23 => some 60
  | 24 => some (60 + instOf p / 4)
  | 25 => some 60
  | 26 => some (if instOf p < 8 then 60 + instOf p / 4 else 50 + instOf p)
  | 27 => some 57
  | 28 => some 57
  | 29 => some 63
  | 30 => some 62
  | 31 => some 62
  | _ => none

/-- The EVA source ID of a page (R563). -/
def pageSource (p : Nat) : Nat :=
  let i := instOf p
  match classOf p with
  | 0 => 0 | 1 => 1 | 2 => 2 | 6 => 3 | 9 => 4 | 16 => 5 | 21 => 6 | 22 => 7 | 23 => 8 | 19 => 9
  | 20 => 10 + i | 17 => 12 + i | 5 => 16 + i | 18 => 24 + i | 24 => 32 + i | 25 => 40 + i | 26 => 44 + i
  | 7 => 54 + i | 3 => 64 + i | 8 => 96 + i | 4 => 128 + i | 12 => 192 + i | 13 => 224 + i
  | 10 => 256 + i | 11 => 320 + i | 14 => 384 + i | 15 => 420 + i
  | 27 => 456 | 28 => 457 | 29 => 458 | 30 => 459 | 31 => 460 | _ => 1023

/-- The identity word of a requester (R33): DEVID, KIND and INDEX in place, OFFSET clear. -/
def reqIdent (r : Requester) : Word :=
  wd (r.devid.toNat * 2 ^ 20 +
    (match r.kind with | .core => 1 | .session => 2 | .master => 3) * 2 ^ 18 + r.index.val * 2 ^ 12)

/-- The code of a mode in MODE.STAT and MODE.REQ (R583). DESIGN CHOICE (log 112). -/
def modeCode : Mode → Nat
  | .retain => 0 | .sleep => 1 | .boot => 2 | .selftest => 3 | .configure => 4 | .run => 5 | .hold => 6 | .safe => 7

/-- Access width in bytes. -/
def widthBytes : Width → Nat
  | .w1 => 1 | .w2 => 2 | .w4 => 4 | .w8 => 8

end Sys2Proof.Machine
end

