-- ==== Sys2Proof/Config.lean ====
section
/-! DEFINITION. What one part fixes for good (its fuse map) and what the spec leaves open. Each is an opaque constant: no proof
can see its value, so a statement that rests on it holds for every part and every outcome. -/

namespace Sys2Proof

/-- Fuse map: the MAC address of an Ethernet port, low and high words (spec/13, MAC_LO and MAC_HI). DESIGN CHOICE (log 5). -/
opaque Config.macLo : Word
opaque Config.macHi : Word

/-- Fuse map: the part's own UID (spec/15, UID_LO and UID_HI). DESIGN CHOICE (log 5). -/
opaque Config.uidLo : Word
opaque Config.uidHi : Word

/-- Fuse map: the rollback level a part is delivered with (spec/17, RB_LEVEL). DESIGN CHOICE (log 5). -/
opaque Config.rbLevel : Word

/-- Fuse map: the SHA-384 hash held in key slot `n`, as a number, and the slots that are revoked (spec/17, R595). DESIGN CHOICE (log 5). -/
opaque Config.keyHash : Nat → Nat
/-- DESIGN CHOICE (log 5). -/
opaque Config.keyRevoked : Nat → Bool

/-- Fuse map: Dawn is forced at every boot (spec/17, R593). DESIGN CHOICE (log 5). -/
opaque Config.dawnForce : Bool

/-- Fuse map: the spare rows and columns that memory `id` uses (spec/12, R434: MEMERR.SPARE). DESIGN CHOICE (log 5). -/
opaque Config.spare : Nat → Word

/-- Fuse map: the boot flash is read in 8D-8D-8D mode (spec/17, R594: XSPI_MODE). DESIGN CHOICE (log 5). -/
opaque Config.xspiOctal : Bool

/-- How many ticks a step of Dawn takes whose slices all pass (spec/17, R598: at most 2 ms, and no value is stated). DESIGN CHOICE
(log 121). -/
opaque Config.dawnTicks : Nat → Nat

/-- The ticks in which link l locks its lanes again after it has entered RETRAIN (R516): the spec gives a usual bound and no value. DESIGN
CHOICE (log 150). -/
opaque Config.relockTicks : Nat → Nat

/-- SHA-384 of a byte sequence, as a number (spec/17, R595): the published function, whose value no statement needs. DESIGN CHOICE (log 6). -/
opaque Config.sha384 : List Byte → Nat

/-- Whether (r, s) is a valid ECDSA P-384 signature by a public key over a hash (spec/17, R595). DESIGN CHOICE (log 6). -/
opaque Config.ecdsaValid : (publicKey : List Byte) → (hash : Nat) → (r s : Nat) → Bool

/-- The plain frame inside a MACsec frame as GCM-AES-256 opens it with a key of 8 words and an SCI (spec/13, R470); none where the
frame fails its ICV. DESIGN CHOICE (log 6). -/
opaque Config.macsecOpen : (key : List Word) → (sci : Nat) → (frame : List Byte) → Option (List Byte)

/-- The last units of the sine of an electrical angle: the model holds it to the interpolated table of R266 within the error the rule
allows, and the exact entries are not stated (spec/07). DESIGN CHOICE (log 6). -/
opaque Config.sinTheta : Word → Int

/-- The vector hardware rounds the exact value (rat + root3 * sqrt 3) / den up, and not down, where it is no frac32 (spec/07, R267: the
rounding of the transforms is not stated). DESIGN CHOICE (log 6). -/
opaque Config.vecRoundsUp : (rat root3 : Int) → (den : Nat) → Bool

/-- The edge-period speed of a channel whose span is not yet known (spec/08, R304): no value is stated. DESIGN CHOICE (log 9). -/
opaque Config.speedOpen : Nat → Word

/-- The symbols of a stored word stand in the code with the data bytes, and the check bytes, in falling or in rising order (spec/12, R421:
the order is not stated). DESIGN CHOICE (log 8). -/
opaque Config.rsDataDown : Bool
opaque Config.rsCheckDown : Bool

/-- The 24-bit poison pattern (spec/12, R422: it is not visible). DESIGN CHOICE (log 8). -/
opaque Config.poisonPattern : Nat

/-- The internal master numbers that requester identities carry (spec/01, R33: the numbers are not stated): CVU c by c, the boot ROM
by 8. DESIGN CHOICE (log 10). -/
opaque Config.masterNo : Nat → Fin 64

/-- The value an instruction or a block leaves open, one for each use: the argument is the counter `Device.free`. DESIGN CHOICE (log 7). -/
opaque Config.freeWord : Nat → Word

end Sys2Proof
end

