-- ==== Sys2Proof/Machine/RegTable.lean ====
section
/-! DEFINITION. The register maps of the pages: for each class the offset, reset value, writable bits and write-one-to-clear
bits of every block register, as the tables of spec/02 to spec/18 give them. Reserved bits are in no mask and read 0 (R8);
an offset that matches no row is reserved and reads 0 (R9). Registers whose value is computed, or whose write does more than
store, are treated where their page is (Machine/Access.lean); their rows stand here for their offset and reset value. -/

namespace Sys2Proof.Machine

/-- One register, or an array of them: entry (i, j) stands at `base + s1 * i + s2 * j`, for i below `n1` and j below `n2`. -/
structure RegRow where
  base : Nat
  s1 : Nat
  n1 : Nat
  s2 : Nat
  n2 : Nat
  reset : Word
  rw : Word
  w1c : Word

/-- The row answers for the byte offset `off`. -/
def RegRow.covers (r : RegRow) (off : Nat) : Bool :=
  decide (r.base ≤ off) && decide ((off - r.base) / r.s1 < r.n1) &&
    decide ((off - r.base) % r.s1 / r.s2 < r.n2) && decide ((off - r.base) % r.s1 % r.s2 = 0)

/-! Offsets of the block registers, by page class. -/

namespace Reg

namespace TB
def TL_LO : Nat := 0x040
def TL_HI : Nat := 0x044
def EPOCH : Nat := 0x048
def REF_CTL : Nat := 0x04C
def REF_STAT : Nat := 0x050
def DL_OK : Nat := 0x054
def DL_WORST : Nat := 0x058
def SYNC_CTL : Nat := 0x060
def SYNC_STAT : Nat := 0x064
def SYNC_COMP : Nat := 0x068
def SYNC_OFFSET : Nat := 0x06C
def SYNC_DELAY : Nat := 0x070
def STEP_CNT : Nat := 0x074
def PTP_RATE : Nat := 0x078
def PTP_ANC_TL_LO : Nat := 0x07C
def PTP_ANC_TL_HI : Nat := 0x080
def PTP_ANC_NS : Nat := 0x084
def PTP_ANC_SEC_LO : Nat := 0x088
def PTP_ANC_SEC_HI : Nat := 0x08C
def PTP_CTL : Nat := 0x090
def SLOW_TRIM : Nat := 0x094
def WAKE_CNT_LO : Nat := 0x098
def WAKE_CNT_HI : Nat := 0x09C
def WAKE_ERR : Nat := 0x0A0
def WAKE_STAMP_LO : Nat := 0x0A4
def WAKE_STAMP_HI : Nat := 0x0A8
def TLCMP_LO (i : Nat) : Nat := 0x0C0 + 8 * i
def TLCMP_HI (i : Nat) : Nat := 0x0C4 + 8 * i
def TLCMP_CTL : Nat := 0x100
def TLCMP_FIRED : Nat := 0x104
end TB

namespace LG
def CTL : Nat := 0x040
def PER : Nat := 0x044
def PHASE : Nat := 0x048
def COUNT : Nat := 0x04C
def STAT : Nat := 0x050
def EVT_EN : Nat := 0x054
def SHFRZ : Nat := 0x058
def CFG (i : Nat) : Nat := 0x100 + 64 * i
def ACT (i : Nat) : Nat := 0x104 + 64 * i
def CMPA (i : Nat) : Nat := 0x108 + 64 * i
def CMPB (i : Nat) : Nat := 0x10C + 64 * i
def DTR (i : Nat) : Nat := 0x110 + 64 * i
def DTF (i : Nat) : Nat := 0x114 + 64 * i
def MINP (i : Nat) : Nat := 0x118 + 64 * i
def DIRECT (i : Nat) : Nat := 0x11C + 64 * i
def TZACT (i : Nat) : Nat := 0x120 + 64 * i
def ILK (i : Nat) : Nat := 0x124 + 64 * i
def LEGSTAT (i : Nat) : Nat := 0x128 + 64 * i
def MINP_CNT (i : Nat) : Nat := 0x12C + 64 * i
end LG

namespace LEGSYS
def START : Nat := 0x040
def STOP : Nat := 0x044
def RUNNING : Nat := 0x048
def GSYNC_SRC : Nat := 0x04C
def GSYNC_SW : Nat := 0x050
def TRIP_POL : Nat := 0x054
def TRIP_FLT : Nat := 0x058
def TRIP_LVL : Nat := 0x05C
def TZ_PIN (i : Nat) : Nat := 0x060 + 4 * i
def TZ_CFG (i : Nat) : Nat := 0x080 + 4 * i
def TZ_SW : Nat := 0x0A0
def TZ_LATCH : Nat := 0x0A4
def TZ_CLR : Nat := 0x0A8
def TZ_CAUSE (i : Nat) : Nat := 0x0B0 + 4 * i
end LEGSYS

namespace SAFEPAT
def PAT (i : Nat) : Nat := 0x040 + 4 * i
def ILK : Nat := 0x060
def STAT : Nat := 0x064
end SAFEPAT

namespace TMR
def CTL : Nat := 0x040
def COUNT : Nat := 0x044
def TOP : Nat := 0x048
def MATCH0 : Nat := 0x04C
def MATCH1 : Nat := 0x050
def PRESC : Nat := 0x054
def CNT_EVT : Nat := 0x058
def SLV : Nat := 0x05C
def TIO_CFG : Nat := 0x060
def CAP_CFG : Nat := 0x064
def CAP_EVT : Nat := 0x068
def CAP_HEAD : Nat := 0x06C
def CAP_STAT : Nat := 0x070
def CAP_POP_INFO : Nat := 0x074
def CAP_POP_STAMP : Nat := 0x078
def EVT_EN : Nat := 0x07C
def DBG : Nat := 0x080
def STAT : Nat := 0x084
end TMR

namespace MODG
def CTL : Nat := 0x040
def STEP_PER : Nat := 0x044
def PIN : Nat := 0x048
def STAT : Nat := 0x04C
def HO_TOL : Nat := 0x050
def LIN_LIM : Nat := 0x054
def HO_CNT : Nat := 0x058
def FAIL_CNT : Nat := 0x05C
def SLIP_CNT : Nat := 0x060
def SLICE_BAD : Nat := 0x064
def OVLD : Nat := 0x068
def REF_STAT : Nat := 0x06C
def EVT_EN : Nat := 0x070
def MAP (i : Nat) : Nat := 0x080 + 4 * i
def OFFS (i : Nat) : Nat := 0x0C0 + 8 * i
def GAIN (i : Nat) : Nat := 0x0C4 + 8 * i
end MODG

namespace XBS
def MCLK_CFG (i : Nat) : Nat := 0x040 + 4 * i
def XCFG (i : Nat) : Nat := 0x080 + 4 * i
def XOFFS (i : Nat) : Nat := 0x180 + 8 * i
def XGAIN (i : Nat) : Nat := 0x184 + 8 * i
def STUCK_LIM : Nat := 0x380
def XSTUCK_LO : Nat := 0x384
def XSTUCK_HI : Nat := 0x388
def EVT_EN : Nat := 0x38C
end XBS

namespace FF
def EVT_EN : Nat := 0x040
def CMP_LIVE : Nat := 0x044
def CFG (i : Nat) : Nat := 0x100 + 64 * i
def SMP (i : Nat) : Nat := 0x104 + 64 * i
def THR_HI (i : Nat) : Nat := 0x108 + 64 * i
def THR_LO (i : Nat) : Nat := 0x10C + 64 * i
def HYS (i : Nat) : Nat := 0x110 + 64 * i
def CMP_CFG (i : Nat) : Nat := 0x114 + 64 * i
def CMP_STAT (i : Nat) : Nat := 0x118 + 64 * i
end FF

namespace PFE
def STAT : Nat := 0x040
def RES_HEAD : Nat := 0x044
def RES_POP_INFO : Nat := 0x048
def RES_POP_STAMP : Nat := 0x04C
def RES_POP_SEQ : Nat := 0x050
def RES_STAT : Nat := 0x054
def SEQ_NEXT : Nat := 0x058
def DROP_CNT : Nat := 0x05C
def RESTART_CNT : Nat := 0x060
def EVT_EN : Nat := 0x064
end PFE

namespace PFESEQ
def SW_TRG_LO : Nat := 0x040
def SW_TRG_HI : Nat := 0x044
def FIRED_LO : Nat := 0x048
def FIRED_HI : Nat := 0x04C
def TRG_SRC (i : Nat) : Nat := 0x100 + 8 * i
def TRG_CONV (i : Nat) : Nat := 0x104 + 8 * i
end PFESEQ

namespace BE
def CFG : Nat := 0x040
def MSCALE : Nat := 0x044
def MOFFS : Nat := 0x048
def REF : Nat := 0x04C
def BAND_HI : Nat := 0x050
def BAND_LO : Nat := 0x054
def DWELL : Nat := 0x058
def ADAPT_CFG : Nat := 0x05C
def BAND_MIN : Nat := 0x060
def BAND_MAX : Nat := 0x064
def TBL_BASE : Nat := 0x068
def TBL_LEN : Nat := 0x06C
def TBL_INC : Nat := 0x070
def TBL_PH_FR : Nat := 0x074
def TBL_PH_IX : Nat := 0x078
def TBL_AMP : Nat := 0x07C
def TBL_OFFS : Nat := 0x080
def SUP_CFG : Nat := 0x084
def SUP_WIN : Nat := 0x088
def STAT : Nat := 0x08C
def ERR : Nat := 0x090
def SW_CNT : Nat := 0x094
def MISS_CNT : Nat := 0x098
def INV_CNT : Nat := 0x09C
def PER_MEAS : Nat := 0x0A0
def EVT_EN : Nat := 0x0A4
end BE

namespace OLU
def CFG : Nat := 0x040
def TRIG : Nat := 0x044
def FB_SEL : Nat := 0x048
def FB_GAIN : Nat := 0x04C
def FB_OFFS : Nat := 0x050
def REF_D : Nat := 0x054
def REF_Q : Nat := 0x058
def Z_REF : Nat := 0x05C
def FF_D : Nat := 0x060
def FF_Q : Nat := 0x064
def ANG_REG : Nat := 0x068
def ANG_MUL : Nat := 0x06C
def ANG_OFFS : Nat := 0x070
def TGT_SEL : Nat := 0x074
def TGAIN (i : Nat) : Nat := 0x078 + 4 * i
def ACT (i : Nat) : Nat := 0x0A0 + 4 * i
def SHD (i : Nat) : Nat := 0x0C0 + 4 * i
def BANK : Nat := 0x0E0
def OUT_D : Nat := 0x0E4
def OUT_Q : Nat := 0x0E8
def ERR_D : Nat := 0x0EC
def ERR_Q : Nat := 0x0F0
def ANG_USED : Nat := 0x0F4
def STAT : Nat := 0x0F8
def EVAL_CNT : Nat := 0x0FC
def MISS_CNT : Nat := 0x100
def INT_D_LO : Nat := 0x104
def INT_D_MID : Nat := 0x108
def INT_D_HI : Nat := 0x10C
def INT_Q_LO : Nat := 0x110
def INT_Q_MID : Nat := 0x114
def INT_Q_HI : Nat := 0x118
def FE_CFG : Nat := 0x11C
def FE_LIM : Nat := 0x120
def FE_PEAK : Nat := 0x124
def EVT_EN : Nat := 0x128
end OLU

namespace POS
def CFG : Nat := 0x040
def COUNT : Nat := 0x044
def RAW : Nat := 0x048
def MODULO : Nat := 0x04C
def IDX_LOAD : Nat := 0x050
def IDX_CNT : Nat := 0x054
def IDX_STAMP_LO : Nat := 0x058
def IDX_STAMP_HI : Nat := 0x05C
def SPD_CFG : Nat := 0x060
def SPD_GAIN : Nat := 0x064
def SPEED : Nat := 0x068
def CNT_WIN : Nat := 0x06C
def EDGE_SPAN : Nat := 0x070
def SSI_CFG : Nat := 0x074
def SSI_TIM : Nat := 0x078
def SSI_TRIG : Nat := 0x07C
def SSI_CTL : Nat := 0x080
def SSI_DATA_LO : Nat := 0x084
def SSI_DATA_HI : Nat := 0x088
def SSI_STAMP_LO : Nat := 0x08C
def QERR_CNT : Nat := 0x090
def PRB_CFG : Nat := 0x094
def PRB_CNT : Nat := 0x098
def PRB_STAMP_LO : Nat := 0x09C
def PRB_STAMP_HI : Nat := 0x0A0
def STAT : Nat := 0x0A4
def EVT_EN : Nat := 0x0A8
end POS

namespace CORE
def CTL : Nat := 0x040
def STAT : Nat := 0x044
def START_PC : Nat := 0x048
def DET_BASE : Nat := 0x04C
def CACHE_CTL : Nat := 0x050
def UNC_LO (i : Nat) : Nat := 0x054 + 8 * i
def UNC_HI (i : Nat) : Nat := 0x058 + 8 * i
def DBG : Nat := 0x064
def DBG_RSEL : Nat := 0x068
def DBG_RDATA : Nat := 0x06C
def DBG_RTAG : Nat := 0x070
def HALT_PC : Nat := 0x074
def RETIRED : Nat := 0x078
def IMISS : Nat := 0x07C
def DMISS : Nat := 0x080
def SB_WAIT : Nat := 0x084
def SB_DROP : Nat := 0x088
def EVT_EN : Nat := 0x08C
end CORE

namespace ICU
def CTL : Nat := 0x040
def PEND_LO : Nat := 0x044
def PEND_HI : Nat := 0x048
def EN_LO : Nat := 0x04C
def EN_HI : Nat := 0x050
def SET_LO : Nat := 0x054
def SET_HI : Nat := 0x058
def TAKEN : Nat := 0x05C
def MERGED : Nat := 0x060
def MCHK_INFO : Nat := 0x064
def MCHK_PC : Nat := 0x068
def SRC (i : Nat) : Nat := 0x100 + 4 * i
end ICU

namespace MEMERR
def UNUSABLE (i : Nat) : Nat := 0x040 + 4 * i
def BANK_OUT_LO : Nat := 0x050
def BANK_OUT_HI : Nat := 0x054
def SELFTEST : Nat := 0x058
def EVT_EN : Nat := 0x05C
def SPARE (i : Nat) : Nat := 0x200 + 4 * i
def CE_CNT (i : Nat) : Nat := 0x800 + 16 * i
def CE_INFO (i : Nat) : Nat := 0x804 + 16 * i
def UE_CNT (i : Nat) : Nat := 0x808 + 16 * i
def UE_INFO (i : Nat) : Nat := 0x80C + 16 * i
end MEMERR

namespace SCRUB
def CTL : Nat := 0x040
def START_LO : Nat := 0x044
def START_HI : Nat := 0x048
def LEN : Nat := 0x04C
def PACE : Nat := 0x050
def STAT : Nat := 0x054
def WORDS : Nat := 0x058
def CE : Nat := 0x05C
def UE : Nat := 0x060
def POISONED : Nat := 0x064
def FIRST_LO : Nat := 0x068
def FIRST_HI : Nat := 0x06C
def LAST_LO : Nat := 0x070
def LAST_HI : Nat := 0x074
def EVT_EN : Nat := 0x078
def HIST (i : Nat) : Nat := 0x080 + 4 * i
end SCRUB

namespace CVU
def CTL : Nat := 0x040
def CFG : Nat := 0x044
def POLY_LO : Nat := 0x048
def POLY_HI : Nat := 0x04C
def INIT_LO : Nat := 0x050
def INIT_HI : Nat := 0x054
def XOROUT_LO : Nat := 0x058
def XOROUT_HI : Nat := 0x05C
def EXPECT_LO : Nat := 0x060
def EXPECT_HI : Nat := 0x064
def FOLD_VAL : Nat := 0x068
def SRC_LO : Nat := 0x06C
def SRC_HI : Nat := 0x070
def LEN : Nat := 0x074
def ELEM : Nat := 0x078
def STRIDE : Nat := 0x07C
def MSG_CFG : Nat := 0x080
def MAXDELTA : Nat := 0x084
def LAST_CTR : Nat := 0x088
def RES_LO : Nat := 0x08C
def RES_HI : Nat := 0x090
def STAT : Nat := 0x094
def FAULT_ADDR_LO : Nat := 0x098
def FAULT_ADDR_HI : Nat := 0x09C
def MSG_CNT : Nat := 0x0A0
def BAD_CNT : Nat := 0x0A4
def EVT_EN : Nat := 0x0A8
end CVU

namespace ETH
def CTL : Nat := 0x040
def STAT : Nat := 0x044
def MAC_LO : Nat := 0x048
def MAC_HI : Nat := 0x04C
def VLAN : Nat := 0x050
def LANE_POL : Nat := 0x054
def IPV4_ADDR : Nat := 0x058
def UDP_PORT : Nat := 0x05C
def IPV6_ADDR (i : Nat) : Nat := 0x060 + 4 * i
def PFC_CFG : Nat := 0x070
def PFC_STAT : Nat := 0x074
def PTP_CFG : Nat := 0x078
def TS_HEAD : Nat := 0x07C
def TS_POP_LO : Nat := 0x080
def TS_POP_HI : Nat := 0x084
def TS_STAT : Nat := 0x088
def RAWRX_CFG : Nat := 0x08C
def RAWRX_BASE : Nat := 0x090
def RAWRX_WR : Nat := 0x094
def RAWRX_RD : Nat := 0x098
def RAWTX_BASE : Nat := 0x09C
def RAWTX_CFG : Nat := 0x0A0
def RAWTX_WR : Nat := 0x0A4
def RAWTX_RD : Nat := 0x0A8
def MS_CFG : Nat := 0x0AC
def MS_TX_SCI_LO : Nat := 0x0B0
def MS_TX_SCI_HI : Nat := 0x0B4
def MS_RX_SCI_LO : Nat := 0x0B8
def MS_RX_SCI_HI : Nat := 0x0BC
def MS_REPLAY_WIN : Nat := 0x0C0
def EVT_EN : Nat := 0x0C4
def CNT_RX : Nat := 0x0C8
def CNT_TX : Nat := 0x0CC
def CNT_DROP : Nat := 0x0D0
def CNT_FCS : Nat := 0x0D4
def CNT_FEC_CORR : Nat := 0x0D8
def CNT_FEC_UNCORR : Nat := 0x0DC
def CNT_MS_DROP : Nat := 0x0E0
def KEY (i j : Nat) : Nat := 0x100 + 64 * i + 4 * j
def PN (i : Nat) : Nat := 0x120 + 64 * i
def ATTR (i : Nat) : Nat := 0x124 + 64 * i
end ETH

namespace UANDI
def STAT : Nat := 0x040
def DISC_CNT : Nat := 0x044
def REMOTE_TO : Nat := 0x048
def EVT_EN : Nat := 0x04C
def SESS_CFG (i : Nat) : Nat := 0x100 + 32 * i
def SESS_GEN (i : Nat) : Nat := 0x104 + 32 * i
def SESS_NEXT (i : Nat) : Nat := 0x108 + 32 * i
def SESS_EVSEQ (i : Nat) : Nat := 0x10C + 32 * i
def SESS_PEER (i : Nat) : Nat := 0x110 + 32 * i
def SESS_DUP (i : Nat) : Nat := 0x114 + 32 * i
def SESS_EVLOST (i : Nat) : Nat := 0x118 + 32 * i
def ACL_FIRST (i j : Nat) : Nat := 0x400 + 96 * i + 12 * j
def ACL_LAST (i j : Nat) : Nat := 0x404 + 96 * i + 12 * j
def ACL_ATTR (i j : Nat) : Nat := 0x408 + 96 * i + 12 * j
end UANDI

namespace STREAM
def CTL : Nat := 0x040
def FO_DELAY : Nat := 0x044
def STAT : Nat := 0x048
def EVT_EN : Nat := 0x04C
def CFG (i : Nat) : Nat := 0x100 + 64 * i
def SRC_A (i : Nat) : Nat := 0x104 + 64 * i
def SRC_B (i : Nat) : Nat := 0x108 + 64 * i
def SRC_C (i : Nat) : Nat := 0x10C + 64 * i
def SRC_D (i : Nat) : Nat := 0x110 + 64 * i
def TRIG (i : Nat) : Nat := 0x114 + 64 * i
def PACK (i : Nat) : Nat := 0x118 + 64 * i
def HOLD_BASE (i : Nat) : Nat := 0x11C + 64 * i
def HOLD_SIZE (i : Nat) : Nat := 0x120 + 64 * i
def LIMIT (i : Nat) : Nat := 0x124 + 64 * i
def USED (i : Nat) : Nat := 0x128 + 64 * i
def RSEQ (i : Nat) : Nat := 0x12C + 64 * i
def FSEQ (i : Nat) : Nat := 0x130 + 64 * i
def UNSENT (i : Nat) : Nat := 0x134 + 64 * i
def GAP_CNT (i : Nat) : Nat := 0x138 + 64 * i
def FRM_CNT (i : Nat) : Nat := 0x13C + 64 * i
end STREAM

namespace FAB
def ID : Nat := 0x040
def TGEN : Nat := 0x044
def CLAIM_UID_LO : Nat := 0x048
def CLAIM_UID_HI : Nat := 0x04C
def CLAIM_REQ : Nat := 0x050
def UID_LO : Nat := 0x054
def UID_HI : Nat := 0x058
def STRAPS : Nat := 0x05C
def CTL : Nat := 0x060
def BOARD : Nat := 0x064
def ARB : Nat := 0x068
def REQ_TO : Nat := 0x06C
def FENCE_TO : Nat := 0x070
def STAT : Nat := 0x074
def MCTL : Nat := 0x078
def MPATH_LO : Nat := 0x07C
def MPATH_HI : Nat := 0x080
def MADDR : Nat := 0x084
def MDATA : Nat := 0x088
def MSTAT : Nat := 0x08C
def HOP_DROP : Nat := 0x090
def ROUTE_ERR : Nat := 0x094
def FENCE_CNT : Nat := 0x098
def FENCE_TMO : Nat := 0x09C
def LATE_RESP : Nat := 0x0A0
def EV_DROP : Nat := 0x0A4
def EVT_EN : Nat := 0x0A8
def EVFWD (i : Nat) : Nat := 0x0C0 + 4 * i
end FAB

namespace LINK
def STAT : Nat := 0x040
def FAIL_TO : Nat := 0x044
def PEER_UID_LO : Nat := 0x048
def PEER_UID_HI : Nat := 0x04C
def TX_SEQ : Nat := 0x050
def RX_SEQ : Nat := 0x054
def CRC_ERR : Nat := 0x058
def REPLAY_CNT : Nat := 0x05C
def RETRAIN_CNT : Nat := 0x060
def FAIL_CNT : Nat := 0x064
def TS_OFFSET : Nat := 0x068
def TS_DELAY : Nat := 0x06C
def CREDIT : Nat := 0x070
def TS_BAD : Nat := 0x074
def EVT_EN : Nat := 0x078
end LINK

namespace EVA
def CTL : Nat := 0x040
def SEQ_NEXT : Nat := 0x044
def MERGE_CNT : Nat := 0x048
def LOG_STAT : Nat := 0x04C
def LOG_HEAD : Nat := 0x050
def LOG_POP_INFO : Nat := 0x054
def LOG_POP_STAMP : Nat := 0x058
def LOG_POP_CODE : Nat := 0x05C
def LOG_MASK (i : Nat) : Nat := 0x060 + 4 * i
def FWD_IN (i : Nat) : Nat := 0x100 + 4 * i
def FWD_LAST : Nat := 0x140
def EVT_EN : Nat := 0x144
def PEND_PEAK : Nat := 0x148
end EVA

namespace FIREFLY
def CTL : Nat := 0x040
def SKIP : Nat := 0x044
def PERIOD : Nat := 0x048
def REPEAT : Nat := 0x04C
def SEED : Nat := 0x050
def RATE : Nat := 0x054
def MATCH_LO : Nat := 0x058
def MATCH_HI : Nat := 0x05C
def MASK_LO : Nat := 0x060
def MASK_HI : Nat := 0x064
def FLIP : Nat := 0x068
def FLIP_OFF : Nat := 0x06C
def SEEN : Nat := 0x070
def INJ_CNT : Nat := 0x074
def STAT : Nat := 0x078
def EVT_EN : Nat := 0x07C
end FIREFLY

namespace MODE
def REQ : Nat := 0x040
def STAT : Nat := 0x044
def DUSK_CFG : Nat := 0x048
def DUSK_CAUSE : Nat := 0x04C
def DUSK_STAMP_LO : Nat := 0x050
def DUSK_STAMP_HI : Nat := 0x054
def SLEEP_CFG : Nat := 0x058
def WAKE_TMR_LO : Nat := 0x05C
def WAKE_TMR_HI : Nat := 0x060
def WAKE_SRC : Nat := 0x064
def RET_MASK_LO : Nat := 0x068
def RET_MASK_HI : Nat := 0x06C
def EVT_EN : Nat := 0x070
end MODE

namespace PWR
def PD_ON_LO : Nat := 0x040
def PD_ON_HI : Nat := 0x044
def PD_OFF_LO : Nat := 0x048
def PD_OFF_HI : Nat := 0x04C
def EVT_EN : Nat := 0x050
end PWR

namespace DAWN
def CTL : Nat := 0x040
def CFG : Nat := 0x044
def STAT : Nat := 0x048
def TIME : Nat := 0x04C
def F_REF : Nat := 0x050
def F_LG : Nat := 0x054
def F_MOD (i : Nat) : Nat := 0x058 + 4 * i
def F_ETH : Nat := 0x068
def F_BL : Nat := 0x06C
def F_GATE : Nat := 0x070
def F_RX : Nat := 0x074
def NT : Nat := 0x078
def EVT_EN : Nat := 0x07C
end DAWN

namespace BOOT
def STAT : Nat := 0x040
def IMG_LEN : Nat := 0x044
def CTL : Nat := 0x048
def RB_LEVEL : Nat := 0x04C
def IMG_INFO : Nat := 0x050
def TIME : Nat := 0x054
def EVT_EN : Nat := 0x058
end BOOT

namespace XSPI
def XSTAT : Nat := 0x040
def EVT_EN : Nat := 0x044
end XSPI

namespace ROUTE
def ENTRY (i : Nat) : Nat := 0x800 + 2 * i
end ROUTE

end Reg

/-- The block registers of class TB. -/
def rowsTb : List RegRow :=
  [⟨0x040, 4096, 1, 1, 1, 0x0#32, 0x0#32, 0x0#32⟩,
   ⟨0x044, 4096, 1, 1, 1, 0x0#32, 0x0#32, 0x0#32⟩,
   ⟨0x048, 4096, 1, 1, 1, 0x0#32, 0x0#32, 0x0#32⟩,
   ⟨0x04C, 4096, 1, 1, 1, 0xFF00#32, 0xFF00#32, 0x0#32⟩,
   ⟨0x050, 4096, 1, 1, 1, 0x0#32, 0x0#32, 0x4#32⟩,
   ⟨0x054, 4096, 1, 1, 1, 0x0#32, 0x0#32, 0x0#32⟩,
   ⟨0x058, 4096, 1, 1, 1, 0x0#32, 0x0#32, 0x0#32⟩,
   ⟨0x060, 4096, 1, 1, 1, 0xF02#32, 0xF02#32, 0x0#32⟩,
   ⟨0x064, 4096, 1, 1, 1, 0xFF0000#32, 0x0#32, 0x30#32⟩,
   ⟨0x068, 4096, 1, 1, 1, 0x0#32, 0xFFF#32, 0x0#32⟩,
   ⟨0x06C, 4096, 1, 1, 1, 0x0#32, 0x0#32, 0x0#32⟩,
   ⟨0x070, 4096, 1, 1, 1, 0x0#32, 0x0#32, 0x0#32⟩,
   ⟨0x074, 4096, 1, 1, 1, 0x0#32, 0x0#32, 0x0#32⟩,
   ⟨0x078, 4096, 1, 1, 1, 0xC8000000#32, 0xFFFFFFFF#32, 0x0#32⟩,
   ⟨0x07C, 4096, 1, 1, 1, 0x0#32, 0xFFFFFFFF#32, 0x0#32⟩,
   ⟨0x080, 4096, 1, 1, 1, 0x0#32, 0xFFFFFFFF#32, 0x0#32⟩,
   ⟨0x084, 4096, 1, 1, 1, 0x0#32, 0xFFFFFFFF#32, 0x0#32⟩,
   ⟨0x088, 4096, 1, 1, 1, 0x0#32, 0xFFFFFFFF#32, 0x0#32⟩,
   ⟨0x08C, 4096, 1, 1, 1, 0x0#32, 0xFFFF#32, 0x0#32⟩,
   ⟨0x090, 4096, 1, 1, 1, 0x0#32, 0x0#32, 0x0#32⟩,
   ⟨0x094, 4096, 1, 1, 1, 0x80#32, 0x0#32, 0x0#32⟩,
   ⟨0x098, 4096, 1, 1, 1, 0x0#32, 0x0#32, 0x0#32⟩,
   ⟨0x09C, 4096, 1, 1, 1, 0x0#32, 0x0#32, 0x0#32⟩,
   ⟨0x0A0, 4096, 1, 1, 1, 0x0#32, 0x0#32, 0x0#32⟩,
   ⟨0x0A4, 4096, 1, 1, 1, 0x0#32, 0x0#32, 0x0#32⟩,
   ⟨0x0A8, 4096, 1, 1, 1, 0x0#32, 0x0#32, 0x0#32⟩,
   ⟨0x0C0, 8, 8, 1, 1, 0x0#32, 0xFFFFFFFF#32, 0x0#32⟩,
   ⟨0x0C4, 8, 8, 1, 1, 0x0#32, 0xFFFFFFFF#32, 0x0#32⟩,
   ⟨0x100, 4096, 1, 1, 1, 0x0#32, 0xFF#32, 0x0#32⟩,
   ⟨0x104, 4096, 1, 1, 1, 0x0#32, 0x0#32, 0xFF#32⟩]

/-- The block registers of class LG. -/
def rowsLg : List RegRow :=
  [⟨0x040, 4096, 1, 1, 1, 0x0#32, 0x7F#32, 0x0#32⟩,
   ⟨0x044, 4096, 1, 1, 1, 0xFFFF#32, 0xFFFFFFFF#32, 0x0#32⟩,
   ⟨0x048, 4096, 1, 1, 1, 0x0#32, 0xFFFFFFFF#32, 0x0#32⟩,
   ⟨0x04C, 4096, 1, 1, 1, 0x0#32, 0x0#32, 0x0#32⟩,
   ⟨0x050, 4096, 1, 1, 1, 0x0#32, 0x0#32, 0x0#32⟩,
   ⟨0x054, 4096, 1, 1, 1, 0x0#32, 0xFFFFF7#32, 0x0#32⟩,
   ⟨0x058, 4096, 1, 1, 1, 0x0#32, 0xF#32, 0x0#32⟩,
   ⟨0x100, 64, 4, 1, 1, 0x0#32, 0x171F03#32, 0x0#32⟩,
   ⟨0x104, 64, 4, 1, 1, 0x0#32, 0xFFF#32, 0x0#32⟩,
   ⟨0x108, 64, 4, 1, 1, 0x0#32, 0xFFFFFFFF#32, 0x0#32⟩,
   ⟨0x10C, 64, 4, 1, 1, 0x0#32, 0xFFFFFFFF#32, 0x0#32⟩,
   ⟨0x110, 64, 4, 1, 1, 0x0#32, 0x3FFFF#32, 0x0#32⟩,
   ⟨0x114, 64, 4, 1, 1, 0x0#32, 0x3FFFF#32, 0x0#32⟩,
   ⟨0x118, 64, 4, 1, 1, 0x0#32, 0xFFFFF#32, 0x0#32⟩,
   ⟨0x11C, 64, 4, 1, 1, 0x0#32, 0x3#32, 0x0#32⟩,
   ⟨0x120, 64, 4, 1, 1, 0x0#32, 0x77777777#32, 0x0#32⟩,
   ⟨0x124, 64, 4, 1, 1, 0x20#32, 0x3F#32, 0x0#32⟩,
   ⟨0x128, 64, 4, 1, 1, 0x0#32, 0x0#32, 0x40#32⟩,
   ⟨0x12C, 64, 4, 1, 1, 0x0#32, 0x0#32, 0x0#32⟩]

/-- The block registers of class LEGSYS. -/
def rowsLegsys : List RegRow :=
  [⟨0x040, 4096, 1, 1, 1, 0x0#32, 0x0#32, 0x0#32⟩,
   ⟨0x044, 4096, 1, 1, 1, 0x0#32, 0x0#32, 0x0#32⟩,
   ⟨0x048, 4096, 1, 1, 1, 0x0#32, 0x0#32, 0x0#32⟩,
   ⟨0x04C, 4096, 1, 1, 1, 0x0#32, 0x3F07#32, 0x0#32⟩,
   ⟨0x050, 4096, 1, 1, 1, 0x0#32, 0x0#32, 0x0#32⟩,
   ⟨0x054, 4096, 1, 1, 1, 0x0#32, 0xFFFFFFFF#32, 0x0#32⟩,
   ⟨0x058, 4096, 1, 1, 1, 0x4#32, 0xFF#32, 0x0#32⟩,
   ⟨0x05C, 4096, 1, 1, 1, 0x0#32, 0x0#32, 0x0#32⟩,
   ⟨0x060, 4, 8, 1, 1, 0x0#32, 0xFFFFFFFF#32, 0x0#32⟩,
   ⟨0x080, 4, 8, 1, 1, 0x1#32, 0x7#32, 0x0#32⟩,
   ⟨0x0A0, 4096, 1, 1, 1, 0x0#32, 0x0#32, 0x0#32⟩,
   ⟨0x0A4, 4096, 1, 1, 1, 0x0#32, 0x0#32, 0x0#32⟩,
   ⟨0x0A8, 4096, 1, 1, 1, 0x0#32, 0x0#32, 0x0#32⟩,
   ⟨0x0B0, 4, 8, 1, 1, 0x0#32, 0x0#32, 0x0#32⟩]

/-- The block registers of class SAFEPAT. -/
def rowsSafepat : List RegRow :=
  [⟨0x040, 4, 8, 1, 1, 0x0#32, 0xFFFFFFFF#32, 0x0#32⟩,
   ⟨0x060, 4096, 1, 1, 1, 0x20#32, 0x3F#32, 0x0#32⟩,
   ⟨0x064, 4096, 1, 1, 1, 0x0#32, 0x0#32, 0x0#32⟩]

/-- The block registers of class TMR. -/
def rowsTmr : List RegRow :=
  [⟨0x040, 4096, 1, 1, 1, 0x0#32, 0x3F3F#32, 0x0#32⟩,
   ⟨0x044, 4096, 1, 1, 1, 0x0#32, 0xFFFFFFFF#32, 0x0#32⟩,
   ⟨0x048, 4096, 1, 1, 1, 0xFFFFFFFF#32, 0xFFFFFFFF#32, 0x0#32⟩,
   ⟨0x04C, 4096, 1, 1, 1, 0x0#32, 0xFFFFFFFF#32, 0x0#32⟩,
   ⟨0x050, 4096, 1, 1, 1, 0x0#32, 0xFFFFFFFF#32, 0x0#32⟩,
   ⟨0x054, 4096, 1, 1, 1, 0x0#32, 0xFFFF#32, 0x0#32⟩,
   ⟨0x058, 4096, 1, 1, 1, 0x0#32, 0xFFFF#32, 0x0#32⟩,
   ⟨0x05C, 4096, 1, 1, 1, 0x0#32, 0xFFFF0017#32, 0x0#32⟩,
   ⟨0x060, 4096, 1, 1, 1, 0x40000#32, 0xFF03F3#32, 0x0#32⟩,
   ⟨0x064, 4096, 1, 1, 1, 0x0#32, 0x3F31#32, 0x0#32⟩,
   ⟨0x068, 4096, 1, 1, 1, 0x0#32, 0xFFFF#32, 0x0#32⟩,
   ⟨0x06C, 4096, 1, 1, 1, 0x0#32, 0x0#32, 0x0#32⟩,
   ⟨0x070, 4096, 1, 1, 1, 0x0#32, 0x0#32, 0x100#32⟩,
   ⟨0x074, 4096, 1, 1, 1, 0x0#32, 0x0#32, 0x0#32⟩,
   ⟨0x078, 4096, 1, 1, 1, 0x0#32, 0x0#32, 0x0#32⟩,
   ⟨0x07C, 4096, 1, 1, 1, 0x0#32, 0x3F#32, 0x0#32⟩,
   ⟨0x080, 4096, 1, 1, 1, 0x3F#32, 0x3F#32, 0x0#32⟩,
   ⟨0x084, 4096, 1, 1, 1, 0x0#32, 0x0#32, 0x0#32⟩]

/-- The block registers of class MODG. -/
def rowsModg : List RegRow :=
  [⟨0x040, 4096, 1, 1, 1, 0x0#32, 0x6#32, 0x0#32⟩,
   ⟨0x044, 4096, 1, 1, 1, 0x271000#32, 0xFFFFFFFF#32, 0x0#32⟩,
   ⟨0x048, 4096, 1, 1, 1, 0x0#32, 0xFFF#32, 0x0#32⟩,
   ⟨0x04C, 4096, 1, 1, 1, 0xC0F#32, 0x0#32, 0x0#32⟩,
   ⟨0x050, 4096, 1, 1, 1, 0x10624E#32, 0xFFFFFFFF#32, 0x0#32⟩,
   ⟨0x054, 4096, 1, 1, 1, 0x10624E#32, 0xFFFFFFFF#32, 0x0#32⟩,
   ⟨0x058, 4096, 1, 1, 1, 0x0#32, 0x0#32, 0x0#32⟩,
   ⟨0x05C, 4096, 1, 1, 1, 0x0#32, 0x0#32, 0x0#32⟩,
   ⟨0x060, 4096, 1, 1, 1, 0x0#32, 0x0#32, 0x0#32⟩,
   ⟨0x064, 4096, 1, 1, 1, 0x0#32, 0x0#32, 0x0#32⟩,
   ⟨0x068, 4096, 1, 1, 1, 0x0#32, 0x0#32, 0xFFF#32⟩,
   ⟨0x06C, 4096, 1, 1, 1, 0x0#32, 0x0#32, 0x0#32⟩,
   ⟨0x070, 4096, 1, 1, 1, 0x0#32, 0xFFF3F#32, 0x0#32⟩,
   ⟨0x080, 4, 12, 1, 1, 0#32, 0x0#32, 0x0#32⟩,
   ⟨0x0C0, 8, 13, 1, 1, 0x0#32, 0xFFFFFFFF#32, 0x0#32⟩,
   ⟨0x0C4, 8, 13, 1, 1, 0x40000000#32, 0xFFFFFFFF#32, 0x0#32⟩]

/-- The block registers of class XBS. -/
def rowsXbs : List RegRow :=
  [⟨0x040, 4, 16, 1, 1, 0x0#32, 0x7F03#32, 0x0#32⟩,
   ⟨0x080, 4, 64, 1, 1, 0x0#32, 0x1FF3#32, 0x0#32⟩,
   ⟨0x180, 8, 64, 1, 1, 0x0#32, 0xFFFFFFFF#32, 0x0#32⟩,
   ⟨0x184, 8, 64, 1, 1, 0x40000000#32, 0xFFFFFFFF#32, 0x0#32⟩,
   ⟨0x380, 4096, 1, 1, 1, 0x0#32, 0xFFFF#32, 0x0#32⟩,
   ⟨0x384, 4096, 1, 1, 1, 0x0#32, 0x0#32, 0xFFFFFFFF#32⟩,
   ⟨0x388, 4096, 1, 1, 1, 0x0#32, 0x0#32, 0xFFFFFFFF#32⟩,
   ⟨0x38C, 4096, 1, 1, 1, 0x0#32, 0x1#32, 0x0#32⟩]

/-- The block registers of class FF. -/
def rowsFf : List RegRow :=
  [⟨0x040, 4096, 1, 1, 1, 0x0#32, 0xFFFFFFFF#32, 0x0#32⟩,
   ⟨0x044, 4096, 1, 1, 1, 0x0#32, 0x0#32, 0x0#32⟩,
   ⟨0x100, 64, 16, 1, 1, 0x2#32, 0x307#32, 0x0#32⟩,
   ⟨0x104, 64, 16, 1, 1, 0x80#32, 0x0#32, 0x0#32⟩,
   ⟨0x108, 64, 16, 1, 1, 0x7FFFFFFF#32, 0xFFFFFFFF#32, 0x0#32⟩,
   ⟨0x10C, 64, 16, 1, 1, 0x80000000#32, 0xFFFFFFFF#32, 0x0#32⟩,
   ⟨0x110, 64, 16, 1, 1, 0x0#32, 0x7FFFFFFF#32, 0x0#32⟩,
   ⟨0x114, 64, 16, 1, 1, 0x100#32, 0xFFFFFF03#32, 0x0#32⟩,
   ⟨0x118, 64, 16, 1, 1, 0x0#32, 0x0#32, 0xC#32⟩]

/-- The block registers of class PFE. -/
def rowsPfe : List RegRow :=
  [⟨0x040, 4096, 1, 1, 1, 0x0#32, 0x0#32, 0x0#32⟩,
   ⟨0x044, 4096, 1, 1, 1, 0x0#32, 0x0#32, 0x0#32⟩,
   ⟨0x048, 4096, 1, 1, 1, 0x0#32, 0x0#32, 0x0#32⟩,
   ⟨0x04C, 4096, 1, 1, 1, 0x0#32, 0x0#32, 0x0#32⟩,
   ⟨0x050, 4096, 1, 1, 1, 0x0#32, 0x0#32, 0x0#32⟩,
   ⟨0x054, 4096, 1, 1, 1, 0x0#32, 0x0#32, 0x100#32⟩,
   ⟨0x058, 4096, 1, 1, 1, 0x0#32, 0x0#32, 0x0#32⟩,
   ⟨0x05C, 4096, 1, 1, 1, 0x0#32, 0x0#32, 0x0#32⟩,
   ⟨0x060, 4096, 1, 1, 1, 0x0#32, 0x0#32, 0x0#32⟩,
   ⟨0x064, 4096, 1, 1, 1, 0x0#32, 0x1F#32, 0x0#32⟩]

/-- The block registers of class PFESEQ. -/
def rowsPfeseq : List RegRow :=
  [⟨0x040, 4096, 1, 1, 1, 0x0#32, 0x0#32, 0x0#32⟩,
   ⟨0x044, 4096, 1, 1, 1, 0x0#32, 0x0#32, 0x0#32⟩,
   ⟨0x048, 4096, 1, 1, 1, 0x0#32, 0x0#32, 0xFFFFFFFF#32⟩,
   ⟨0x04C, 4096, 1, 1, 1, 0x0#32, 0x0#32, 0xFFFFFFFF#32⟩,
   ⟨0x100, 8, 64, 1, 1, 0x0#32, 0xFFFFFFFF#32, 0x0#32⟩,
   ⟨0x104, 8, 64, 1, 1, 0x0#32, 0xFFFFC0FF#32, 0x0#32⟩]

/-- The block registers of class BE. -/
def rowsBe : List RegRow :=
  [⟨0x040, 4096, 1, 1, 1, 0x0#32, 0x13FF#32, 0x0#32⟩,
   ⟨0x044, 4096, 1, 1, 1, 0x10000000#32, 0xFFFFFFFF#32, 0x0#32⟩,
   ⟨0x048, 4096, 1, 1, 1, 0x0#32, 0xFFFFFFFF#32, 0x0#32⟩,
   ⟨0x04C, 4096, 1, 1, 1, 0x0#32, 0xFFFFFFFF#32, 0x0#32⟩,
   ⟨0x050, 4096, 1, 1, 1, 0x1000000#32, 0x7FFFFFFF#32, 0x0#32⟩,
   ⟨0x054, 4096, 1, 1, 1, 0x1000000#32, 0x7FFFFFFF#32, 0x0#32⟩,
   ⟨0x058, 4096, 1, 1, 1, 0x400040#32, 0xFFFFFFFF#32, 0x0#32⟩,
   ⟨0x05C, 4096, 1, 1, 1, 0xFA0008#32, 0xFFFFFFFF#32, 0x0#32⟩,
   ⟨0x060, 4096, 1, 1, 1, 0x100000#32, 0x7FFFFFFF#32, 0x0#32⟩,
   ⟨0x064, 4096, 1, 1, 1, 0x10000000#32, 0x7FFFFFFF#32, 0x0#32⟩,
   ⟨0x068, 4096, 1, 1, 1, 0x0#32, 0x3FFFFFC#32, 0x0#32⟩,
   ⟨0x06C, 4096, 1, 1, 1, 0x1000#32, 0x1FFF#32, 0x0#32⟩,
   ⟨0x070, 4096, 1, 1, 1, 0x0#32, 0xFFFFFFFF#32, 0x0#32⟩,
   ⟨0x074, 4096, 1, 1, 1, 0x0#32, 0xFFFFFFFF#32, 0x0#32⟩,
   ⟨0x078, 4096, 1, 1, 1, 0x0#32, 0xFFF#32, 0x0#32⟩,
   ⟨0x07C, 4096, 1, 1, 1, 0x7FFFFFFF#32, 0xFFFFFFFF#32, 0x0#32⟩,
   ⟨0x080, 4096, 1, 1, 1, 0x0#32, 0xFFFFFFFF#32, 0x0#32⟩,
   ⟨0x084, 4096, 1, 1, 1, 0x0#32, 0xFF3F3F#32, 0x0#32⟩,
   ⟨0x088, 4096, 1, 1, 1, 0xFA00#32, 0xFFFFFF#32, 0x0#32⟩,
   ⟨0x08C, 4096, 1, 1, 1, 0x0#32, 0x0#32, 0x1F0#32⟩,
   ⟨0x090, 4096, 1, 1, 1, 0x0#32, 0x0#32, 0x0#32⟩,
   ⟨0x094, 4096, 1, 1, 1, 0x0#32, 0x0#32, 0x0#32⟩,
   ⟨0x098, 4096, 1, 1, 1, 0x0#32, 0x0#32, 0x0#32⟩,
   ⟨0x09C, 4096, 1, 1, 1, 0x0#32, 0x0#32, 0x0#32⟩,
   ⟨0x0A0, 4096, 1, 1, 1, 0x0#32, 0x0#32, 0x0#32⟩,
   ⟨0x0A4, 4096, 1, 1, 1, 0x0#32, 0x3F#32, 0x0#32⟩]

/-- The block registers of class OLU. -/
def rowsOlu : List RegRow :=
  [⟨0x040, 4096, 1, 1, 1, 0x0#32, 0x1FFFE703#32, 0x0#32⟩,
   ⟨0x044, 4096, 1, 1, 1, 0x0#32, 0xFFFFFFFF#32, 0x0#32⟩,
   ⟨0x048, 4096, 1, 1, 1, 0x0#32, 0x1FFFFFFF#32, 0x0#32⟩,
   ⟨0x04C, 4096, 1, 1, 1, 0x10000000#32, 0xFFFFFFFF#32, 0x0#32⟩,
   ⟨0x050, 4096, 1, 1, 1, 0x0#32, 0xFFFFFFFF#32, 0x0#32⟩,
   ⟨0x054, 4096, 1, 1, 1, 0x0#32, 0xFFFFFFFF#32, 0x0#32⟩,
   ⟨0x058, 4096, 1, 1, 1, 0x0#32, 0xFFFFFFFF#32, 0x0#32⟩,
   ⟨0x05C, 4096, 1, 1, 1, 0x0#32, 0xFFFFFFFF#32, 0x0#32⟩,
   ⟨0x060, 4096, 1, 1, 1, 0x0#32, 0xFFFFFFFF#32, 0x0#32⟩,
   ⟨0x064, 4096, 1, 1, 1, 0x0#32, 0xFFFFFFFF#32, 0x0#32⟩,
   ⟨0x068, 4096, 1, 1, 1, 0x0#32, 0xFFFFFFFF#32, 0x0#32⟩,
   ⟨0x06C, 4096, 1, 1, 1, 0x0#32, 0xFFFFFFFF#32, 0x0#32⟩,
   ⟨0x070, 4096, 1, 1, 1, 0x0#32, 0xFFFFFFFF#32, 0x0#32⟩,
   ⟨0x074, 4096, 1, 1, 1, 0x0#32, 0xFFFFFFFF#32, 0x0#32⟩,
   ⟨0x078, 4, 4, 1, 1, 0x10000000#32, 0xFFFFFFFF#32, 0x0#32⟩,
   ⟨0x0A0, 4, 8, 1, 1, 0#32, 0x0#32, 0x0#32⟩,
   ⟨0x0C0, 4, 2, 1, 1, 0#32, 0xFFFFFFFF#32, 0x0#32⟩,
   ⟨0x0C8, 4096, 1, 1, 1, 0#32, 0xF0F#32, 0x0#32⟩,
   ⟨0x0CC, 4, 5, 1, 1, 0#32, 0xFFFFFFFF#32, 0x0#32⟩,
   ⟨0x0E0, 4096, 1, 1, 1, 0x0#32, 0x0#32, 0x0#32⟩,
   ⟨0x0E4, 4096, 1, 1, 1, 0x0#32, 0x0#32, 0x0#32⟩,
   ⟨0x0E8, 4096, 1, 1, 1, 0x0#32, 0x0#32, 0x0#32⟩,
   ⟨0x0EC, 4096, 1, 1, 1, 0x0#32, 0x0#32, 0x0#32⟩,
   ⟨0x0F0, 4096, 1, 1, 1, 0x0#32, 0x0#32, 0x0#32⟩,
   ⟨0x0F4, 4096, 1, 1, 1, 0x0#32, 0x0#32, 0x0#32⟩,
   ⟨0x0F8, 4096, 1, 1, 1, 0x0#32, 0x0#32, 0x2B0#32⟩,
   ⟨0x0FC, 4096, 1, 1, 1, 0x0#32, 0x0#32, 0x0#32⟩,
   ⟨0x100, 4096, 1, 1, 1, 0x0#32, 0x0#32, 0x0#32⟩,
   ⟨0x104, 4096, 1, 1, 1, 0x0#32, 0x0#32, 0x0#32⟩,
   ⟨0x108, 4096, 1, 1, 1, 0x0#32, 0x0#32, 0x0#32⟩,
   ⟨0x10C, 4096, 1, 1, 1, 0x0#32, 0x0#32, 0x0#32⟩,
   ⟨0x110, 4096, 1, 1, 1, 0x0#32, 0x0#32, 0x0#32⟩,
   ⟨0x114, 4096, 1, 1, 1, 0x0#32, 0x0#32, 0x0#32⟩,
   ⟨0x118, 4096, 1, 1, 1, 0x0#32, 0x0#32, 0x0#32⟩,
   ⟨0x11C, 4096, 1, 1, 1, 0x0#32, 0xFFFFFFFF#32, 0x0#32⟩,
   ⟨0x120, 4096, 1, 1, 1, 0x7FFFFFFF#32, 0xFFFFFFFF#32, 0x0#32⟩,
   ⟨0x124, 4096, 1, 1, 1, 0x0#32, 0x0#32, 0x0#32⟩,
   ⟨0x128, 4096, 1, 1, 1, 0x0#32, 0x7F#32, 0x0#32⟩]

/-- The block registers of class POS. -/
def rowsPos : List RegRow :=
  [⟨0x040, 4096, 1, 1, 1, 0x40010#32, 0x1FF7337#32, 0x0#32⟩,
   ⟨0x044, 4096, 1, 1, 1, 0x0#32, 0xFFFFFFFF#32, 0x0#32⟩,
   ⟨0x048, 4096, 1, 1, 1, 0x0#32, 0x0#32, 0x0#32⟩,
   ⟨0x04C, 4096, 1, 1, 1, 0x0#32, 0xFFFFFFFF#32, 0x0#32⟩,
   ⟨0x050, 4096, 1, 1, 1, 0x0#32, 0xFFFFFFFF#32, 0x0#32⟩,
   ⟨0x054, 4096, 1, 1, 1, 0x0#32, 0x0#32, 0x0#32⟩,
   ⟨0x058, 4096, 1, 1, 1, 0x0#32, 0x0#32, 0x0#32⟩,
   ⟨0x05C, 4096, 1, 1, 1, 0x0#32, 0x0#32, 0x0#32⟩,
   ⟨0x060, 4096, 1, 1, 1, 0x10000410#32, 0xFFFF0F1F#32, 0x0#32⟩,
   ⟨0x064, 4096, 1, 1, 1, 0x10000#32, 0xFFFFFFFF#32, 0x0#32⟩,
   ⟨0x068, 4096, 1, 1, 1, 0x0#32, 0x0#32, 0x0#32⟩,
   ⟨0x06C, 4096, 1, 1, 1, 0x0#32, 0x0#32, 0x0#32⟩,
   ⟨0x070, 4096, 1, 1, 1, 0x0#32, 0x0#32, 0x0#32⟩,
   ⟨0x074, 4096, 1, 1, 1, 0x400018#32, 0xFFF3F7F#32, 0x0#32⟩,
   ⟨0x078, 4096, 1, 1, 1, 0x0#32, 0x1FFF#32, 0x0#32⟩,
   ⟨0x07C, 4096, 1, 1, 1, 0x0#32, 0xFFFF#32, 0x0#32⟩,
   ⟨0x080, 4096, 1, 1, 1, 0x0#32, 0x0#32, 0x0#32⟩,
   ⟨0x084, 4096, 1, 1, 1, 0x0#32, 0x0#32, 0x0#32⟩,
   ⟨0x088, 4096, 1, 1, 1, 0x0#32, 0x0#32, 0x0#32⟩,
   ⟨0x08C, 4096, 1, 1, 1, 0x0#32, 0x0#32, 0x0#32⟩,
   ⟨0x090, 4096, 1, 1, 1, 0x0#32, 0x0#32, 0x0#32⟩,
   ⟨0x094, 4096, 1, 1, 1, 0#32, 0xFF031F#32, 0x0#32⟩,
   ⟨0x098, 4096, 1, 1, 1, 0x0#32, 0x0#32, 0x0#32⟩,
   ⟨0x09C, 4096, 1, 1, 1, 0x0#32, 0x0#32, 0x0#32⟩,
   ⟨0x0A0, 4096, 1, 1, 1, 0x0#32, 0x0#32, 0x0#32⟩,
   ⟨0x0A4, 4096, 1, 1, 1, 0x0#32, 0x0#32, 0x127C0#32⟩,
   ⟨0x0A8, 4096, 1, 1, 1, 0x0#32, 0x7F#32, 0x0#32⟩]

/-- The block registers of class CORE. -/
def rowsCore : List RegRow :=
  [⟨0x040, 4096, 1, 1, 1, 0#32, 0x3F#32, 0x0#32⟩,
   ⟨0x044, 4096, 1, 1, 1, 0x0#32, 0x0#32, 0x0#32⟩,
   ⟨0x048, 4096, 1, 1, 1, 0x10000000#32, 0xFFFFFFFF#32, 0x0#32⟩,
   ⟨0x04C, 4096, 1, 1, 1, 0x0#32, 0x3F0000#32, 0x0#32⟩,
   ⟨0x050, 4096, 1, 1, 1, 0x0#32, 0x0#32, 0x0#32⟩,
   ⟨0x054, 8, 2, 1, 1, 0x1#32, 0x3FFF#32, 0x0#32⟩,
   ⟨0x058, 8, 2, 1, 1, 0x0#32, 0x3FFF#32, 0x0#32⟩,
   ⟨0x064, 4096, 1, 1, 1, 0x0#32, 0x0#32, 0x0#32⟩,
   ⟨0x068, 4096, 1, 1, 1, 0x0#32, 0x7F#32, 0x0#32⟩,
   ⟨0x06C, 4096, 1, 1, 1, 0x0#32, 0xFFFFFFFF#32, 0x0#32⟩,
   ⟨0x070, 4096, 1, 1, 1, 0x0#32, 0x1#32, 0x0#32⟩,
   ⟨0x074, 4096, 1, 1, 1, 0x0#32, 0x0#32, 0x0#32⟩,
   ⟨0x078, 4096, 1, 1, 1, 0x0#32, 0x0#32, 0x0#32⟩,
   ⟨0x07C, 4096, 1, 1, 1, 0x0#32, 0x0#32, 0x0#32⟩,
   ⟨0x080, 4096, 1, 1, 1, 0x0#32, 0x0#32, 0x0#32⟩,
   ⟨0x084, 4096, 1, 1, 1, 0x0#32, 0x0#32, 0x0#32⟩,
   ⟨0x088, 4096, 1, 1, 1, 0x0#32, 0x0#32, 0x0#32⟩,
   ⟨0x08C, 4096, 1, 1, 1, 0x0#32, 0x7#32, 0x0#32⟩]

/-- The block registers of class ICU. -/
def rowsIcu : List RegRow :=
  [⟨0x040, 4096, 1, 1, 1, 0x0#32, 0x103#32, 0x0#32⟩,
   ⟨0x044, 4096, 1, 1, 1, 0x0#32, 0x0#32, 0xFFFFFFFF#32⟩,
   ⟨0x048, 4096, 1, 1, 1, 0x0#32, 0x0#32, 0xFFFFFFFF#32⟩,
   ⟨0x04C, 4096, 1, 1, 1, 0x0#32, 0xFFFFFFFF#32, 0x0#32⟩,
   ⟨0x050, 4096, 1, 1, 1, 0x0#32, 0xFFFFFFFF#32, 0x0#32⟩,
   ⟨0x054, 4096, 1, 1, 1, 0x0#32, 0x0#32, 0x0#32⟩,
   ⟨0x058, 4096, 1, 1, 1, 0x0#32, 0x0#32, 0x0#32⟩,
   ⟨0x05C, 4096, 1, 1, 1, 0x0#32, 0x0#32, 0x0#32⟩,
   ⟨0x060, 4096, 1, 1, 1, 0x0#32, 0x0#32, 0x0#32⟩,
   ⟨0x064, 4096, 1, 1, 1, 0x0#32, 0x0#32, 0x0#32⟩,
   ⟨0x068, 4096, 1, 1, 1, 0x0#32, 0x0#32, 0x0#32⟩,
   ⟨0x100, 4, 64, 1, 1, 0x0#32, 0xF03FF#32, 0x0#32⟩]

/-- The block registers of class MEMERR. -/
def rowsMemerr : List RegRow :=
  [⟨0x040, 4, 4, 1, 1, 0#32, 0x0#32, 0x0#32⟩,
   ⟨0x050, 4096, 1, 1, 1, 0#32, 0x0#32, 0x0#32⟩,
   ⟨0x054, 4096, 1, 1, 1, 0#32, 0x0#32, 0x0#32⟩,
   ⟨0x058, 4096, 1, 1, 1, 0#32, 0x0#32, 0x0#32⟩,
   ⟨0x05C, 4096, 1, 1, 1, 0x0#32, 0x7#32, 0x0#32⟩,
   ⟨0x200, 4, 119, 1, 1, 0#32, 0x0#32, 0x0#32⟩,
   ⟨0x800, 16, 119, 1, 1, 0x0#32, 0x0#32, 0x0#32⟩,
   ⟨0x804, 16, 119, 1, 1, 0x0#32, 0x0#32, 0x0#32⟩,
   ⟨0x808, 16, 119, 1, 1, 0x0#32, 0x0#32, 0x0#32⟩,
   ⟨0x80C, 16, 119, 1, 1, 0x0#32, 0x0#32, 0x0#32⟩]

/-- The block registers of class SCRUB. -/
def rowsScrub : List RegRow :=
  [⟨0x040, 4096, 1, 1, 1, 0x0#32, 0x2#32, 0x0#32⟩,
   ⟨0x044, 4096, 1, 1, 1, 0x0#32, 0xFFFFFFF8#32, 0x0#32⟩,
   ⟨0x048, 4096, 1, 1, 1, 0x0#32, 0xF#32, 0x0#32⟩,
   ⟨0x04C, 4096, 1, 1, 1, 0x0#32, 0xFFFFFFF8#32, 0x0#32⟩,
   ⟨0x050, 4096, 1, 1, 1, 0x0#32, 0xFFFF#32, 0x0#32⟩,
   ⟨0x054, 4096, 1, 1, 1, 0x0#32, 0x0#32, 0x0#32⟩,
   ⟨0x058, 4096, 1, 1, 1, 0x0#32, 0x0#32, 0x0#32⟩,
   ⟨0x05C, 4096, 1, 1, 1, 0x0#32, 0x0#32, 0x0#32⟩,
   ⟨0x060, 4096, 1, 1, 1, 0x0#32, 0x0#32, 0x0#32⟩,
   ⟨0x064, 4096, 1, 1, 1, 0x0#32, 0x0#32, 0x0#32⟩,
   ⟨0x068, 4096, 1, 1, 1, 0x0#32, 0x0#32, 0x0#32⟩,
   ⟨0x06C, 4096, 1, 1, 1, 0x0#32, 0x0#32, 0x0#32⟩,
   ⟨0x070, 4096, 1, 1, 1, 0x0#32, 0x0#32, 0x0#32⟩,
   ⟨0x074, 4096, 1, 1, 1, 0x0#32, 0x0#32, 0x0#32⟩,
   ⟨0x078, 4096, 1, 1, 1, 0x0#32, 0x3#32, 0x0#32⟩,
   ⟨0x080, 4, 16, 1, 1, 0x0#32, 0x0#32, 0x0#32⟩]

/-- The block registers of class CVU. -/
def rowsCvu : List RegRow :=
  [⟨0x040, 4096, 1, 1, 1, 0x0#32, 0x0#32, 0x0#32⟩,
   ⟨0x044, 4096, 1, 1, 1, 0x1F00#32, 0xE3F3F#32, 0x0#32⟩,
   ⟨0x048, 4096, 1, 1, 1, 0x4C11DB7#32, 0xFFFFFFFF#32, 0x0#32⟩,
   ⟨0x04C, 4096, 1, 1, 1, 0x0#32, 0xFFFFFFFF#32, 0x0#32⟩,
   ⟨0x050, 4096, 1, 1, 1, 0xFFFFFFFF#32, 0xFFFFFFFF#32, 0x0#32⟩,
   ⟨0x054, 4096, 1, 1, 1, 0x0#32, 0xFFFFFFFF#32, 0x0#32⟩,
   ⟨0x058, 4096, 1, 1, 1, 0xFFFFFFFF#32, 0xFFFFFFFF#32, 0x0#32⟩,
   ⟨0x05C, 4096, 1, 1, 1, 0x0#32, 0xFFFFFFFF#32, 0x0#32⟩,
   ⟨0x060, 4096, 1, 1, 1, 0x0#32, 0xFFFFFFFF#32, 0x0#32⟩,
   ⟨0x064, 4096, 1, 1, 1, 0x0#32, 0xFFFFFFFF#32, 0x0#32⟩,
   ⟨0x068, 4096, 1, 1, 1, 0x0#32, 0xFFFFFFFF#32, 0x0#32⟩,
   ⟨0x06C, 4096, 1, 1, 1, 0x0#32, 0xFFFFFFFF#32, 0x0#32⟩,
   ⟨0x070, 4096, 1, 1, 1, 0xFFF0#32, 0xFFFF#32, 0x0#32⟩,
   ⟨0x074, 4096, 1, 1, 1, 0x0#32, 0xFFFFFFFF#32, 0x0#32⟩,
   ⟨0x078, 4096, 1, 1, 1, 0x1#32, 0x1FFF#32, 0x0#32⟩,
   ⟨0x07C, 4096, 1, 1, 1, 0x0#32, 0xFFFFFFFF#32, 0x0#32⟩,
   ⟨0x080, 4096, 1, 1, 1, 0x0#32, 0xFFF0FFF#32, 0x0#32⟩,
   ⟨0x084, 4096, 1, 1, 1, 0x1#32, 0xFFFF#32, 0x0#32⟩,
   ⟨0x088, 4096, 1, 1, 1, 0x0#32, 0x0#32, 0x0#32⟩,
   ⟨0x08C, 4096, 1, 1, 1, 0x0#32, 0x0#32, 0x0#32⟩,
   ⟨0x090, 4096, 1, 1, 1, 0x0#32, 0x0#32, 0x0#32⟩,
   ⟨0x094, 4096, 1, 1, 1, 0x0#32, 0x0#32, 0x0#32⟩,
   ⟨0x098, 4096, 1, 1, 1, 0x0#32, 0x0#32, 0x0#32⟩,
   ⟨0x09C, 4096, 1, 1, 1, 0x0#32, 0x0#32, 0x0#32⟩,
   ⟨0x0A0, 4096, 1, 1, 1, 0x0#32, 0x0#32, 0x0#32⟩,
   ⟨0x0A4, 4096, 1, 1, 1, 0x0#32, 0x0#32, 0x0#32⟩,
   ⟨0x0A8, 4096, 1, 1, 1, 0x0#32, 0x7#32, 0x0#32⟩]

/-- The block registers of class ETH. -/
def rowsEth : List RegRow :=
  [⟨0x040, 4096, 1, 1, 1, 0xAC01#32, 0x1EF33#32, 0x0#32⟩,
   ⟨0x044, 4096, 1, 1, 1, 0x0#32, 0x0#32, 0x40#32⟩,
   ⟨0x048, 4096, 1, 1, 1, Config.macLo, 0xFFFFFFFF#32, 0x0#32⟩,
   ⟨0x04C, 4096, 1, 1, 1, Config.macHi, 0xFFFF#32, 0x0#32⟩,
   ⟨0x050, 4096, 1, 1, 1, 0x10000#32, 0x10FFF#32, 0x0#32⟩,
   ⟨0x054, 4096, 1, 1, 1, 0x0#32, 0xFF#32, 0x0#32⟩,
   ⟨0x058, 4096, 1, 1, 1, 0x0#32, 0xFFFFFFFF#32, 0x0#32⟩,
   ⟨0x05C, 4096, 1, 1, 1, 0xC404#32, 0xFFFF#32, 0x0#32⟩,
   ⟨0x060, 4, 4, 1, 1, 0x0#32, 0xFFFFFFFF#32, 0x0#32⟩,
   ⟨0x070, 4096, 1, 1, 1, 0x100FFFF#32, 0xFFFFFFFF#32, 0x0#32⟩,
   ⟨0x074, 4096, 1, 1, 1, 0x0#32, 0x0#32, 0x0#32⟩,
   ⟨0x078, 4096, 1, 1, 1, 0x0#32, 0x7#32, 0x0#32⟩,
   ⟨0x07C, 4096, 1, 1, 1, 0x0#32, 0x0#32, 0x0#32⟩,
   ⟨0x080, 4096, 1, 1, 1, 0x0#32, 0x0#32, 0x0#32⟩,
   ⟨0x084, 4096, 1, 1, 1, 0x0#32, 0x0#32, 0x0#32⟩,
   ⟨0x088, 4096, 1, 1, 1, 0x0#32, 0x0#32, 0x100#32⟩,
   ⟨0x08C, 4096, 1, 1, 1, 0x0#32, 0xFFFF007F#32, 0x0#32⟩,
   ⟨0x090, 4096, 1, 1, 1, 0x0#32, 0x3FFF000#32, 0x0#32⟩,
   ⟨0x094, 4096, 1, 1, 1, 0x0#32, 0x0#32, 0x0#32⟩,
   ⟨0x098, 4096, 1, 1, 1, 0x0#32, 0x3F#32, 0x0#32⟩,
   ⟨0x09C, 4096, 1, 1, 1, 0x0#32, 0x3FFF000#32, 0x0#32⟩,
   ⟨0x0A0, 4096, 1, 1, 1, 0x0#32, 0x7F#32, 0x0#32⟩,
   ⟨0x0A4, 4096, 1, 1, 1, 0x0#32, 0x3F#32, 0x0#32⟩,
   ⟨0x0A8, 4096, 1, 1, 1, 0x0#32, 0x0#32, 0x0#32⟩,
   ⟨0x0AC, 4096, 1, 1, 1, 0x0#32, 0x1F#32, 0x0#32⟩,
   ⟨0x0B0, 4096, 1, 1, 1, 0x0#32, 0xFFFFFFFF#32, 0x0#32⟩,
   ⟨0x0B4, 4096, 1, 1, 1, 0x0#32, 0xFFFFFFFF#32, 0x0#32⟩,
   ⟨0x0B8, 4096, 1, 1, 1, 0x0#32, 0xFFFFFFFF#32, 0x0#32⟩,
   ⟨0x0BC, 4096, 1, 1, 1, 0x0#32, 0xFFFFFFFF#32, 0x0#32⟩,
   ⟨0x0C0, 4096, 1, 1, 1, 0x0#32, 0xFFFFFFFF#32, 0x0#32⟩,
   ⟨0x0C4, 4096, 1, 1, 1, 0x0#32, 0xFF#32, 0x0#32⟩,
   ⟨0x0C8, 4096, 1, 1, 1, 0x0#32, 0x0#32, 0x0#32⟩,
   ⟨0x0CC, 4096, 1, 1, 1, 0x0#32, 0x0#32, 0x0#32⟩,
   ⟨0x0D0, 4096, 1, 1, 1, 0x0#32, 0x0#32, 0x0#32⟩,
   ⟨0x0D4, 4096, 1, 1, 1, 0x0#32, 0x0#32, 0x0#32⟩,
   ⟨0x0D8, 4096, 1, 1, 1, 0x0#32, 0x0#32, 0x0#32⟩,
   ⟨0x0DC, 4096, 1, 1, 1, 0x0#32, 0x0#32, 0x0#32⟩,
   ⟨0x0E0, 4096, 1, 1, 1, 0x0#32, 0x0#32, 0x0#32⟩,
   ⟨0x100, 64, 4, 4, 8, 0x0#32, 0xFFFFFFFF#32, 0x0#32⟩,
   ⟨0x120, 64, 4, 1, 1, 0x1#32, 0xFFFFFFFF#32, 0x0#32⟩,
   ⟨0x124, 64, 4, 1, 1, 0x0#32, 0x80000003#32, 0x0#32⟩]

/-- The block registers of class UANDI. -/
def rowsUandi : List RegRow :=
  [⟨0x040, 4096, 1, 1, 1, 0x0#32, 0x0#32, 0x0#32⟩,
   ⟨0x044, 4096, 1, 1, 1, 0x0#32, 0x0#32, 0x0#32⟩,
   ⟨0x048, 4096, 1, 1, 1, 0x64#32, 0xFFFF#32, 0x0#32⟩,
   ⟨0x04C, 4096, 1, 1, 1, 0x0#32, 0xF#32, 0x0#32⟩,
   ⟨0x100, 32, 16, 1, 1, 0#32, 0xF#32, 0x0#32⟩,
   ⟨0x104, 32, 16, 1, 1, 0x0#32, 0x0#32, 0x0#32⟩,
   ⟨0x108, 32, 16, 1, 1, 0x0#32, 0x0#32, 0x0#32⟩,
   ⟨0x10C, 32, 16, 1, 1, 0x0#32, 0x0#32, 0x0#32⟩,
   ⟨0x110, 32, 16, 1, 1, 0x0#32, 0x0#32, 0x0#32⟩,
   ⟨0x114, 32, 16, 1, 1, 0x0#32, 0x0#32, 0x0#32⟩,
   ⟨0x118, 32, 16, 1, 1, 0x0#32, 0x0#32, 0x0#32⟩,
   ⟨0x400, 96, 16, 12, 8, 0x0#32, 0xFFFFFF#32, 0x0#32⟩,
   ⟨0x404, 96, 16, 12, 8, 0#32, 0xFFFFFF#32, 0x0#32⟩,
   ⟨0x408, 96, 16, 12, 8, 0#32, 0xF0000FFF#32, 0x0#32⟩]

/-- The block registers of class STREAM. -/
def rowsStream : List RegRow :=
  [⟨0x040, 4096, 1, 1, 1, 0x140400#32, 0xFFFF0700#32, 0x0#32⟩,
   ⟨0x044, 4096, 1, 1, 1, 0x64#32, 0xFFFF#32, 0x0#32⟩,
   ⟨0x048, 4096, 1, 1, 1, 0x0#32, 0x0#32, 0x0#32⟩,
   ⟨0x04C, 4096, 1, 1, 1, 0x0#32, 0x1F#32, 0x0#32⟩,
   ⟨0x100, 64, 16, 1, 1, 0x0#32, 0xEF00000F#32, 0x0#32⟩,
   ⟨0x104, 64, 16, 1, 1, 0x0#32, 0xFFFFFFFF#32, 0x0#32⟩,
   ⟨0x108, 64, 16, 1, 1, 0x0#32, 0xFFFFFFFF#32, 0x0#32⟩,
   ⟨0x10C, 64, 16, 1, 1, 0x0#32, 0xFFFFFFFF#32, 0x0#32⟩,
   ⟨0x110, 64, 16, 1, 1, 0x0#32, 0xFFFFFFFF#32, 0x0#32⟩,
   ⟨0x114, 64, 16, 1, 1, 0x0#32, 0xFFFF#32, 0x0#32⟩,
   ⟨0x118, 64, 16, 1, 1, 0x1000500#32, 0xFFFFFFFF#32, 0x0#32⟩,
   ⟨0x11C, 64, 16, 1, 1, 0x0#32, 0x3FFF000#32, 0x0#32⟩,
   ⟨0x120, 64, 16, 1, 1, 0x0#32, 0x3FFF#32, 0x0#32⟩,
   ⟨0x124, 64, 16, 1, 1, 0x0#32, 0x0#32, 0x0#32⟩,
   ⟨0x128, 64, 16, 1, 1, 0x0#32, 0x0#32, 0x0#32⟩,
   ⟨0x12C, 64, 16, 1, 1, 0x0#32, 0x0#32, 0x0#32⟩,
   ⟨0x130, 64, 16, 1, 1, 0x0#32, 0x0#32, 0x0#32⟩,
   ⟨0x134, 64, 16, 1, 1, 0x0#32, 0x0#32, 0x0#32⟩,
   ⟨0x138, 64, 16, 1, 1, 0x0#32, 0x0#32, 0x0#32⟩,
   ⟨0x13C, 64, 16, 1, 1, 0x0#32, 0x0#32, 0x0#32⟩]

/-- The block registers of class FAB. -/
def rowsFab : List RegRow :=
  [⟨0x040, 4096, 1, 1, 1, 0xFFF#32, 0xFFF#32, 0x0#32⟩,
   ⟨0x044, 4096, 1, 1, 1, 0x0#32, 0xFFFF#32, 0x0#32⟩,
   ⟨0x048, 4096, 1, 1, 1, 0x0#32, 0x0#32, 0x0#32⟩,
   ⟨0x04C, 4096, 1, 1, 1, 0x0#32, 0x0#32, 0x0#32⟩,
   ⟨0x050, 4096, 1, 1, 1, 0x0#32, 0x0#32, 0x0#32⟩,
   ⟨0x054, 4096, 1, 1, 1, Config.uidLo, 0x0#32, 0x0#32⟩,
   ⟨0x058, 4096, 1, 1, 1, Config.uidHi, 0x0#32, 0x0#32⟩,
   ⟨0x05C, 4096, 1, 1, 1, 0#32, 0x0#32, 0x0#32⟩,
   ⟨0x060, 4096, 1, 1, 1, 0x1F01#32, 0x1F01#32, 0x0#32⟩,
   ⟨0x064, 4096, 1, 1, 1, 0x0#32, 0xFF#32, 0x0#32⟩,
   ⟨0x068, 4096, 1, 1, 1, 0x134#32, 0xFFF#32, 0x0#32⟩,
   ⟨0x06C, 4096, 1, 1, 1, 0x64#32, 0xFFFF#32, 0x0#32⟩,
   ⟨0x070, 4096, 1, 1, 1, 0x14#32, 0xFFFF#32, 0x0#32⟩,
   ⟨0x074, 4096, 1, 1, 1, 0x0#32, 0x0#32, 0x0#32⟩,
   ⟨0x078, 4096, 1, 1, 1, 0x0#32, 0xF000003#32, 0x0#32⟩,
   ⟨0x07C, 4096, 1, 1, 1, 0x0#32, 0xFFFFFFFF#32, 0x0#32⟩,
   ⟨0x080, 4096, 1, 1, 1, 0x0#32, 0xFFFF0000#32, 0x0#32⟩,
   ⟨0x084, 4096, 1, 1, 1, 0x0#32, 0xFFFFFC#32, 0x0#32⟩,
   ⟨0x088, 4096, 1, 1, 1, 0x0#32, 0xFFFFFFFF#32, 0x0#32⟩,
   ⟨0x08C, 4096, 1, 1, 1, 0x0#32, 0x0#32, 0x0#32⟩,
   ⟨0x090, 4096, 1, 1, 1, 0x0#32, 0x0#32, 0x0#32⟩,
   ⟨0x094, 4096, 1, 1, 1, 0x0#32, 0x0#32, 0x0#32⟩,
   ⟨0x098, 4096, 1, 1, 1, 0x0#32, 0x0#32, 0x0#32⟩,
   ⟨0x09C, 4096, 1, 1, 1, 0x0#32, 0x0#32, 0x0#32⟩,
   ⟨0x0A0, 4096, 1, 1, 1, 0x0#32, 0x0#32, 0x0#32⟩,
   ⟨0x0A4, 4096, 1, 1, 1, 0x0#32, 0x0#32, 0x0#32⟩,
   ⟨0x0A8, 4096, 1, 1, 1, 0x0#32, 0x7F#32, 0x0#32⟩,
   ⟨0x0C0, 4, 16, 1, 1, 0x0#32, 0x8FFF03FF#32, 0x0#32⟩]

/-- The block registers of class LINK. DEDUCED (log 107). -/
def rowsLink : List RegRow :=
  [⟨0x040, 4096, 1, 1, 1, 0x0#32, 0x0#32, 0x0#32⟩,
   ⟨0x044, 4096, 1, 1, 1, 0x3E8#32, 0xFFFF#32, 0x0#32⟩,
   ⟨0x048, 4096, 1, 1, 1, 0x0#32, 0x0#32, 0x0#32⟩,
   ⟨0x04C, 4096, 1, 1, 1, 0x0#32, 0x0#32, 0x0#32⟩,
   ⟨0x050, 4096, 1, 1, 1, 0x0#32, 0x0#32, 0x0#32⟩,
   ⟨0x054, 4096, 1, 1, 1, 0x0#32, 0x0#32, 0x0#32⟩,
   ⟨0x058, 4096, 1, 1, 1, 0x0#32, 0x0#32, 0x0#32⟩,
   ⟨0x05C, 4096, 1, 1, 1, 0x0#32, 0x0#32, 0x0#32⟩,
   ⟨0x060, 4096, 1, 1, 1, 0x0#32, 0x0#32, 0x0#32⟩,
   ⟨0x064, 4096, 1, 1, 1, 0x0#32, 0x0#32, 0x0#32⟩,
   ⟨0x068, 4096, 1, 1, 1, 0x0#32, 0x0#32, 0x0#32⟩,
   ⟨0x06C, 4096, 1, 1, 1, 0x0#32, 0x0#32, 0x0#32⟩,
   ⟨0x070, 4096, 1, 1, 1, 0x0#32, 0x0#32, 0x0#32⟩,
   ⟨0x074, 4096, 1, 1, 1, 0x0#32, 0x0#32, 0x0#32⟩,
   ⟨0x078, 4096, 1, 1, 1, 0x0#32, 0x3F#32, 0x0#32⟩]

/-- The block registers of class EVA. -/
def rowsEva : List RegRow :=
  [⟨0x040, 4096, 1, 1, 1, 0x0#32, 0x1#32, 0x0#32⟩,
   ⟨0x044, 4096, 1, 1, 1, 0x0#32, 0x0#32, 0x0#32⟩,
   ⟨0x048, 4096, 1, 1, 1, 0x0#32, 0x0#32, 0x0#32⟩,
   ⟨0x04C, 4096, 1, 1, 1, 0x0#32, 0x0#32, 0x1000#32⟩,
   ⟨0x050, 4096, 1, 1, 1, 0x0#32, 0x0#32, 0x0#32⟩,
   ⟨0x054, 4096, 1, 1, 1, 0x0#32, 0x0#32, 0x0#32⟩,
   ⟨0x058, 4096, 1, 1, 1, 0x0#32, 0x0#32, 0x0#32⟩,
   ⟨0x05C, 4096, 1, 1, 1, 0x0#32, 0x0#32, 0x0#32⟩,
   ⟨0x060, 4, 32, 1, 1, 0x0#32, 0xFFFFFFFF#32, 0x0#32⟩,
   ⟨0x100, 4, 16, 1, 1, 0x0#32, 0x8FFF03FF#32, 0x0#32⟩,
   ⟨0x140, 4096, 1, 1, 1, 0x0#32, 0x0#32, 0x0#32⟩,
   ⟨0x144, 4096, 1, 1, 1, 0x0#32, 0x3#32, 0x0#32⟩,
   ⟨0x148, 4096, 1, 1, 1, 0x0#32, 0x0#32, 0x0#32⟩]

/-- The block registers of class FIREFLY. -/
def rowsFirefly : List RegRow :=
  [⟨0x040, 4096, 1, 1, 1, 0x0#32, 0x1003D#32, 0x0#32⟩,
   ⟨0x044, 4096, 1, 1, 1, 0x0#32, 0xFFFFFFFF#32, 0x0#32⟩,
   ⟨0x048, 4096, 1, 1, 1, 0x0#32, 0xFFFFFFFF#32, 0x0#32⟩,
   ⟨0x04C, 4096, 1, 1, 1, 0x1#32, 0xFFFFFFFF#32, 0x0#32⟩,
   ⟨0x050, 4096, 1, 1, 1, 0x1#32, 0xFFFFFFFF#32, 0x0#32⟩,
   ⟨0x054, 4096, 1, 1, 1, 0x0#32, 0xFFFFFFFF#32, 0x0#32⟩,
   ⟨0x058, 4096, 1, 1, 1, 0x0#32, 0xFFFFFFFF#32, 0x0#32⟩,
   ⟨0x05C, 4096, 1, 1, 1, 0x0#32, 0xFFFFFFFF#32, 0x0#32⟩,
   ⟨0x060, 4096, 1, 1, 1, 0x0#32, 0xFFFFFFFF#32, 0x0#32⟩,
   ⟨0x064, 4096, 1, 1, 1, 0x0#32, 0xFFFFFFFF#32, 0x0#32⟩,
   ⟨0x068, 4096, 1, 1, 1, 0x1#32, 0xFFFFFFFF#32, 0x0#32⟩,
   ⟨0x06C, 4096, 1, 1, 1, 0x0#32, 0x3FFF#32, 0x0#32⟩,
   ⟨0x070, 4096, 1, 1, 1, 0x0#32, 0x0#32, 0x0#32⟩,
   ⟨0x074, 4096, 1, 1, 1, 0x0#32, 0x0#32, 0x0#32⟩,
   ⟨0x078, 4096, 1, 1, 1, 0x0#32, 0x0#32, 0x0#32⟩,
   ⟨0x07C, 4096, 1, 1, 1, 0x0#32, 0x7#32, 0x0#32⟩]

/-- The block registers of class MODE. -/
def rowsMode : List RegRow :=
  [⟨0x040, 4096, 1, 1, 1, 0x2#32, 0xF#32, 0x0#32⟩,
   ⟨0x044, 4096, 1, 1, 1, 0x2#32, 0x0#32, 0x0#32⟩,
   ⟨0x048, 4096, 1, 1, 1, 0x1#32, 0x1#32, 0x0#32⟩,
   ⟨0x04C, 4096, 1, 1, 1, 0x0#32, 0x0#32, 0x0#32⟩,
   ⟨0x050, 4096, 1, 1, 1, 0x0#32, 0x0#32, 0x0#32⟩,
   ⟨0x054, 4096, 1, 1, 1, 0x0#32, 0x0#32, 0x0#32⟩,
   ⟨0x058, 4096, 1, 1, 1, 0x0#32, 0x6F1#32, 0x0#32⟩,
   ⟨0x05C, 4096, 1, 1, 1, 0x0#32, 0xFFFFFFFF#32, 0x0#32⟩,
   ⟨0x060, 4096, 1, 1, 1, 0x0#32, 0xFFFF#32, 0x0#32⟩,
   ⟨0x064, 4096, 1, 1, 1, 0x0#32, 0x0#32, 0x0#32⟩,
   ⟨0x068, 4096, 1, 1, 1, 0x0#32, 0xFFFFFFFF#32, 0x0#32⟩,
   ⟨0x06C, 4096, 1, 1, 1, 0x0#32, 0xFFFF#32, 0x0#32⟩,
   ⟨0x070, 4096, 1, 1, 1, 0x0#32, 0x7#32, 0x0#32⟩]

/-- The block registers of class PWR. -/
def rowsPwr : List RegRow :=
  [⟨0x040, 4096, 1, 1, 1, 0xFFFFFFFF#32, 0x0#32, 0x0#32⟩,
   ⟨0x044, 4096, 1, 1, 1, 0xFFFFFFFF#32, 0x0#32, 0x0#32⟩,
   ⟨0x048, 4096, 1, 1, 1, 0x0#32, 0xFFFFFFFF#32, 0x0#32⟩,
   ⟨0x04C, 4096, 1, 1, 1, 0x0#32, 0xFFFFFFFF#32, 0x0#32⟩,
   ⟨0x050, 4096, 1, 1, 1, 0x0#32, 0x3#32, 0x0#32⟩]

/-- The block registers of class DAWN. -/
def rowsDawn : List RegRow :=
  [⟨0x040, 4096, 1, 1, 1, 0x0#32, 0x0#32, 0x0#32⟩,
   ⟨0x044, 4096, 1, 1, 1, 0x0#32, 0x3F#32, 0x0#32⟩,
   ⟨0x048, 4096, 1, 1, 1, 0x0#32, 0x0#32, 0x0#32⟩,
   ⟨0x04C, 4096, 1, 1, 1, 0x0#32, 0x0#32, 0x0#32⟩,
   ⟨0x050, 4096, 1, 1, 1, 0x0#32, 0x0#32, 0x0#32⟩,
   ⟨0x054, 4096, 1, 1, 1, 0x0#32, 0x0#32, 0x0#32⟩,
   ⟨0x058, 4, 4, 1, 1, 0x0#32, 0x0#32, 0x0#32⟩,
   ⟨0x068, 4096, 1, 1, 1, 0x0#32, 0x0#32, 0x0#32⟩,
   ⟨0x06C, 4096, 1, 1, 1, 0x0#32, 0x0#32, 0x0#32⟩,
   ⟨0x070, 4096, 1, 1, 1, 0x0#32, 0x0#32, 0x0#32⟩,
   ⟨0x074, 4096, 1, 1, 1, 0x0#32, 0x0#32, 0x0#32⟩,
   ⟨0x078, 4096, 1, 1, 1, 0x0#32, 0x0#32, 0x0#32⟩,
   ⟨0x07C, 4096, 1, 1, 1, 0x0#32, 0x3#32, 0x0#32⟩]

/-- The block registers of class BOOT. -/
def rowsBoot : List RegRow :=
  [⟨0x040, 4096, 1, 1, 1, 0x0#32, 0x0#32, 0x0#32⟩,
   ⟨0x044, 4096, 1, 1, 1, 0x0#32, 0xFFFFFFFF#32, 0x0#32⟩,
   ⟨0x048, 4096, 1, 1, 1, 0x0#32, 0x0#32, 0x0#32⟩,
   ⟨0x04C, 4096, 1, 1, 1, Config.rbLevel, 0x0#32, 0x0#32⟩,
   ⟨0x050, 4096, 1, 1, 1, 0x0#32, 0x0#32, 0x0#32⟩,
   ⟨0x054, 4096, 1, 1, 1, 0x0#32, 0x0#32, 0x0#32⟩,
   ⟨0x058, 4096, 1, 1, 1, 0x0#32, 0x3#32, 0x0#32⟩]

/-- The block registers of class XSPI. -/
def rowsXspi : List RegRow :=
  [⟨0x040, 4096, 1, 1, 1, 0x0#32, 0x0#32, 0x0#32⟩,
   ⟨0x044, 4096, 1, 1, 1, 0x0#32, 0x1#32, 0x0#32⟩]

/-- The block registers of class ROUTE. -/
def rowsRoute : List RegRow :=
  [⟨0x800, 4, 512, 1, 1, 0x0#32, 0xFC77FC77#32, 0x0#32⟩]

/-- The register map of a page class (R604). -/
def rowsOf (cls : Nat) : List RegRow :=
  match cls with
  | 0 => rowsTb
  | 1 => rowsLegsys
  | 2 => rowsSafepat
  | 3 => rowsLg
  | 4 => rowsTmr
  | 5 => rowsModg
  | 6 => rowsXbs
  | 7 => rowsFf
  | 8 => rowsPfe
  | 9 => rowsPfeseq
  | 10 => rowsBe
  | 11 => rowsBe
  | 12 => rowsOlu
  | 13 => rowsPos
  | 14 => rowsCore
  | 15 => rowsIcu
  | 16 => rowsMemerr
  | 17 => rowsScrub
  | 18 => rowsCvu
  | 19 => rowsEva
  | 20 => rowsEth
  | 21 => rowsUandi
  | 22 => rowsStream
  | 23 => rowsFab
  | 24 => rowsLink
  | 25 => rowsRoute
  | 26 => rowsFirefly
  | 27 => rowsMode
  | 28 => rowsPwr
  | 29 => rowsDawn
  | 30 => rowsBoot
  | 31 => rowsXspi
  | _ => []

/-- The causes that IRQ_RAW of a class carries; its other bits are reserved. -/
def irqMask (cls : Nat) : Word :=
  match cls with
  | 0 => 0xFF7F#32
  | 1 => 0x7FF#32
  | 2 => 0x0#32
  | 3 => 0xFFFFF7#32
  | 4 => 0x3F#32
  | 5 => 0xFFF3F#32
  | 6 => 0x1#32
  | 7 => 0xFFFFFFFF#32
  | 8 => 0x1F#32
  | 9 => 0x0#32
  | 10 => 0x3F#32
  | 11 => 0x3F#32
  | 12 => 0x7F#32
  | 13 => 0x7F#32
  | 14 => 0x7#32
  | 15 => 0x0#32
  | 16 => 0x7#32
  | 17 => 0x3#32
  | 18 => 0x7#32
  | 19 => 0x3#32
  | 20 => 0xFF#32
  | 21 => 0xF#32
  | 22 => 0x1F#32
  | 23 => 0x7F#32
  | 24 => 0x3F#32
  | 25 => 0x0#32
  | 26 => 0x7#32
  | 27 => 0x7#32
  | 28 => 0x3#32
  | 29 => 0x3#32
  | 30 => 0x3#32
  | 31 => 0x1#32
  | _ => 0#32

/-- The offset of EVT_EN in a class that has one; a class without one raises each cause as an event (R82, R134). -/
def evtEnOff (cls : Nat) : Option Nat :=
  match cls with
  | 3 => some 0x054
  | 4 => some 0x07C
  | 5 => some 0x070
  | 6 => some 0x38C
  | 7 => some 0x040
  | 8 => some 0x064
  | 10 => some 0x0A4
  | 11 => some 0x0A4
  | 12 => some 0x128
  | 13 => some 0x0A8
  | 14 => some 0x08C
  | 16 => some 0x05C
  | 17 => some 0x078
  | 18 => some 0x0A8
  | 19 => some 0x144
  | 20 => some 0x0C4
  | 21 => some 0x04C
  | 22 => some 0x04C
  | 23 => some 0x0A8
  | 24 => some 0x078
  | 26 => some 0x07C
  | 27 => some 0x070
  | 28 => some 0x050
  | 29 => some 0x07C
  | 30 => some 0x058
  | 31 => some 0x044
  | _ => none

/-- The row of an offset, if the class gives it a register. -/
def rowAt (cls off : Nat) : Option RegRow := (rowsOf cls).find? (fun r => r.covers off)

end Sys2Proof.Machine
end

