-- ==== Sys2Proof/Machine/SMap.lean ====
section
/-! DEFINITION. A sparse map from natural numbers, as plain data in one canonical form: keys strictly rising, and no entry that
equals what an unlisted key reads as. Equal maps are then equal lists. Register pages, hidden per-instance state and memory
are all held in it. -/

namespace Sys2Proof.Machine

/-- Entries by rising key; a key with no entry reads as a default given by the reader. -/
abbrev SMap (α : Type) := List (Nat × α)

namespace SMap

variable {α : Type}

/-- What key `k` holds; `d k` where it is not listed. -/
def get (d : Nat → α) : SMap α → Nat → α
  | [], k => d k
  | (k', v) :: m, k => if k' = k then v else get d m k

/-- `m` with no entry for `k`. -/
def erase : SMap α → Nat → SMap α
  | [], _ => []
  | (k', v) :: m, k => if k' = k then erase m k else (k', v) :: erase m k

/-- `m` with the entry `(k, v)` in its place. -/
def insert : SMap α → Nat → α → SMap α
  | [], k, v => [(k, v)]
  | (k', v') :: m, k, v =>
    if k < k' then (k, v) :: (k', v') :: m
    else if k' = k then (k, v) :: m
    else (k', v') :: insert m k v

/-- Writes `v` at `k`; writing the default removes the entry. -/
def set [DecidableEq α] (d : Nat → α) (m : SMap α) (k : Nat) (v : α) : SMap α :=
  if v = d k then erase m k else insert m k v

/-- The entry of `k`, if it is listed. -/
def find? : SMap α → Nat → Option α
  | [], _ => none
  | (k', v) :: m, k => if k' = k then some v else find? m k

/-- Every listed key lies above `k`, in rising order. -/
def above : Nat → SMap α → Bool
  | _, [] => true
  | k, (k', _) :: m => decide (k < k') && above k' m

/-- Keys strictly rising. -/
def sorted : SMap α → Bool
  | [] => true
  | (k, _) :: m => above k m

/-- The canonical form: keys strictly rising, and no entry equal to its default. -/
def wf [DecidableEq α] (d : Nat → α) (m : SMap α) : Bool :=
  sorted m && m.all (fun e => decide (e.2 ≠ d e.1))

end SMap

end Sys2Proof.Machine
end

