-- ==== Sys2Proof/Machine/State.lean ====
section
/-! DEFINITION. The state of the SKN-128 as plain data: the registers of its pages as one sparse map, the state behind them
(counters, queues, latches, pins) by block, the byte-addressed memories, and the queue of commands that wait. -/

namespace Sys2Proof.Machine

/-! ## Pages, aborts and answers (spec/01) -/

/-- Why an access was not performed, as its requester is told: a decode error (R22), a page's refusal code (R31 and the
codes of the block chapters), a routing error (R26) or a timeout. -/
inductive AccErr where
  | decode
  | refused (code : Nat)
  | route
  | timeout
  | acl
  deriving DecidableEq, Repr

/-- What the last access or request answered its requester. -/
inductive Response where
  | none
  | done
  | data (v : Word) (poison : Bool)
  | block (bytes : List Byte) (poison : Bool)
  | error (e : AccErr)
  deriving DecidableEq, Repr

/-- A block-register write held behind an abort (R45), and whether it is an aligned word. -/
structure HeldWrite where
  page : Nat
  off : Nat
  aligned : Bool
  w : Wr
  deriving DecidableEq, Repr

/-- A write of a time-domain register that its logic cannot use yet, and the tick at which it can (R15). -/
structure SoonWrite where
  page : Nat
  off : Nat
  w : Wr
  due : Nat
  deriving DecidableEq, Repr

/-- What an abort found when its write arrived (R41, R43): nothing to do, or work of which queued items were cut; and the tick of
the write. -/
structure AbortRec where
  idle : Bool
  cut : Bool
  at_ : Nat := 0
  deriving DecidableEq, Repr

/-! ## Time base (spec/02) -/

/-- A two-way stamp exchange on one link (R67, R539): the request sent at `t1`, in fines. -/
structure Exchange where
  t1 : Nat
  sentAt : Nat
  deriving DecidableEq, Repr

/-- The time base behind the TB page. `now` counts elapsed ticks and is moved by nothing but the passing of a tick; `tl` is the time line,
which a step, an alignment or make-up also moves (R54, R71). `wakeAt` is WAKE_CNT at the first wake from SLEEP or RETAIN, until make-up
(R590); `slew` the correction in fines that slewing makes by the length of ticks (R68); `midnight` that a Midnight has not been raised yet
(R57); `dlBack` the tick (plus 1) at which a group's fine placement last began again (R56); `stopTl` the stopped time line (R591); `ptpDue`
the ticks of the commit boundaries to come (R74); `syncFwd` the hop count of the SYNC word still to be sent on (R63); `relock` that a relock
is under way (R51). DESIGN CHOICE (log 4). DESIGN CHOICE (log 15). -/
structure TimeBase where
  tl : Tick := 0#64
  now : Nat := 0
  refinOk : Bool := true
  everLocked : Bool := false
  lockNow : Nat := 0
  ptpDue : List Nat := []
  cmpArmed : BitVec 8 := 0#8
  cmpVal : SMap Nat := []
  dlCoarse : BitVec 32 := 0#32
  dlGood : BitVec 32 := 0#32
  dlBad : BitVec 32 := 0#32
  dlErr : SMap (Nat × Nat) := []
  dlBack : SMap Nat := []
  syncSeen : Bool := false
  goodExchanges : Nat := 0
  farNow : Bool := false
  slew : Int := 0
  exch : SMap Exchange := []
  wakeAt : Option Nat := none
  midnight : Bool := false
  stopTl : Tick := 0#64
  syncFwd : Option Nat := none
  relock : Bool := false
  deriving DecidableEq, Repr

/-! ## Legs, trip zones and the safe pattern (spec/03) -/

/-- The state of a leg: the high switch conducts, the low switch conducts, or neither. -/
inductive LegState where
  | off | a | b
  deriving DecidableEq, Repr

/-- A carrier counter (R83 to R88). `zeroDone` and `perDone` say that the events of the present tick have been raised;
`wrap` that an UP-mode period ended at this tick, so that the next count is 0; `passed` that the count came down onto a PER
that became active at the top, which raises no PERIOD (R94). What the transfers of the tick leave to be decided once all of them have been
made (R92): `load` that PHASE is to be loaded, and whether by a start, and `perWas` the PER that stood before the first one (R95, R96). -/
structure Carrier where
  count : Nat := 0
  down : Bool := false
  zeroDone : Bool := false
  perDone : Bool := false
  wrap : Bool := false
  passed : Bool := false
  load : Option Bool := none
  perWas : Option Nat := none
  deriving DecidableEq, Repr

/-- What decides a leg's outputs now: its state, a trip action, the safe pattern, or nothing until the leg resumes (R121,
R126). -/
inductive Stage where
  | follow | trip | safe | resume
  deriving DecidableEq, Repr

/-- One gate output. Instants are counted in fines from the start of the tick count: the last assertion, the last
deassertion, and the instants at which a dead time, a minimum pulse or an interlock that is running ends. -/
structure Side where
  on : Bool := false
  onAt : Nat := 0
  offAt : Nat := 0
  pend : Option Nat := none
  minp : Option Nat := none
  ilk : Option Nat := none
  deriving DecidableEq, Repr

/-- Which compare actions have been made in the present half (`acted`, R101), which matches of the present tick have
been taken (`done`), the tick (plus 1) of the match whose edge was placed within the tick before it (`early`, R637), and the tick (plus
1) at which its value became active last (`fresh`, R101), for CMPA or CMPB. DEDUCED (log 44). -/
structure CmpFlags where
  actedUp : Bool := false
  actedDn : Bool := false
  done : Bool := false
  early : Nat := 0
  fresh : Nat := 0
  deriving DecidableEq, Repr

/-- One leg: its state, the state its output stage was last given (they differ only within one instant, while a further action
at that instant is to come, R104), its two outputs, what decides them, and its two compares. -/
structure Leg where
  state : LegState := .off
  driven : LegState := .off
  high : Side := {}
  low : Side := {}
  stage : Stage := .safe
  cmpA : CmpFlags := {}
  cmpB : CmpFlags := {}
  tripped : Bool := false
  deriving DecidableEq, Repr

/-- The legs, their carriers, and the pins and flits that feed the trip zones. `trips` are the latched zones in the order in which they
latched, each with the origin and stamp that a TRIP flit gives for it (R537); `flash` are the zones that a source held for one tick asserts
now (R113, R538); `gsyncDue` that a global sync is to occur at the coming tick, and `gsyncAt` the tick (plus 1) of the last one (R636);
`trip` the levels at the TRIP pins and `tripAt` the ticks at which they last changed (R114). DESIGN CHOICE (log 4). -/
structure LegSys where
  carrier : SMap Carrier := []
  leg : SMap Leg := []
  safeNLow : Bool := false
  trips : List (Nat × Nat × Nat) := []
  flash : BitVec 8 := 0#8
  gsyncDue : Bool := false
  gsyncAt : Nat := 0
  tripSent : Nat := 0
  trip : BitVec 32 := 0#32
  tripAt : SMap Nat := []
  deriving DecidableEq, Repr

/-! ## Timers (spec/04) -/

/-- One entry of a capture queue (R153). -/
structure Capture where
  count : Word
  edge : Nat
  stamp : Nat
  deriving DecidableEq, Repr

/-- What stands behind a TMR page: prescaler, output level now and at the end of the last tick (R146, R147), capture queue, and
the tick (plus 1) at which its step of the tick was last decided (`seen`) and at which a COUNT write or a RESET shut a step
out (`noStep`, R141, R148). -/
structure Timer where
  presc : Nat := 0
  out : Bool := false
  outPrev : Bool := false
  queue : List Capture := []
  seen : Nat := 0
  noStep : Nat := 0
  deriving DecidableEq, Repr

/-- The timers; the recognised levels of TIO0 to TIO63 (`tio`), the levels that the board drives (`ext`), the levels that stood at the
pins at the last tick and the one before (`inA`, `inB`), the levels last sampled, two ticks after they stood at the pins, and the ticks at
which these changed (`samp`, `sampAt`, R139, R152, R153); the levels of TIO0 to TIO3 that AON sampled in the last three slow periods,
newest first (`aon`, R592); the slave uses of an equal or higher timer's event (R146), as pairs
of a timer and the selector it uses: `late` act at the present tick, `next` at the one after; the events of the present tick that
the timers and the trigger network have not been given yet (R148 step 6), and the tick (plus 1) at which they were last given any. -/
structure TimerSys where
  tmr : SMap Timer := []
  tio : BitVec 64 := 0#64
  ext : BitVec 64 := 0#64
  inA : BitVec 64 := 0#64
  inB : BitVec 64 := 0#64
  samp : BitVec 64 := 0#64
  sampAt : SMap Nat := []
  aon : List (BitVec 64) := []
  evs : List Nat := []
  given : Nat := 0
  late : List (Nat × Nat) := []
  next : List (Nat × Nat) := []
  deriving DecidableEq, Repr

/-! ## The event arbiter (spec/16) -/

/-- A pending request of one source (R559, R560), or a granted record when `seq` has been given (R561, R562). -/
structure EvRec where
  source : Nat
  code : Nat
  stamp : Nat
  merged : Bool := false
  fwd : Bool := false
  makeup : Bool := false
  seq : Nat := 0
  deriving DecidableEq, Repr

structure Eva where
  pending : List EvRec := []
  log : List EvRec := []
  deriving DecidableEq, Repr

/-! ## Modulator slices (spec/05) -/

/-- A rotation step in progress (R180): its origin, its target channel, what the calibration filter measures, the uncorrected outputs
of the handover filter and the corrected ones of the channel's fast filter that the handover check compares (`chMean` stands for the
latter where the filter is off), whether either slice overloaded since the spare was connected, whether it has been, and whether the
check has passed. -/
structure Rotation where
  origin : Nat
  target : Nat
  cal : Cal
  ho : List Word
  outs : List Word := []
  chMean : Word
  ovld : Bool
  connected : Bool := false
  passed : Bool := false
  deriving DecidableEq, Repr

/-- What stands behind a MODG page. `held` is the channel and old slice of a handover not yet released (R185); `calAt` the tick (plus 1) of
each slice's last calibration (AGE); `full` the slices in overload and whether at positive full scale (R174); `retry` that the last step was
cancelled, so that the next has the same target (R190); `needInit` that no INIT has completed since the domain was switched on (R178);
`last` the tick of the last switch, its channel and the old slice with its coefficients, for the output at the switch boundary (R183).
DESIGN CHOICE (log 49). -/
structure ModGroup where
  rot : Option Rotation := none
  nextOrigin : Nat := 0
  prevTarget : Option Nat := none
  retry : Bool := false
  initAt : Option Nat := none
  needInit : Bool := false
  held : Option (Nat × Nat) := none
  calAt : SMap Nat := []
  full : List (Nat × Bool) := []
  last : Option (Nat × Nat × Nat × Word × Word) := none
  deriving DecidableEq, Repr

/-! ## Filters and conversions (spec/06) -/

/-- A modulator clock output: the setting in effect, one that waits for its first rising edge, and the tick of the last rising edge
(R197). -/
structure MClk where
  cfg : Word := 0#32
  pend : Option Word := none
  edge : Option Nat := none
  deriving DecidableEq, Repr

/-- One fast-path output: the tick of its boundary, the corrected frac32 value (R175) and its INVALID flag. -/
structure FastOut where
  tick : Nat
  y : Word
  inv : Bool
  deriving DecidableEq, Repr

/-- A fast-path channel: outputs still INVALID after a restart, and that a restart waits for its boundary (R208), the comparators' running
counts and states (R212), and its latest outputs, newest first, as far back as an OLU can ask (R258). -/
structure Filt where
  restart : Nat := 2
  pend : Bool := false
  hiRun : Nat := 0
  loRun : Nat := 0
  hi : Bool := false
  lo : Bool := false
  hist : List FastOut := []
  deriving DecidableEq, Repr

/-- A conversion request (R220, R223). `due` counts elapsed ticks. -/
structure PfeReq where
  due : Nat
  stamp : Nat
  seq : Word
  trg : Nat
  chan : Nat
  osr : Nat
  k : Nat
  urgent : Bool
  restarts : Nat := 0
  deriving DecidableEq, Repr

/-- The coefficients and the full-scale hold that apply to a conversion's outputs from a tick on (R174 to R176, R199). -/
structure RunMark where
  at_ : Nat
  offs : Word
  gain : Word
  full : Option Bool
  deriving DecidableEq, Repr

/-- Bits of a window from one tick on: the tick of the first, the ticks between two, and how many came before (R216). -/
structure RunSeg where
  first : Nat
  step : Nat
  before : Nat
  deriving DecidableEq, Repr

/-- A running conversion: its window start and its length in bits, the local slice it reads (R184), when its bits are taken and what
applies to them, newest first, and its flags so far. -/
structure PfeRun where
  req : PfeReq
  w : Nat
  len : Nat
  slice : Option Nat
  segs : List RunSeg
  marks : List RunMark
  late : Bool
  inv : Bool
  ovl : Bool
  deriving DecidableEq, Repr

/-- A result, its value as int24 in the low bits (R217). -/
structure PfeRes where
  value : Nat
  req : PfeReq
  late : Bool
  inv : Bool
  ovl : Bool
  deriving DecidableEq, Repr

/-- The results last appended for an engine and a channel: the tick and the result, and the last result of an earlier tick (R258). -/
structure Latest where
  at_ : Nat
  res : PfeRes
  prev : Option PfeRes
  deriving DecidableEq, Repr

/-- A precision filter engine: queue of 16, running window, results computed but not yet appended, result FIFO of 32. -/
structure Pfe where
  queue : List PfeReq := []
  run : Option PfeRun := none
  finished : List PfeRes := []
  fifo : List PfeRes := []
  deriving DecidableEq, Repr

/-! ## The loop engine (spec/07) -/

/-- An evaluation that a band engine has begun and not completed: the output, the table index held at its boundary (R244), the entry
fetched for it, if one was (R246), and the registers it began with (R243). -/
structure BandIn where
  out : FastOut
  ix : Nat
  entry : Option (Option Word)
  regs : List (Nat × Word)
  deriving DecidableEq, Repr

/-- A band engine: its state and the tick at which that becomes active in the leg (R248), the states that have yet to become active there,
with their ticks (R249, R251), the evaluation in progress (R252), the table entry fetched for the next output, by its byte offset (R246),
the adaptation count (R253), the oscillation record, newest first (R275), the chatter count (R276), and the table phase (R244). -/
structure Band where
  state : LegState := .off
  due : List (Nat × LegState) := []
  pre : Option (Nat × Option Word) := none
  since : Nat := 0
  wait : Option BandIn := none
  opened : Option Nat := none
  entries : Nat := 0
  lim : Bool := false
  osc : List Nat := []
  chatNow : Bool := false
  chatCnt : Nat := 0
  ix : Nat := 0
  fr : Nat := 0
  frNew : Word := 0#32
  refUsed : Word := 0#32
  deriving DecidableEq, Repr

/-- The inputs an OLU evaluation took at its trigger tick (R258), and what was pending on its bank then. -/
structure OluEval where
  trig : Nat
  deadline : Option Nat
  fa : Word
  fb : Word
  fc : Word
  inv : Bool
  count : Word
  theta : Word
  cascade : Word
  regs : List (Nat × Word)
  swap : Bool
  deriving DecidableEq, Repr

/-- An outer loop unit: integrators as signed 72-bit values (R262), the running evaluation, a trigger not yet taken, the
following-error run (R277), the PFE results last used (R261), the tick of the last commit with the OUT_D that stood before that tick
(R258), and the holding registers of R285. -/
structure Olu where
  outAt : Option Nat := none
  outWas : Word := 0#32
  intD : Int := 0
  intQ : Int := 0
  run : Option OluEval := none
  trig : Option Nat := none
  feRun : Option Nat := none
  used : SMap Nat := []
  holdD : Option (Word × Word) := none
  holdQ : Option (Word × Word) := none
  deriving DecidableEq, Repr

/-! ## Position interfaces (spec/08) -/

/-- An SSI frame in progress (R307): its start tick and stamp, its length, half period and delay, and the bits sampled so far,
first bit first. -/
structure SsiFrame where
  f : Nat
  stamp : Nat
  len : Nat
  half : Nat
  dly : Nat
  bits : List Bool
  deriving DecidableEq, Repr

/-- One input pin of a position channel: the level at it, the level last sampled, and the first sample of the run of that level: its number
at POSA, POSB and POSZ, its tick at PROBE (R288, R302). -/
structure PinLine where
  pin : Bool := false
  samp : Bool := false
  since : Nat := 0
  deriving DecidableEq, Repr

/-- A position channel: recognised levels, the pins with the last samples taken of them, the step record of the edge-period speed (newest
first, with the sign of its direction, R304), recent values of RAW by tick (R303), the window speed's base and the length of the window that
ended last (R305), and the SSI side with the tick of the last complete frame (R307 to R312). -/
structure Pos where
  a : Bool := false
  b : Bool := false
  z : Bool := false
  prb : Bool := false
  la : PinLine := {}
  lb : PinLine := {}
  lz : PinLine := {}
  lp : PinLine := {}
  sampled : Nat := 0
  prbAt : Option Nat := none
  steps : List Nat := []
  stepUp : Bool := true
  stepsValid : Nat := 0
  timedOut : Bool := false
  rawHist : List (Nat × Word) := []
  winBase : Word := 0#32
  winSkip : Bool := false
  winDone : Nat := 0
  winSh : Nat := 16
  ssiAt : Option Nat := none
  ssi : Option SsiFrame := none
  ssiPrev : Option Nat := none
  ssiHold : Option (Word × Word) := none
  deriving DecidableEq, Repr

/-! ## The stream engine (spec/14) -/

/-- A closed record (R500): its kind, sequence number, stamp, flags and payload before padding; and the tick at which it closed. -/
structure StreamRec where
  kind : Nat
  rseq : Nat
  stamp : Nat
  flags : Nat
  payload : List Byte
  closed : Nat := 0
  deriving DecidableEq, Repr

/-- An open record (R501): its kind, the stamp and elapsed tick of its first entry, the entries so far and its flags. -/
structure StreamOpen where
  kind : Nat
  stamp : Nat
  tick : Nat
  count : Nat
  flags : Nat
  bytes : List Byte
  overrun : Bool
  deriving DecidableEq, Repr

/-- A run of lost records (R509): first sequence number and stamp, how many, the last one's stamp, the reasons, and the RESTART flag of the
first (R512). -/
structure StreamGap where
  rseq : Nat
  stamp : Nat
  count : Nat
  last : Nat
  reason : Nat
  flags : Nat
  deriving DecidableEq, Repr

/-- A stream: the open record, the outputs collected for the present boundary of a FAST source (channel, word) and that boundary, the
stamps of MEM copies that are due, records in staging and in the hold region, where in that region the next one is written and the bytes
that are on their way there (R507), a run of losses, the UDP bytes sent in this generation (B of R505), whether the next record is the
first after a soft reset (R512), whether a frame is ready to leave because FLUSH ran out (R504), the tick at which its last unsent record
left (R512), whether it stands on ETH0, and the fence of a move (R511). DESIGN CHOICE (log 92). -/
structure Stream where
  cur : Option StreamOpen := none
  part : List (Nat × Word) := []
  partTick : Nat := 0
  memDue : List Nat := []
  staged : List StreamRec := []
  hold : List StreamRec := []
  holdAt : Nat := 0
  spill : List (Nat × List Byte) := []
  gap : Option StreamGap := none
  sentBytes : Nat := 0
  restart : Bool := false
  ready : Bool := false
  emptied : Option Nat := none
  onEth0 : Bool := false
  fence : Option Nat := none
  deriving DecidableEq, Repr

/-! ## Memories (spec/12) -/

/-- What a stored 64-bit word differs by from a clean code word of the bytes it should hold (R421, R422): the poison pattern in
its check bytes, and damage, an 88-bit pattern whose byte i is the error in symbol i. A hard fault (R435) is a mask of stuck bits among
the 88, and the level at which each of them is stuck. DESIGN CHOICE (log 8). -/
structure WordFault where
  poison : Bool := false
  damage : Nat := 0
  stuck : Nat := 0
  level : Nat := 0
  deriving DecidableEq, Repr

/-- The memories of the local space: bytes by local address, in canonical form, and the words that are not clean. -/
structure Memory where
  cells : List Host.Cell := []
  faults : SMap WordFault := []
  deriving DecidableEq, Repr

/-! ## Cores (spec/09 to spec/11) -/

/-- A general register: its value and its poison tag (R349). -/
structure TaggedWord where
  v : Word := 0#32
  p : Bool := false
  deriving DecidableEq, Repr

/-- A wide register, 72 bits as a number below 2^72, and its poison tag (R349). -/
structure TaggedWide where
  v : Nat := 0
  p : Bool := false
  deriving DecidableEq, Repr

/-- A write of a multiplier result register: its register, issue position and value (R356). -/
structure MulWrite where
  reg : Nat
  pos : Nat
  val : TaggedWide
  deriving DecidableEq, Repr

/-- One instruction or syllable: opcode number (R373), register fields, immediate, encoding. -/
structure KInst where
  op : Nat
  d : Nat := 0
  a : Nat := 0
  b : Nat := 0
  imm : Word := 0#32
  enc : Enc := {}
  deriving DecidableEq, Repr

/-- A long operation that has not completed (R329): the w register or accumulator it writes, unless a later instruction wrote that
since; its result; whether it sets SATF; and the address of a divide by zero. -/
structure LongOp where
  wdst : Option Nat
  adst : Option Nat
  res : TaggedWide
  sat : Bool
  zero : Option Word
  deriving DecidableEq, Repr

/-- An imprecise exception that waits for its boundary (R410): descriptor, XADDR, DETAIL. -/
structure Imprecise where
  desc : Nat
  xaddr : Word
  detail : Nat
  deriving DecidableEq, Repr

/-- A buffered store (R332): its core address, its target (a device, or none for this one, and a local address), its bytes and poison,
which path it takes, and whether its request has left for another device. -/
structure StoreEnt where
  id : Nat
  core : Word
  dest : Option Nat
  addr : Nat
  bytes : List Byte
  poison : Bool
  page : Bool
  sent : Bool
  deriving DecidableEq, Repr

/-- A cache or buffer line of 64 bytes: its number, its bytes (none kept for code), its poisoned words; in a cache the way of its set,
the damage to its 8 stored words and to its stored tag, as in `WordFault` (R320, R433). DESIGN CHOICE (log 143). -/
structure CacheLine where
  line : Nat
  bytes : List Byte
  bad : List Bool
  way : Nat := 0
  dmg : List Nat := []
  tagDmg : Nat := 0
  deriving DecidableEq, Repr

/-- What came back for a read of another device: bytes and poison, or an error (1 decode, 2 routing). -/
inductive RemoteData where
  | ok (bytes : List Byte) (poison : Bool)
  | err (code : Nat)
  deriving DecidableEq, Repr

/-- An entry to be made (R400): descriptor, the address to save, DETAIL, XADDR, line priority, and the iterations of `rep` left. -/
structure EntryReq where
  desc : Nat
  xpc : Word
  detail : Nat
  xaddr : Word
  prio : Nat
  rep : Option Nat
  deriving DecidableEq, Repr

/-- A core stopped in an issue position, or in an entry, until another device has answered: a read, or a store that must complete
first. -/
inductive CoreWait where
  | position (insts : List KInst) (got : List RemoteData)
  | entry (req : EntryReq) (got : List RemoteData)
  deriving DecidableEq, Repr

/-- A core (R315 to R348, R349 to R359, R386, R393, R410): `lastWay` is the way of each I-cache set used last (R321), `waited` the parts of
the present position's loads that waited for stores (R334), `rstReq` that a soft reset is to stop it and `rstAt` when it has (R345). -/
structure Core where
  w : SMap TaggedWord := []
  m : SMap TaggedWide := []
  mNew : List MulWrite := []
  acc : SMap TaggedWide := []
  sr : SMap Word := []
  stack : List Word := []
  pc : Word := 0#32
  pos : Nat := 0
  longs : List LongOp := []
  imprecise : List Imprecise := []
  sb : List StoreEnt := []
  nextStore : Nat := 0
  repLeft : Option Nat := none
  bundle : List KInst := []
  await : Option CoreWait := none
  waiting : Bool := false
  haltReq : Bool := false
  stepping : Bool := false
  dcache : List CacheLine := []
  icache : List CacheLine := []
  lbuf : List CacheLine := []
  lastWay : SMap Nat := []
  waited : List Nat := []
  rstReq : Bool := false
  rstAt : Option Nat := none
  deriving DecidableEq, Repr

/-! ## The fabric (spec/15) -/

/-- A flit that waits to leave: the link whose buffer holds it, if one does, and the egress it is bound to, if it is. -/
structure WaitFlit where
  flit : Flit
  ingress : Option Nat
  via : Option Nat
  deriving DecidableEq, Repr

/-- One end of a link (R516 to R525): the replay buffer with how often each flit was resent, accepted flits not yet
acknowledged and the tick of the oldest, the tick of the last NAK without progress, the tick of the present state's beginning
and of the last LCTL received and sent, credits owed to the peer by VC, the place in the round robin, whether sequence state is held,
whether its RESUME has been sent in this RETRAIN, and by VC the flits of a message that has not arrived whole (R520). DESIGN CHOICE (log 126). -/
structure Link where
  replay : List (Flit × Nat) := []
  accepted : Nat := 0
  accAt : Option Nat := none
  nakAt : Option Nat := none
  since : Nat := 0
  lctlAt : Nat := 0
  lctlSent : Nat := 0
  owed : SMap Nat := []
  turn : Nat := 0
  hasState : Bool := false
  resumed : Bool := false
  parts : SMap (List Flit) := []
  deriving DecidableEq, Repr

/-- A fence (R535) for a destination and VC: whether it waits for time rather than for an answer, from when, and what it holds. -/
structure Fence where
  dest : Nat
  vc : Nat
  byTime : Bool
  since : Nat
  held : List WaitFlit
  deriving DecidableEq, Repr

/-- Who waits for a response: a core's load or fetch, a core's buffered store, a CVU's scan, or a session's request. -/
inductive ReqSource where
  | core (k : Nat)
  | store (k id : Nat)
  | cvu (c : Nat)
  | sess (s seq : Nat)
  deriving DecidableEq, Repr

/-- A request of this device that has no response yet (R528, R533). -/
structure OutReq where
  tag : Nat
  dest : Nat
  op : Nat
  addr : Nat
  len : Nat
  sentAt : Nat
  src : ReqSource
  deriving DecidableEq, Repr

/-! ## What leaves the device -/

/-- What a sent frame carries: a UDP datagram from the port's UDP_PORT or another, an ARP reply, a neighbour advertisement, an echo
reply, a PFC frame, or a frame of software's as its bytes. -/
inductive FrameBody where
  | udp (peer : Peer) (fromPort : Nat) (payload : List Byte)
  | arpReply (mac ip own : Nat)
  | neighbour (mac ip own : Nat) (solicited : Bool)
  | echo (peer : Peer) (message : List Byte)
  | pfc (priority quanta : Nat)
  | raw (bytes : List Byte)
  deriving DecidableEq, Repr

/-- A frame that leaves a port: its 802.1Q tag (priority, VID), its MACsec protection (SA, SCI, PN, encrypted), its body. -/
structure Frame where
  tag : Option (Nat × Nat)
  macsec : Option (Nat × Nat × Nat × Bool)
  body : FrameBody
  deriving DecidableEq, Repr

/-- A unit that Firefly can act on (R573). -/
inductive TxUnit where
  | flit (l : Nat) (f : Flit)
  | frame (e : Nat) (f : Frame)
  deriving DecidableEq, Repr

/-- A message on one of the device's outputs, in the order sent. A unit may have been corrupted by Firefly (FLIP, FLIP_OFF). An LCTL is 0
ACK, 1 NAK, 2 RESUME with a number and a credit return (VC, count). An IDENT goes out on a link, whose number it carries (R517). `flashRead`
is a read command to the boot flash (R594). DESIGN CHOICE (log 126). -/
inductive Sent where
  | unit (u : TxUnit) (corrupt : Option (Nat × Nat))
  | lctl (link kind number creditVc creditCount : Nat)
  | ident (link tgen : Nat) (id : Nat) (uid : Nat) (fresh : Bool)
  | syncWord (hop : Nat)
  | flashRead (command address dummies : Nat)
  | resetLow
  deriving DecidableEq, Repr

/-- A PTP stamp in the FIFO of a port (R472): sent or received, messageType, sequenceId, domain, and the stamp in fines. -/
structure TsEntry where
  tx : Bool
  kind : Nat
  seqId : Nat
  domain : Nat
  fines : Nat
  deriving DecidableEq, Repr

/-- An Ethernet port behind its page: stamps, frames that wait (priority, frame), the tick at which LINK_UP last changed, and the priorities
for which it has stopped its peer (R467). -/
structure EthPort where
  ts : List TsEntry := []
  wait : List (Nat × Frame) := []
  linkAt : Nat := 0
  stopped : BitVec 8 := 0#8
  deriving DecidableEq, Repr

/-- A Firefly instance behind its page (R574, R575): the generator, and the units held for reordering with the tick of the first. -/
structure Firefly where
  lfsr : Nat := 0
  held : List TxUnit := []
  heldAt : Nat := 0
  deriving DecidableEq, Repr

/-- Weevil and the links (spec/15): links, flits that wait, the last egress and tick for each destination and VC, fences, the next TAG,
requests without response, flits addressed to the device itself, the MAINT request outstanding (tag, tick), and ABORT requests of other
devices that wait for their abort (page, source, VC, TAG), and messages that wait behind an abort (R45). DESIGN CHOICE (log 126). -/
structure Fabric where
  link : SMap Link := []
  wait : List WaitFlit := []
  last : SMap (Nat × Nat) := []
  fences : List Fence := []
  tag : Nat := 0
  out : List OutReq := []
  loop : List Flit := []
  maint : Option (Nat × Nat) := none
  aborts : List (Nat × Nat × Nat × Nat) := []
  later : List (Option Nat × Flit × List Flit) := []
  firefly : SMap Firefly := []
  deriving DecidableEq, Repr

/-- A scrubber pass (R438, R441): the next word, the words left, whether it repairs, the tick of its last read (plus 1), whether
an uncorrectable word has been met, and the memory scanned. -/
structure ScrubPass where
  word : Nat
  left : Nat
  repair : Bool
  lastAt : Nat
  ueSeen : Bool
  id : Nat
  base : Nat
  deriving DecidableEq, Repr

/-- A check-value scan (R446, R453): the bytes read so far, and the fault that a read of another device met (cause, address). -/
structure CvuScan where
  got : List Byte := []
  fault : Option (Nat × Nat) := none
  deriving DecidableEq, Repr

/-! ## Uandi sessions (spec/13) -/

/-- A request of a session (R475), with the port and peer it came from. -/
structure SessReq where
  seq : Nat
  gen : Nat
  opcode : Nat
  poison : Bool
  body : List Byte
  port : Nat
  peer : Peer
  deriving DecidableEq, Repr

/-- A response as the replay cache keeps it (R481, R482); `long` that its body was too long to keep. -/
structure SessRsp where
  seq : Nat
  opcode : Nat
  status : Nat
  poison : Bool
  long : Bool
  body : List Byte
  deriving DecidableEq, Repr

/-- A session (R481, R484, R489): whether it is open and ever was, G, E, its peer and the port bound with it,
buffered requests, cached responses (oldest first), requests in progress at other devices, an accepted OPEN that waits for them, whether
it closes after them, subscriptions, HOLD, queued event records with the ticks of their grants, and losses not yet reported. -/
structure Session where
  opened : Bool := false
  ever : Bool := false
  gen : Nat := 0
  next : Nat := 0
  peer : Option Peer := none
  port : Nat := 0
  slots : List SessReq := []
  cache : List SessRsp := []
  fly : List SessReq := []
  opening : Option SessReq := none
  closing : Bool := false
  subs : BitVec 1024 := 0#1024
  hold : Nat := 0
  events : List (EvRec × Nat) := []
  lost : Nat := 0
  deriving DecidableEq, Repr

/-! ## Operating modes (spec/17) -/

/-- A Dawn run (R598, R600): the mode it returns to, the tick of its start, its present step (20 once the last has ended) and the tick at
which that began, what it is known to fail. -/
structure DawnRun where
  back : Mode
  start : Nat
  step : Nat := 1
  stepAt : Nat := 0
  failed : DawnSet := {}
  deriving DecidableEq, Repr

/-- A cause of Dusk (R586): DUSK_CAUSE's kind and index, and its stamp. -/
structure DuskCause where
  kind : Nat
  index : Nat
  stamp : Nat
  deriving DecidableEq, Repr

/-- Mode, transition, Dusk, power domains and boot. `transit` is the mode a transition in progress goes to; `late` a cause that came while
leaving SAFE (R587); `sleepReq` a SLEEP request that waits, its tick and requester (R590); `pd` the domains that are on; `bootAt` that BOOT
waits for an image, and since when, `hostImage` that it waits for the host's (R594); `received` and `total` the staged bytes of a host's
image and what is to come (R491), `configured` that CONFIGURE has been entered since reset (R618), `wakeBoot` that a RETAIN wake is to be
booted (R591), `verifyDue` that BOOT.CTL.VERIFY was written (R594), `verify` the session and request whose image is being verified, if any;
`rbFuse` the rollback level programmed since delivery (R597); `asker` who wrote the last accepted MODE.REQ, and `reqWas` what that register
held before (R587, R590). DESIGN CHOICE (log 4). -/
structure Sys where
  mode : Mode := .boot
  prev : Mode := .retain
  transit : Option Mode := none
  sleepReq : Option (Nat × Requester) := none
  bootAt : Option Nat := none
  hostImage : Bool := false
  received : Nat := 0
  total : Option Nat := none
  verify : Option (Nat × SessReq) := none
  rbFuse : Option Nat := none
  dawn : Option DawnRun := none
  configured : Bool := false
  wakeBoot : Bool := false
  verifyDue : Bool := false
  dusk : Bool := false
  late : Option DuskCause := none
  asker : Requester := { devid := 0xFFF#12, kind := .master, index := 0 }
  reqWas : Word := 2#32
  pd : BitVec 64 := BitVec.allOnes 64
  straps : Straps := { dawnEn := false, root := true, bootsel := 0, posid := 0 }
  deriving DecidableEq, Repr

/-! ## The whole -/

/-- Everything but the memories and the queue. `soon` are writes not usable yet (R15); `swTrg` the trigger entries that SW_TRG fires at the
present tick (R220). DESIGN CHOICE (log 4). -/
structure Device where
  regs : SMap Word := []
  shadow : SMap Word := []
  resp : Response := .none
  aborts : SMap AbortRec := []
  held : List HeldWrite := []
  soon : List SoonWrite := []
  time : TimeBase := {}
  legs : LegSys := {}
  eva : Eva := {}
  tmrs : TimerSys := {}
  modg : SMap ModGroup := []
  mclk : SMap MClk := []
  filt : SMap Filt := []
  swTrg : BitVec 64 := 0#64
  pfe : SMap Pfe := []
  latest : SMap Latest := []
  band : SMap Band := []
  olu : SMap Olu := []
  pos : SMap Pos := []
  posNo : Nat := 0
  posAt : Option Nat := none
  stream : SMap Stream := []
  scrub : SMap ScrubPass := []
  cvuBusy : List Nat := []
  cvuScan : SMap CvuScan := []
  sess : SMap Session := []
  streamSpent : Nat := 0
  streamTurn : Nat := 0
  streamFrom : Nat := 0
  sys : Sys := {}
  sent : List Sent := []
  fab : Fabric := {}
  eth : SMap EthPort := []
  core : SMap Core := []
  forced : List Nat := []
  dawnBad : List Nat := []
  testBad : List Nat := []
  free : Nat := 0
  deriving DecidableEq, Repr

/-- A fault of the machine: none of this block's commands has one. -/
inductive Fault where
  deriving DecidableEq, Repr

/-- Why a command is refused. -/
inductive Refusal where
  /-- Raised by exec for a command that has no meaning yet. Safe: nothing happens. -/
  | notModelled (mnemonic : String)
  deriving DecidableEq, Repr

/-- The machine: the device, its memories and the commands that wait, first in first out. `ran` is the model's own: the device's
own events that steps on an empty queue have performed at the present tick. -/
structure State where
  dev : Device := {}
  mem : Memory := {}
  pending : List Instr := []
  ran : List Instr := []
  deriving DecidableEq, Repr

/-- The machine right after reset: every register at its reset value (an empty map reads as the reset values of the register
maps), every block's state as the spec leaves it, the mode BOOT with the time reference not yet locked. DESIGN CHOICE (log 4). -/
def State.reset : State := {}

end Sys2Proof.Machine
end

