-- ==== Sys2Proof/Machine/Ops.lean ====
section
/-! DEFINITION. The named operations over the registers: reading and writing one by page and offset, its reset value, the
shadow copy of an RWS register (R6), the error a page records (R34), whether a page is enabled and powered, and the requests
that events make of EVA (R40, R559, R560). -/

namespace Sys2Proof.Machine

/-! ## Reset values -/

/-- PAGE_ID of a page (R33, R603, R606, R2). -/
def pageId (p : Nat) : Word := wd (classOf p * 2 ^ 24 + instOf p * 2 ^ 16 + 0x01B1)

/-- Bank registers of an OLU at reset (R284). -/
def oluBankReset (i : Nat) : Word :=
  match i with
  | 3 => 0x7FFFFFFF#32 | 4 => 0x80000000#32 | 5 => 0x7FFFFFFF#32 | 6 => 0x80000000#32 | 7 => 0x10000000#32 | _ => 0#32

/-- Reset values that depend on the instance or on the element (R130, R201, R284, R313, R346, R468, R495, R554): the register map's own
value otherwise; 0 at a reserved offset (R9). -/
def resetVal (p off : Nat) : Word :=
  let cls := classOf p
  let i := instOf p
  if off < 0x040 then
    if off = 0x000 then pageId p else 0#32
  else if cls = 3 ∧ 0x100 ≤ off ∧ off < 0x200 ∧ off % 0x40 = 0 then wd (i * 0x100)
  else if cls = 5 ∧ 0x080 ≤ off ∧ off < 0x0B0 ∧ off % 4 = 0 then wd (0xFFFF0000 + (off - 0x080) / 4)
  else if cls = 12 ∧ 0x0A0 ≤ off ∧ off < 0x0E0 ∧ off % 4 = 0 then oluBankReset (off / 4 % 8)
  else if cls = 13 ∧ off = Reg.POS.PRB_CFG then wd (0x40000 + i)
  else if cls = 14 ∧ off = Reg.CORE.CTL then (if i < 32 then 0x3C#32 else 0x1C#32)
  else if cls = 20 ∧ off = 0x048 then setBit Config.macLo 0 (decide (i = 1))
  else if cls = 20 ∧ off = 0x04C then Config.macHi &&& 0xFFFF#32
  else if cls = 21 ∧ off = 0x100 then 0xF#32
  else if cls = 24 ∧ off = Reg.LINK.STAT then 0xFFF00000#32
  else if cls = 21 ∧ off = 0x404 then 0xFFFFFF#32
  else if cls = 21 ∧ off = 0x408 then 0xF0000000#32
  else match rowAt cls off with
    | some r => r.reset
    | none => 0#32

/-- The map key of a register, and the reset value of a key. -/
def rkey (p off : Nat) : Nat := p * 4096 + off
def resetAt (k : Nat) : Word := resetVal (k / 4096) (k % 4096)

/-! ## Registers -/

/-- The register at offset `off` of page `p`. -/
def rd (d : Device) (p off : Nat) : Word := d.regs.get resetAt (rkey p off)

/-- Stores a whole register. -/
def wr (p off : Nat) (v : Word) (d : Device) : Device := { d with regs := d.regs.set resetAt (rkey p off) v }

/-- A field of a register, one bit of it, and writing either. -/
def rdF (d : Device) (p off lo n : Nat) : Nat := fld (rd d p off) lo n
def rdB (d : Device) (p off i : Nat) : Bool := bit (rd d p off) i
def wrF (p off lo n v : Nat) (d : Device) : Device := wr p off (setFld (rd d p off) lo n v) d
def wrB (p off i : Nat) (b : Bool) (d : Device) : Device := wr p off (setBit (rd d p off) i b) d

/-- A counter register's next value; it wraps. -/
def bump (p off : Nat) (d : Device) : Device := wr p off (incW (rd d p off)) d

/-- A value standing in the shadow of an RWS register, not yet active (R6). -/
def shadowOf (d : Device) (p off : Nat) : Option Word := d.shadow.find? (rkey p off)

/-- Puts a value into the shadow, and drops it from there. -/
def setShadow (p off : Nat) (v : Word) (d : Device) : Device := { d with shadow := d.shadow.insert (rkey p off) v }
def dropShadow (p off : Nat) (d : Device) : Device := { d with shadow := d.shadow.erase (rkey p off) }

/-- Makes the shadow of one register active, if it holds a value. -/
def takeShadow (p off : Nat) (d : Device) : Device :=
  match shadowOf d p off with
  | some v => dropShadow p off (wr p off v d)
  | none => d

/-- Header offsets (R33). -/
def hPAGE_ID : Nat := 0x000
def hPAGE_CTL : Nat := 0x004
def hPAGE_STAT : Nat := 0x008
def hIRQ_RAW : Nat := 0x00C
def hIRQ_EN : Nat := 0x010
def hIRQ_PEND : Nat := 0x014
def hIRQ_FORCE : Nat := 0x018
def hERR_CODE : Nat := 0x01C
def hERR_INFO : Nat := 0x020
def hLOCK : Nat := 0x024
def hOWNER : Nat := 0x028

/-- PAGE_CTL.EN; 1 on a page whose EN is fixed (R38). -/
def enabled (d : Device) (p : Nat) : Bool := enFixed (classOf p) || rdB d p hPAGE_CTL 0

/-- The domain of a page is on; AON always is (R581, R582). -/
def domainOn (d : Device) (p : Nat) : Bool :=
  match pageDomain p with
  | some k => d.sys.pd.getLsbD k
  | none => true

/-- A page answers accesses: the directory lists it and its domain is on (R23, R582). -/
def pageMapped (d : Device) (p : Nat) : Bool := pageListed p && domainOn d p

/-- PAGE_STAT.UNUSABLE (R33, R46). -/
def unusable (d : Device) (p : Nat) : Bool := rdB d p hPAGE_STAT 4
def setUnusable (p : Nat) (b : Bool) (d : Device) : Device := wrB p hPAGE_STAT 4 b d

/-- The first error since ERR_CODE was last read is recorded with its requester and offset; a later one sets MORE (R34). DESIGN CHOICE (log 125). -/
def recordErr (p code : Nat) (who : Requester) (off : Nat) (d : Device) : Device :=
  if rdF d p hERR_CODE 0 8 = 0 then
    wr p hERR_INFO (reqIdent who + wd off) (wrF p hERR_CODE 0 8 code d)
  else wrB p hERR_CODE 31 true d

/-- The device sleeps: in SLEEP or RETAIN the time reference is off (R54). DEDUCED (log 113). -/
def asleep (d : Device) : Bool := decide (d.sys.mode = .sleep) || decide (d.sys.mode = .retain)

/-- The time line counts: after lock, outside SLEEP and RETAIN, and not between a wake and its make-up (R49, R54, R75). -/
def tlRuns (d : Device) : Bool := d.time.everLocked && !asleep d && d.time.wakeAt.isNone

/-- The answer to the requester of the last access. -/
def answer (r : Response) (d : Device) : Device := { d with resp := r }

/-- A fresh value for what the spec leaves open: the counter moves on, the value is `Config.freeWord` of its old reading. DESIGN CHOICE (log 7). -/
def freeNext (d : Device) : Word × Device := (Config.freeWord d.free, { d with free := d.free + 1 })

/-- A message leaves the device. -/
def emit (m : Sent) (d : Device) : Device := { d with sent := d.sent ++ [m] }

/-! ## Events -/

/-- The present stamp: time line [47:0] (R559). -/
def stampNow (d : Device) : Nat := d.time.tl.toNat % 2 ^ 48

/-- Two requests of one source have the same key (R560): the code for class 0, the class for classes 1 to 3. -/
def sameKey (a b : EvRec) : Bool :=
  decide (a.source = b.source) &&
    (if a.code / 4096 = 0 ∨ b.code / 4096 = 0 then decide (a.code = b.code) else decide (a.code / 4096 = b.code / 4096))

/-- Stamp `a` lies no earlier than `b` in the 48-bit serial order (R58). -/
def stampLater (a b : Nat) : Bool := decide ((a + 2 ^ 48 - b) % 2 ^ 48 < 2 ^ 47)

/-- Merges a request into the pending one of the same key (R560): later stamp, later DETAIL, MERGED set. -/
def mergeReq (old new : EvRec) : EvRec :=
  { old with
    stamp := if stampLater new.stamp old.stamp then new.stamp else old.stamp
    code := new.code, merged := true, fwd := old.fwd || new.fwd, makeup := old.makeup || new.makeup }

/-- Replaces the first pending request that has the key of `r` by their merger. -/
def mergeInto (r : EvRec) : List EvRec → List EvRec
  | [] => []
  | e :: es => if sameKey e r then mergeReq e r :: es else e :: mergeInto r es

/-- A request reaches EVA (R560): merged, or appended to those pending; PEND_PEAK keeps the largest number (R561). -/
def request (r : EvRec) (d : Device) : Device :=
  if d.eva.pending.any (fun e => sameKey e r) then
    bump pgEva Reg.EVA.MERGE_CNT { d with eva := { d.eva with pending := mergeInto r d.eva.pending } }
  else
    let d1 := { d with eva := { d.eva with pending := d.eva.pending ++ [r] } }
    if rdF d1 pgEva Reg.EVA.PEND_PEAK 0 16 < d1.eva.pending.length then
      wr pgEva Reg.EVA.PEND_PEAK (wd (min 0xFFFF d1.eva.pending.length)) d1
    else d1

/-- IRQ_PEND of a page (R33). -/
def irqPend (d : Device) (p : Nat) : Word := rd d p hIRQ_RAW &&& rd d p hIRQ_EN

/-- After IRQ_RAW or IRQ_EN moved: the page interrupt event when IRQ_PEND passed from all-zero to non-zero (R40, class 1). -/
def pageIrq (p : Nat) (was : Word) (d : Device) : Device :=
  if was = 0#32 ∧ irqPend d p ≠ 0#32 then
    request { source := pageSource p, code := 0x1000, stamp := stampNow d } d
  else d

/-- Sets IRQ_RAW to a value, with the page interrupt event that follows. DEDUCED (log 26). -/
def setIrqRaw (p : Nat) (v : Word) (d : Device) : Device :=
  pageIrq p (irqPend d p) (wr p hIRQ_RAW (v &&& irqMask (classOf p)) d)

/-- Whether a cause of the page is raised as an event: its bit of EVT_EN, or always where the class has none. -/
def evtEnabled (d : Device) (p bitNo : Nat) : Bool :=
  match evtEnOff (classOf p) with
  | some off => rdB d p off bitNo
  | none => true

/-- A cause is raised with an argument and a stamp (R562, class 0): its IRQ_RAW bit sets and, where enabled, EVA gets a
request. A page whose domain is off raises nothing (R582). -/
def raiseAt (p bitNo arg stamp : Nat) (makeup : Bool) (d : Device) : Device :=
  if domainOn d p then
    let d1 := setIrqRaw p (rd d p hIRQ_RAW ||| oneBit bitNo) d
    if evtEnabled d1 p bitNo then
      request { source := pageSource p, code := arg * 32 + bitNo, stamp := stamp, makeup := makeup } d1
    else d1
  else d

/-- A cause is raised now, with argument 0. DESIGN CHOICE (log 125). -/
def raise (p bitNo : Nat) (d : Device) : Device := raiseAt p bitNo 0 (stampNow d) false d

/-- Raises a cause if a condition holds. -/
def raiseIf (b : Bool) (p bitNo : Nat) (d : Device) : Device := if b then raise p bitNo d else d

/-! ## Meanings as functions of the parts of the state -/

/-- A command that acts on the device alone: memory and queue stay as they are. -/
def onDev (f : Device → Device) (s : State) : Host.Outcome State Fault Refusal := .next { s with dev := f s.dev }

/-- A command that reads memory and writes none. -/
def onDevR (f : Memory → Device → Device) (s : State) : Host.Outcome State Fault Refusal :=
  .next { s with dev := f s.mem s.dev }

/-- A command that acts on the device and its memories. -/
def onBoth (f : Device × Memory → Device × Memory) (s : State) : Host.Outcome State Fault Refusal :=
  .next { s with dev := (f (s.dev, s.mem)).1, mem := (f (s.dev, s.mem)).2 }

/-- Applies a function for each element of a list, in its order. -/
def forEach {α β : Type} (xs : List α) (f : α → β → β) (d : β) : β := xs.foldl (fun acc x => f x acc) d

/-- Applies a function if a condition holds. -/
def doIf (b : Bool) (f : Device → Device) (d : Device) : Device := if b then f d else d

end Sys2Proof.Machine
end

