-- ==== Sys2Proof/Machine/Code.lean ====
section
/-! DEFINITION. The Reed-Solomon code of a stored word (spec/12, R421, R422): the field, check bytes, syndromes, and what a syndrome says. -/

namespace Sys2Proof.Machine

/-! ## GF(2^8) with x^8 + x^4 + x^3 + x^2 + 1 (R421) -/

/-- An element times α = 0x02. -/
def gfAlpha (a : Nat) : Nat := if a < 128 then 2 * a else (2 * a) ^^^ 0x11D

/-- An element times the n-th power of α. -/
def gfShift (n a : Nat) : Nat := (List.range n).foldl (fun x _ => gfAlpha x) a

/-- The product of two elements. -/
def gfMul (a b : Nat) : Nat := (List.range 8).foldl (fun s i => if b / 2 ^ i % 2 = 1 then s ^^^ gfShift i a else s) 0

/-! ## Code words -/

/-- Symbol i of an 88-bit pattern. -/
def symbolOf (e i : Nat) : Nat := e / 2 ^ (8 * i) % 256

/-- The power of x that symbol i is the coefficient of: the check bytes are those of x^0 to x^2, the data bytes those of x^3 to x^10; which
way each of them runs is not stated. DESIGN CHOICE (log 8). -/
def rsPlace (i : Nat) : Nat :=
  if i < 8 then (if Config.rsDataDown then 10 - i else 3 + i) else (if Config.rsCheckDown then 10 - i else i - 8)

/-- The symbol at a power of x. -/
def rsSymbol (x : Nat) : Nat := ((List.range 11).find? (fun i => decide (rsPlace i = x))).getD 0

/-- Syndrome j of an error: its value at the root α^j of (x + 1)(x + α)(x + α^2). -/
def syndromeAt (e j : Nat) : Nat := (List.range 11).foldl (fun s i => s ^^^ gfShift (j * rsPlace i) (symbolOf e i)) 0
def syndrome (e : Nat) : Nat × Nat × Nat := (syndromeAt e 0, syndromeAt e 1, syndromeAt e 2)

/-- The sum of two syndromes, which is the syndrome of the sum. -/
def addSyn (s t : Nat × Nat × Nat) : Nat × Nat × Nat := (s.1 ^^^ t.1, s.2.1 ^^^ t.2.1, s.2.2 ^^^ t.2.2)

/-- The error of one symbol that has this syndrome: the symbol, and the 88-bit error. -/
def oneSymbol (s : Nat × Nat × Nat) : Option (Nat × Nat) :=
  if s.1 = 0 then none
  else ((List.range 11).find? (fun i =>
    decide (s.2.1 = gfShift (rsPlace i) s.1) && decide (s.2.2 = gfShift (2 * rsPlace i) s.1))).map (fun i => (i, s.1 * 2 ^ (8 * i)))

/-- One data symbol enters the division by x^3 + 7 x^2 + 14 x + 8, the generator. -/
def rsDivide (r : Nat × Nat × Nat) (sym : Nat) : Nat × Nat × Nat :=
  let f := sym ^^^ r.1
  (r.2.1 ^^^ gfMul 7 f, r.2.2 ^^^ gfMul 14 f, gfMul 8 f)

/-- The clean code word of 64 data bits: the check bytes are the remainder. -/
def codeWord (v : Nat) : Nat :=
  let r := [10, 9, 8, 7, 6, 5, 4, 3].foldl (fun r x => rsDivide r (symbolOf v (rsSymbol x))) (0, 0, 0)
  v % 2 ^ 64 + r.1 * 2 ^ (8 * rsSymbol 2) + r.2.1 * 2 ^ (8 * rsSymbol 1) + r.2.2 * 2 ^ (8 * rsSymbol 0)

/-- The poison pattern on the check bytes (R422), which is not visible. DESIGN CHOICE (log 8). -/
def poisonError : Nat := Config.poisonPattern % 2 ^ 24 * 2 ^ 64

end Sys2Proof.Machine
end

