-- ==== Sys2Proof/Machine/MemOps.lean ====
section
/-! DEFINITION. The memories of the local space (spec/12): bytes in canonical form, the decoding of a stored word and its log
(R421, R422, R430, R431), reads and writes (R423 to R426), and which addresses hold memory (R21, R429). -/

namespace Sys2Proof.Machine

/-! ## Bytes -/

/-- What an unlisted byte reads as: memories are written with zeros when they are powered (R582). DESIGN CHOICE (log 2). -/
def byteDefault (_ : Nat) : Byte := 0#8

/-- DESIGN CHOICE (log 2). -/
def memByte (m : Memory) (a : Nat) : Byte := SMap.get byteDefault m.cells a
def setByte (a : Nat) (b : Byte) (m : Memory) : Memory := { m with cells := SMap.set byteDefault m.cells a b }

/-- Writes bytes at rising addresses. -/
def setBytes : Nat → List Byte → Memory → Memory
  | _, [], m => m
  | a, b :: bs, m => setBytes (a + 1) bs (setByte a b m)

/-- The canonical form: both maps rising, without entries that say nothing. DESIGN CHOICE (log 2). -/
def Memory.wf (m : Memory) : Bool := SMap.wf byteDefault m.cells && SMap.wf (fun _ => ({} : WordFault)) m.faults

/-- The stored data of word w, the word at address 8 * w, and its faults. -/
def storedWord (m : Memory) (w : Nat) : Nat := numLE ((List.range 8).map (fun i => memByte m (8 * w + i)))
def faultOf (m : Memory) (w : Nat) : WordFault := SMap.get (fun _ => {}) m.faults w

/-- The error that the stuck bits of a word make in data v stored with fresh check bytes or with the poison pattern (R435). -/
def stuckError (v : Nat) (poison : Bool) (f : WordFault) : Nat :=
  if f.stuck = 0 then 0 else ((codeWord v ^^^ (if poison then poisonError else 0)) ^^^ f.level) &&& (f.stuck % 2 ^ 88)

/-- The faults of a word in which data v has just been stored. -/
def freshFault (v : Nat) (poison : Bool) (f : WordFault) : WordFault := { f with poison := poison, damage := stuckError v poison f }

/-- Stores a whole word with fresh check bytes, or with the poison pattern; a hard fault stays (R435). -/
def storeWord (w v : Nat) (poison : Bool) (m : Memory) : Memory :=
  let f := freshFault v poison (faultOf m w)
  let m := setBytes (8 * w) (bytesLE 8 (v ^^^ f.damage % 2 ^ 64)) m
  { m with faults := SMap.set (fun _ => {}) m.faults w f }

/-! ## Decoding (R422) -/

inductive RsOutcome where
  | clean | corrected | poisoned | uncorrectable
  deriving DecidableEq, Repr

/-- What a read of a word delivers: the outcome, the data, and the symbol of a correctable error. -/
structure Decoded where
  outcome : RsOutcome
  data : Nat
  symbol : Option Nat
  deriving DecidableEq, Repr

/-- The data carry poison. -/
def Decoded.bad (x : Decoded) : Bool :=
  match x.outcome with
  | .poisoned => true
  | .uncorrectable => true
  | _ => false

/-- The symbols that damage touches. -/
def damaged (dmg : Nat) : List Nat := (List.range 11).filter (fun i => dmg / 2 ^ (8 * i) % 256 ≠ 0)

/-- Stored data v decoded by the syndrome of their error, as the table of R422 says. -/
def decodeBySyndrome (v : Nat) (s : Nat × Nat × Nat) : Decoded :=
  let fix := fun c => (v ^^^ c) % 2 ^ 64
  let p := addSyn s (syndrome poisonError)
  if s = (0, 0, 0) then ⟨.clean, v, none⟩
  else match oneSymbol s with
    | some c => ⟨.corrected, fix c.2, some c.1⟩
    | none =>
      if p = (0, 0, 0) then ⟨.poisoned, v, none⟩
      else match oneSymbol p with
        | some c => ⟨.poisoned, fix c.2, some c.1⟩
        | none => ⟨.uncorrectable, v, none⟩

/-- The decoding of stored data v with faults f (R421, R422): what the code guarantees, said outright, and by the syndrome beyond it.
DESIGN CHOICE (log 8). -/
def rsDecode (v : Nat) (f : WordFault) : Decoded :=
  let fix := fun c => (v ^^^ c) % 2 ^ 64
  match f.poison, damaged f.damage with
  | false, [] => ⟨.clean, v, none⟩
  | false, [i] => ⟨.corrected, fix f.damage, some i⟩
  | true, [] => ⟨.poisoned, v, none⟩
  | true, [i] => ⟨.poisoned, fix f.damage, some i⟩
  | p, _ => decodeBySyndrome v (syndrome (f.damage ^^^ (if p then poisonError else 0)))

def decodeWord (m : Memory) (w : Nat) : Decoded := rsDecode (storedWord m w) (faultOf m w)

/-! ## Which addresses hold memory -/

def bulkBase : Nat := 0x100000000
def bulkSize : Nat := 0x3000000
def pageBase : Nat := 0xF00000000

/-- The memory that holds a local address, and that memory's base (R21, R429). -/
def memIdOf (a : Nat) : Option (Nat × Nat) :=
  if bulkBase ≤ a ∧ a < bulkBase + bulkSize then some (113, bulkBase)
  else if 0x200000000 ≤ a ∧ a < 0x204000000 ∧ a % 0x1000000 < 0x200000 then
    some (108 + (a - 0x200000000) / 0x1000000, a / 0x1000000 * 0x1000000)
  else if 0x208000000 ≤ a ∧ a < 0x208400000 then some (112, 0x208000000)
  else if 0x300000000 ≤ a ∧ a < 0x302400000 then
    let k := (a - 0x300000000) / 0x100000
    if a % 0x100000 < (if k < 32 then 0x10000 else 0x40000) then some (k, a / 0x100000 * 0x100000) else none
  else none

/-- The size of a bank of a memory in bytes (R429). -/
def bankSize (id : Nat) : Nat :=
  if id < 32 then 0x10000 else if id < 36 then 0x10000 else if 108 ≤ id ∧ id ≤ 112 then 0x40000 else 0x100000

/-- The number of banks of a memory (R429). -/
def bankCount (id : Nat) : Nat :=
  if 32 ≤ id ∧ id < 36 then 4 else if 108 ≤ id ∧ id < 112 then 8 else if id = 112 then 16 else if id = 113 then 48 else 1

/-- The power domain of core k (R580). -/
def coreDomain (k : Nat) : Nat := if k < 32 then 28 + k / 2 else 12 + k

/-- The power domain of a memory address (R580). -/
def memDomain (id base a : Nat) : Nat :=
  if id < 36 then coreDomain id else if id < 112 then id - 60 else if id = 112 then 52 else 53 + (a - base) / 0x100000 / 16

/-- Bulk SRAM bank b is mapped out (R437). -/
def bankOut (d : Device) (b : Nat) : Bool :=
  if b < 32 then rdB d pgMemerr Reg.MEMERR.BANK_OUT_LO b else rdB d pgMemerr Reg.MEMERR.BANK_OUT_HI (b - 32)

/-- The self-test marked the decoder of a memory (R437). -/
def decoderBad (d : Device) (id : Nat) : Bool := rdB d pgMemerr (Reg.MEMERR.UNUSABLE (id / 32)) (id % 32)

/-- A memory address answers: it is populated, powered and not mapped out (R22, R437, R582). -/
def ramOk (d : Device) (a : Nat) : Bool :=
  match memIdOf a with
  | none => false
  | some (id, base) =>
    d.sys.pd.getLsbD (memDomain id base a) &&
      !(decide (id = 113) && bankOut d ((a - base) / 0x100000)) &&
      !(decide (108 ≤ id) && decide (id ≤ 112) && decoderBad d id)

/-- The boot ROM answers reads (R21, R580). -/
def romOk (d : Device) (a : Nat) : Bool := decide (a < 0x40000) && d.sys.pd.getLsbD 62

/-! ## The log (R430, R431) -/

/-- A counter that saturates. -/
def bumpSat (p off : Nat) (d : Device) : Device := if rd d p off = 0xFFFFFFFF#32 then d else bump p off d

/-- A decode outcome of word `ix` of memory `id` reaches the log. DEDUCED (log 76). -/
def logOutcome (id ix : Nat) (tag : Bool) (x : Decoded) (d : Device) : Device :=
  let d := match x.symbol with
    | some sy =>
      let first := decide (rd d pgMemerr (Reg.MEMERR.CE_CNT id) = 0#32)
      let d := d |> bumpSat pgMemerr (Reg.MEMERR.CE_CNT id)
        |> wr pgMemerr (Reg.MEMERR.CE_INFO id) (wd (sy % 16 * 2 ^ 28 + b2n tag * 2 ^ 27 + ix % 2 ^ 23))
      if first then raiseAt pgMemerr 0 id (stampNow d) false d else d
    | none => d
  match x.outcome with
  | .uncorrectable =>
    let d := if rd d pgMemerr (Reg.MEMERR.UE_CNT id) = 0#32 then
        wr pgMemerr (Reg.MEMERR.UE_INFO id) (wd (b2n tag * 2 ^ 27 + ix % 2 ^ 23)) d else d
    raiseAt pgMemerr 1 id (stampNow d) false (bumpSat pgMemerr (Reg.MEMERR.UE_CNT id) d)
  | _ => d

/-- One read of word w, logged. DEDUCED (log 76). -/
def readWordLog (m : Memory) (w : Nat) (d : Device) : Decoded × Device :=
  let x := decodeWord m w
  match memIdOf (8 * w) with
  | some (id, base) => (x, logOutcome id (w - base / 8) false x d)
  | none => (x, d)

/-! ## Reads and writes -/

/-- The words that n bytes from address a touch. -/
def wordsOf (a n : Nat) : List Nat := if n = 0 then [] else (List.range ((a + n - 1) / 8 - a / 8 + 1)).map (fun i => a / 8 + i)

/-- Reads words; each is decoded and logged once. -/
def readWords (m : Memory) : List Nat → Device → List Decoded × Device
  | [], d => ([], d)
  | w :: ws, d =>
    let r := readWordLog m w d
    let rs := readWords m ws r.2
    (r.1 :: rs.1, rs.2)

/-- The bytes and poison that a read of n bytes at a delivers, and which of its words are poisoned. -/
structure ReadOut where
  bytes : List Byte
  bad : List Bool
  deriving DecidableEq, Repr

def ReadOut.poison (r : ReadOut) : Bool := r.bad.any (fun b => b)

/-- A read of n bytes of memory at local address a; none, a decode error (R22). DEDUCED (log 76). -/
def readMem (a n : Nat) (m : Memory) (d : Device) : Option (ReadOut × Device) :=
  if (wordsOf a n).all (fun w => ramOk d (8 * w)) then
    let r := readWords m (wordsOf a n) d
    let bs := r.1.flatMap (fun x => bytesLE 8 x.data)
    some ({ bytes := slice bs (a % 8) n, bad := r.1.map Decoded.bad }, r.2)
  else if (wordsOf a n).all (fun w => romOk d (8 * w)) then
    some ({ bytes := (List.range n).map (fun i => memByte m (a + i)), bad := (wordsOf a n).map (fun _ => false) }, d)
  else none

/-- The part of `bytes` at address a that falls into word w: its offset in the word, and the bytes. -/
def partOf (a : Nat) (bytes : List Byte) (w : Nat) : Nat × List Byte :=
  let lo := max a (8 * w)
  let hi := min (a + bytes.length) (8 * w + 8)
  (lo - 8 * w, slice bytes (lo - a) (hi - lo))

/-- Writes one word's part: a whole word at once, a part by reading, decoding, merging and storing (R425, R426). -/
def writePart (w : Nat) (x : Nat × List Byte) (poison : Bool) (s : Device × Memory) : Device × Memory :=
  if x.2.length = 8 then (s.1, storeWord w (numLE x.2) poison s.2)
  else
    let r := readWordLog s.2 w s.1
    let old := bytesLE 8 r.1.data
    let new := old.take x.1 ++ x.2 ++ old.drop (x.1 + x.2.length)
    (r.2, storeWord w (numLE new) (poison || r.1.bad) s.2)

/-- A write of bytes to memory at local address a; none, a decode error (R22, R425, R426). `bad` says which of the words touched
carry poison. DEDUCED (log 76). -/
def writeMem (a : Nat) (bytes : List Byte) (bad : Nat → Bool) (s : Device × Memory) : Option (Device × Memory) :=
  if (wordsOf a bytes.length).all (fun w => ramOk s.1 (8 * w)) then
    some (forEach (wordsOf a bytes.length) (fun w s => writePart w (partOf a bytes w) (bad (w - a / 8)) s) s)
  else none

/-- The whole of a range of addresses loses its contents (R582): it reads 0, clean but for its hard faults (R435). DEDUCED (log 115). -/
def clearRange (lo hi : Nat) (m : Memory) : Memory :=
  let out := fun (f : Nat × WordFault) => decide (8 * f.1 < lo) || decide (hi ≤ 8 * f.1)
  forEach ((m.faults.filter (fun f => !out f && decide (f.2.stuck ≠ 0))).map (fun f => f.1)) (fun w m => storeWord w 0 false m)
    { cells := m.cells.filter (fun c => decide (c.1 < lo) || decide (hi ≤ c.1))
      faults := m.faults.filter (fun f => out f || decide (f.2.stuck ≠ 0)) }

/-- The address ranges of the memories in a power domain (R580). -/
def domainRanges (k : Nat) : List (Nat × Nat) :=
  if 28 ≤ k ∧ k < 44 then
    [(0x300000000 + (2 * (k - 28)) * 0x100000, 0x300000000 + (2 * (k - 28) + 2) * 0x100000)]
  else if 44 ≤ k ∧ k < 48 then [(0x300000000 + (k - 12) * 0x100000, 0x300000000 + (k - 11) * 0x100000)]
  else if 48 ≤ k ∧ k < 52 then [(0x200000000 + (k - 48) * 0x1000000, 0x200000000 + (k - 47) * 0x1000000)]
  else if k = 52 then [(0x208000000, 0x208400000)]
  else if 53 ≤ k ∧ k < 56 then [(bulkBase + (k - 53) * 0x1000000, bulkBase + (k - 52) * 0x1000000)]
  else []

/-- The memories of the domains that are off hold nothing (R582). DEDUCED (log 29). DEDUCED (log 115). -/
def powerLoss (d : Device) (m : Memory) : Memory :=
  forEach (((List.range 64).filter (fun k => !d.sys.pd.getLsbD k)).flatMap domainRanges) (fun r m => clearRange r.1 r.2 m) m

/-- A poison map (R477, R502): one bit for each word, the first word in bit 7 of the first byte. -/
def poisonMap : List Bool → List Byte
  | a :: b :: c :: e :: f :: g :: h :: i :: rest =>
    wdByte [a, b, c, e, f, g, h, i] :: poisonMap rest
  | [] => []
  | l => [wdByte (l ++ List.replicate (8 - l.length) false)]
where
  wdByte (l : List Bool) : Byte := BitVec.ofNat 8 (l.foldl (fun x y => 2 * x + b2n y) 0)

/-- Bytes padded with zeros to a multiple of n. -/
def padTo (n : Nat) (bs : List Byte) : List Byte := bs ++ List.replicate ((n - bs.length % n) % n) 0#8

end Sys2Proof.Machine
end

