-- ==== Sys2Proof/Machine/TxOps.lean ====
section
/-! DEFINITION. What leaves the link and Ethernet ports: flits as they are sent (R518, R519) and the Firefly instance that each
unit passes (spec/16, R573 to R576). -/

namespace Sys2Proof.Machine

def linkOf (d : Device) (l : Nat) : Link := d.fab.link.get (fun _ => {}) l
def setLink (l : Nat) (k : Link) (d : Device) : Device :=
  { d with fab := { d.fab with link := d.fab.link.set (fun _ => {}) l k } }
def fireflyOf (d : Device) (i : Nat) : Firefly := d.fab.firefly.get (fun _ => {}) i
def setFirefly (i : Nat) (f : Firefly) (d : Device) : Device :=
  { d with fab := { d.fab with firefly := d.fab.firefly.set (fun _ => {}) i f } }

/-- The device's own ID (R25). -/
def myId (d : Device) : Nat := rdF d pgFab Reg.FAB.ID 0 12

/-- A link is up in state UP only (R516). -/
def lstate (d : Device) (l : Nat) : Nat := rdF d (pgLink l) Reg.LINK.STAT 0 3
def linkUp (d : Device) (l : Nat) : Bool := decide (lstate d l = 2) && domainOn d (pgLink l)
def upLinks (d : Device) : List Nat := (List.range 8).filter (linkUp d)

/-! ## Units -/

/-- The Firefly instance of a unit's port. -/
def unitPort : TxUnit → Nat
  | .flit l _ => l
  | .frame e _ => 8 + e

/-- The UDP payload that a frame of bytes carries, over IPv4 or IPv6 without extension headers. -/
def udpInside (fr : List Byte) : Option (List Byte) :=
  let o := if numBE (slice fr 12 2) = 0x8100 then 18 else 14
  let ty := numBE (slice fr (o - 2) 2)
  let ihl := 4 * (numBE (slice fr o 1) % 16)
  if ty = 0x0800 ∧ numBE (slice fr (o + 9) 1) = 17 then some (slice fr (o + ihl + 8) (numBE (slice fr (o + ihl + 4) 2) - 8))
  else if ty = 0x86DD ∧ numBE (slice fr (o + 6) 1) = 17 then some (slice fr (o + 48) (numBE (slice fr (o + 44) 2) - 8))
  else none

/-- Bytes 0 to 7 of a payload, a shorter one filled with zeros. -/
def firstEight (p : List Byte) : Nat := numBE (p.take 8 ++ List.replicate (8 - p.length) 0#8)

/-- The length of a frame in bytes, from its destination address to its FCS. DESIGN CHOICE (log 111). -/
def frameLen (f : Frame) : Nat :=
  let ip := fun (v6 : Bool) => if v6 then 40 else 20
  let body := match f.body with
    | .udp p _ x => ip p.v6 + 8 + x.length
    | .arpReply _ _ _ => 28
    | .neighbour _ _ _ _ => 72
    | .echo p x => ip p.v6 + 4 + x.length
    | .pfc _ _ => 46
    | .raw x => x.length - 14
  max 64 (14 + (if f.tag.isSome then 4 else 0) + (if f.macsec.isSome then 32 else 0) + body + 4)

/-- The length of a unit in bytes; a flit has 64 (R518). -/
def unitLen : TxUnit → Nat
  | .flit _ _ => 64
  | .frame _ f => frameLen f

/-- The header of a flit as one value (R518). -/
def flitHeader (f : Flit) : Nat :=
  f.typ * 2 ^ 60 + f.vc * 2 ^ 58 + f.dest * 2 ^ 46 + f.src * 2 ^ 34 + f.lseq * 2 ^ 22 + f.cret * 2 ^ 14 + b2n f.tail * 2 ^ 13 +
    f.pmap * 2 ^ 7 + f.hops

/-- CRC-32C of bytes (R518). -/
def crc32c (bs : List Byte) : Nat :=
  let bit := fun (s : Nat) => if s % 2 = 1 then s / 2 ^^^ 0x82F63B78 else s / 2
  (bs.foldl (fun s b => bit (bit (bit (bit (bit (bit (bit (bit (s ^^^ b.toNat))))))))) 0xFFFFFFFF) ^^^ 0xFFFFFFFF

/-- Bytes 0 to 59 of a flit (R518). -/
def flitBody (f : Flit) : List Byte := bytesBE 8 (flitHeader f) ++ f.payload ++ List.replicate (52 - f.payload.length) 0#8

/-- A flit with its CRC, as it goes out (R518). -/
def sealed (f : Flit) : Flit := { f with crc := crc32c (flitBody f) }

/-- The first 8 header bytes of a unit, as MATCH takes them (R573); none for a frame without UDP. -/
def unitHeader : TxUnit → Option Nat
  | .flit _ f => some (flitHeader f)
  | .frame _ f =>
    match f.body with
    | .udp _ _ p => some (firstEight p)
    | .raw x => (udpInside x).map firstEight
    | _ => none

/-! ## Firefly -/

/-- ARM, with EN = 0 acting as ARM = 0 (R578). -/
def ffArmed (d : Device) (i : Nat) : Bool :=
  rdB d (pgFirefly i) Reg.FIREFLY.CTL 0 && enabled d (pgFirefly i) && domainOn d (pgFirefly i)

/-- Armed in RUN without TEST_PERMIT (R576). -/
def ffBlocked (d : Device) (i : Nat) : Bool :=
  ffArmed d i && decide (d.sys.mode = .run) && !rdB d (pgFirefly i) Reg.FIREFLY.CTL 16

/-- The instance may act in the present mode (R576). -/
def ffActs (d : Device) (i : Nat) : Bool :=
  match d.sys.mode with
  | .run => rdB d (pgFirefly i) Reg.FIREFLY.CTL 16
  | .configure => true
  | .hold => true
  | .safe => true
  | _ => false

/-- One step of the generator (R574). -/
def lfsrStep (s : Nat) : Nat := if s % 2 = 1 then s / 2 ^^^ 0x80200003 else s / 2

/-- Unit number n is selected (R573, R574); `s` is the generator's output for it. DESIGN CHOICE (log 111). -/
def ffSelects (d : Device) (i n s : Nat) (u : TxUnit) : Bool :=
  let p := pgFirefly i
  match rdF d p Reg.FIREFLY.CTL 4 2 with
  | 1 => decide (s < (rd d p Reg.FIREFLY.RATE).toNat)
  | 2 =>
    let mask := (rd d p Reg.FIREFLY.MASK_HI).toNat * 2 ^ 32 + (rd d p Reg.FIREFLY.MASK_LO).toNat
    let m := (rd d p Reg.FIREFLY.MATCH_HI).toNat * 2 ^ 32 + (rd d p Reg.FIREFLY.MATCH_LO).toNat
    match unitHeader u with
    | some h => decide (h &&& mask = m &&& mask)
    | none => false
  | _ =>
    let skip := (rd d p Reg.FIREFLY.SKIP).toNat
    let per := (rd d p Reg.FIREFLY.PERIOD).toNat
    if per = 0 then decide (n = skip) else decide (skip ≤ n) && decide ((n - skip) % per = 0)

/-- The number of actions already made reaches REPEAT, counting `k` still under way. -/
def ffSpent (d : Device) (i k : Nat) : Bool :=
  let r := (rd d (pgFirefly i) Reg.FIREFLY.REPEAT).toNat
  decide (r ≠ 0) && decide (r ≤ (rd d (pgFirefly i) Reg.FIREFLY.INJ_CNT).toNat + k)

/-- One action is counted (R573, R579). DESIGN CHOICE (log 111). -/
def ffCount (i : Nat) (d : Device) : Device :=
  let p := pgFirefly i
  let first := decide (rd d p Reg.FIREFLY.INJ_CNT = 0#32)
  let d := raiseIf first p 0 (bump p Reg.FIREFLY.INJ_CNT d)
  if ffSpent d i 0 ∧ ¬ rdB d p Reg.FIREFLY.STAT 1 then raise p 1 (wrB p Reg.FIREFLY.STAT 1 true d) else d

/-- A unit goes out, followed at once by units held for it (R575). DESIGN CHOICE (log 111). -/
def putUnit (i : Nat) (u : TxUnit) (corrupt : Option (Nat × Nat)) (d : Device) : Device :=
  let h := (fireflyOf d i).held
  let d := emit (.unit u corrupt) (setFirefly i { fireflyOf d i with held := [] } d)
  forEach h (fun v d => ffCount i (emit (.unit v none) d)) d

/-- FLIP and where it goes (R575): 0 acts as 1, and an offset beyond the unit as its last 4 bytes. -/
def ffFlip (d : Device) (i : Nat) (u : TxUnit) : Nat × Nat :=
  let flip := (rd d (pgFirefly i) Reg.FIREFLY.FLIP).toNat
  (if flip = 0 then 1 else flip, min (rdF d (pgFirefly i) Reg.FIREFLY.FLIP_OFF 0 14) (unitLen u - 4))

/-- A unit is sent on its port (R573 to R576). -/
def sendUnit (u : TxUnit) (d : Device) : Device :=
  let i := unitPort u
  let p := pgFirefly i
  if ¬ ffArmed d i then putUnit i u none d
  else
    let n := (rd d p Reg.FIREFLY.SEEN).toNat
    let s := lfsrStep (fireflyOf d i).lfsr
    let d := setFirefly i { fireflyOf d i with lfsr := s } (bump p Reg.FIREFLY.SEEN d)
    if ffActs d i ∧ ffSelects d i n s u ∧ ¬ ffSpent d i (fireflyOf d i).held.length then
      match rdF d p Reg.FIREFLY.CTL 2 2 with
      | 1 => putUnit i u (some (ffFlip d i u)) (ffCount i d)
      | 2 =>
        let f := fireflyOf d i
        setFirefly i { f with held := f.held ++ [u], heldAt := if f.held = [] then d.time.now else f.heldAt } d
      | _ => ffCount i d
    else putUnit i u none d

/-- A held unit has had no successor for 1 µs (R575). -/
def ffHoldOver (d : Device) (i : Nat) : Bool :=
  decide ((fireflyOf d i).held ≠ []) && decide ((fireflyOf d i).heldAt + 1280 ≤ d.time.now)

/-- The held units are sent alone, uncounted (R575). -/
def ffRelease (i : Nat) (d : Device) : Device :=
  forEach (fireflyOf d i).held (fun u d => emit (.unit u none) d) (setFirefly i { fireflyOf d i with held := [] } d)

/-- ARM goes from 0 to 1 (R574, R576, R578). DESIGN CHOICE (log 111). -/
def ffArm (i : Nat) (d : Device) : Device :=
  let p := pgFirefly i
  let seed := (rd d p Reg.FIREFLY.SEED).toNat
  let d := d |> wr p Reg.FIREFLY.SEEN 0#32 |> wr p Reg.FIREFLY.INJ_CNT 0#32 |> wrB p Reg.FIREFLY.STAT 1 false
    |> setFirefly i { fireflyOf d i with lfsr := if seed = 0 then 1 else seed }
  raiseIf (ffBlocked d i) p 2 d

/-- STAT of a FIREFLY page (R578): ACTIVE and BLOCKED as they stand now. -/
def ffStat (d : Device) (i : Nat) : Word :=
  rd d (pgFirefly i) Reg.FIREFLY.STAT |||
    wd (b2n (ffArmed d i && ffActs d i && !rdB d (pgFirefly i) Reg.FIREFLY.STAT 1) + 4 * b2n (ffBlocked d i))

/-! ## Flits that need neither credit nor acknowledgement (R519, R525) -/

/-- A link-local flit of TYPE 4 (TRIP) or 5 (TSYNC) on VC1. -/
def sendLocal (l typ : Nat) (payload : List Byte) (d : Device) : Device :=
  sendUnit (.flit l (sealed { typ := typ, vc := 1, dest := 0xFFF, src := myId d, payload := payload })) d

/-- The payload of a TRIP flit (R537). -/
def tripPayload (zones origin stamp : Nat) : List Byte :=
  bytesBE 1 zones ++ [0#8] ++ bytesBE 2 origin ++ List.replicate 4 0#8 ++ bytesBE 6 stamp

end Sys2Proof.Machine
end

