-- ==== Sys2Proof/Machine/LegOps.lean ====
section
/-! DEFINITION. Legs, carriers, trip zones and the safe pattern (spec/03): the operations that the commands of this family and of
others share. Instants are fines (R107 to R112); a leg is 4g + j in group g. -/

namespace Sys2Proof.Machine

/-! ## Access to the parts -/

def carrierOf (d : Device) (g : Nat) : Carrier := d.legs.carrier.get (fun _ => {}) g
def setCarrier (g : Nat) (c : Carrier) (d : Device) : Device :=
  { d with legs := { d.legs with carrier := d.legs.carrier.set (fun _ => {}) g c } }
def legOf (d : Device) (n : Nat) : Leg := d.legs.leg.get (fun _ => {}) n
def setLeg (n : Nat) (l : Leg) (d : Device) : Device :=
  { d with legs := { d.legs with leg := d.legs.leg.set (fun _ => {}) n l } }

/-- The present tick, in fines. -/
def nowF (d : Device) : Nat := d.time.now * 64

/-- A register of leg n, given by the offset function of its block. -/
def legRd (d : Device) (n : Nat) (off : Nat → Nat) : Word := rd d (pgLg (n / 4)) (off (n % 4))

/-- A leg's configured fields: mode (OFF while its page has EN = 0, R129), followed carrier (R89), load point (R91). -/
def legMode (d : Device) (n : Nat) : Nat := if enabled d (pgLg (n / 4)) then fld (legRd d n Reg.LG.CFG) 0 2 else 0
def legCarrier (d : Device) (n : Nat) : Nat := fld (legRd d n Reg.LG.CFG) 8 5
def legLoadSel (d : Device) (n : Nat) : Nat := fld (legRd d n Reg.LG.CFG) 16 3
def legFrozen (d : Device) (n : Nat) : Bool := rdB d (pgLg (n / 4)) Reg.LG.SHFRZ (n % 4)

/-- The legs that follow carrier g. -/
def followers (d : Device) (g : Nat) : List Nat := (List.range 128).filter (fun n => legCarrier d n = g)

/-- The leg's group places edges with the fine part taken as 0 (R56). -/
def coarse (d : Device) (n : Nat) : Bool := d.time.dlCoarse.getLsbD (n / 4)

/-- Dead times and minimum pulse in fines (R108, R110). -/
def legDtr (d : Device) (n : Nat) : Nat := fld (legRd d n Reg.LG.DTR) 0 18
def legDtf (d : Device) (n : Nat) : Nat := fld (legRd d n Reg.LG.DTF) 0 18
def legMinp (d : Device) (n : Nat) : Nat := fld (legRd d n Reg.LG.MINP) 0 20

/-- Interlocks in fines; a value above 32 ticks acts as 32 (R119, R123). -/
def legIlk (d : Device) (n : Nat) : Nat := min 32 (fld (legRd d n Reg.LG.ILK) 0 6) * 64
def safeIlk (d : Device) : Nat := min 32 (rdF d pgSafepat Reg.SAFEPAT.ILK 0 6) * 64

/-! ## Carriers -/

/-- PER with values below 2 acting as 2 (R84), and PHASE limited by it (R86). -/
def perEff (d : Device) (g : Nat) : Nat := max 2 (rd d (pgLg g) Reg.LG.PER).toNat
def phaseEff (d : Device) (g : Nat) : Nat := min (rd d (pgLg g) Reg.LG.PHASE).toNat (perEff d g)
def upDown (d : Device) (g : Nat) : Bool := rdB d (pgLg g) Reg.LG.CTL 1

/-- The carrier counts: RUN and EN (R83), with its domain on. -/
def running (d : Device) (g : Nat) : Bool :=
  rdB d (pgLg g) Reg.LG.CTL 0 && enabled d (pgLg g) && domainOn d (pgLg g)

/-- Loads PHASE with the direction of R86. -/
def loadPhase (g : Nat) (d : Device) : Device :=
  let p := phaseEff d g
  let dn := upDown d g && (if p = 0 then false else if p = perEff d g then true else rdB d (pgLg g) Reg.LG.CTL 3)
  setCarrier g { count := p, down := dn } d

/-- The count and direction one tick later (R83, R85, R95). -/
def nextCount (ud : Bool) (per : Nat) (c : Carrier) : Nat × Bool :=
  if ud then
    if per < c.count ∧ ¬ c.down then (per, true)
    else if c.down then (c.count - 1, decide (1 < c.count))
    else (c.count + 1, decide (per ≤ c.count + 1))
  else if c.wrap ∨ per ≤ c.count then (0, false) else (c.count + 1, false)

/-- One tick of a running carrier; the marks of the last tick's events go. DEDUCED (log 37). -/
def tickCarrier (d : Device) (g : Nat) : Carrier :=
  let n := nextCount (upDown d g) (perEff d g) (carrierOf d g)
  let passed := upDown d g && (carrierOf d g).down && decide (n.1 = perEff d g)
  { count := n.1, down := n.2, passed := passed }

/-! ## One gate output -/

/-- Deasserts at once, without regard to MINP (R111). -/
def sideOff (t : Nat) (s : Side) : Side :=
  { s with on := false, offAt := if s.on then t else s.offAt, pend := none, minp := none, ilk := none }

/-- Deasserts for a change of state at t: delayed until MINP has elapsed since the assertion (R110). Answers the side, the
instant of the actual deassertion, and whether a new delay began. -/
def sideRelease (t minp : Nat) (s : Side) : Side × Nat × Bool :=
  if s.on then
    if t < s.onAt + minp then ({ s with minp := some (s.onAt + minp), pend := none }, s.onAt + minp, s.minp.isNone)
    else ({ s with on := false, offAt := t, minp := none, pend := none }, t, false)
  else ({ s with pend := none }, t, false)

/-- Asserts at `due`, at once if it has come (R108); an output that is still on stays on. -/
def sideAssert (t due : Nat) (s : Side) : Side :=
  if s.on then { s with minp := none, pend := none, ilk := none }
  else if due ≤ t then { s with on := true, onAt := t, pend := none, minp := none, ilk := none }
  else { s with pend := some due, ilk := none }

/-- Asserts after an interlock (R119, R123). -/
def sideInterlock (t due : Nat) (s : Side) : Side :=
  if s.on then { s with minp := none, pend := none, ilk := none }
  else if due ≤ t then { s with on := true, onAt := t, pend := none, minp := none, ilk := none }
  else { s with pend := none, minp := none, ilk := some due }

/-- Freezes an output at its level (R117 HOLD, and between a clear and resumption R121). -/
def sideFreeze (s : Side) : Side := { s with pend := none, minp := none, ilk := none }

/-! ## One leg's outputs -/

/-- Drives the outputs to a state at instant t. Dead time counts from the partner's actual deassertion, or from `t` where the
partner was already off; `sinceOff` makes it count from the partner's last deassertion instead (R121). DEDUCED (log 35). -/
def driveLeg (t dtr dtf minp : Nat) (sinceOff : Bool) (st : LegState) (l : Leg) : Leg × Bool :=
  match st with
  | .off =>
    let h := sideRelease t minp l.high
    let w := sideRelease t minp l.low
    ({ l with high := h.1, low := w.1 }, h.2.2 || w.2.2)
  | .a =>
    let w := sideRelease t minp l.low
    let base := if sinceOff ∧ ¬ l.low.on then l.low.offAt else w.2.1
    ({ l with low := w.1, high := sideAssert t (base + dtr) l.high }, w.2.2)
  | .b =>
    let h := sideRelease t minp l.high
    let base := if sinceOff ∧ ¬ l.high.on then l.high.offAt else h.2.1
    ({ l with high := h.1, low := sideAssert t (base + dtf) l.low }, h.2.2)

/-- Both outputs off at once. -/
def legOff (t : Nat) (l : Leg) : Leg := { l with high := sideOff t l.high, low := sideOff t l.low }

/-- A pattern that overrides the state: 0 BOTH_OFF, 1 HIGH_ON, 2 LOW_ON, others BOTH_OFF. -/
def forceLeg (t ilk pat : Nat) (l : Leg) : Leg :=
  match pat with
  | 1 =>
    let w := sideOff t l.low
    { l with low := w, high := sideInterlock t (w.offAt + ilk) l.high }
  | 2 =>
    let h := sideOff t l.high
    { l with high := h, low := sideInterlock t (h.offAt + ilk) l.low }
  | _ => legOff t l

/-- The instant at which an edge of leg n is made: its programmed tick and fine, or, while the leg's group has no fine placement, its
tick (R56, R89). -/
def edgeAt (d : Device) (n t : Nat) : Nat := if coarse d n then t / 64 * 64 else t

/-- MINP_EXT: the leg's counter, its MINP_SEEN bit and the cause (R110, R132). -/
def minpExt (n : Nat) (d : Device) : Device :=
  d |> bump (pgLg (n / 4)) (Reg.LG.MINP_CNT (n % 4))
    |> wrB (pgLg (n / 4)) (Reg.LG.LEGSTAT (n % 4)) 6 true
    |> raise (pgLg (n / 4)) (4 + n % 4)

/-- The leg's state becomes `st` at instant t (R104 to R110); the outputs follow if the leg's state decides them. With `hold`, a
further action at the same instant is to come, and the outputs wait for it (R104). DEDUCED (log 35). -/
def setLegState (n t : Nat) (hold : Bool) (st : LegState) (d : Device) : Device :=
  let l := { legOf d n with state := st }
  if l.stage = .follow ∧ ¬ hold ∧ l.driven ≠ st then
    let r := driveLeg t (legDtr d n) (legDtf d n) (legMinp d n) false st { l with driven := st }
    doIf r.2 (minpExt n) (setLeg n r.1 d)
  else setLeg n l d

/-- MODE becomes OFF, or EN 0, or BAND with the engine in OFF: the state is OFF and both outputs go off at once (R105, R111, R129).
While a trip action or the safe pattern applies, that decides the outputs instead (R122). -/
def forceLegOff (n t : Nat) (d : Device) : Device :=
  let l := { legOf d n with state := .off, driven := .off }
  match l.stage with
  | .follow => setLeg n (legOff t l) d
  | .resume => setLeg n (legOff t { l with stage := .follow }) d
  | _ => setLeg n l d

/-- Resumption of a leg whose outputs were forced (R121, R126): they take the state in force. DEDUCED (log 42). -/
def resumeLeg (n t : Nat) (d : Device) : Device :=
  let l := legOf d n
  if l.stage = .resume then
    let r := driveLeg t (legDtr d n) (legDtf d n) (legMinp d n) true l.state { l with stage := .follow, driven := l.state }
    doIf r.2 (minpExt n) (setLeg n r.1 d)
  else d

/-! ## What overrides a leg -/

/-- The safe pattern drives the balls because of the mode, Dusk or SAFE_N (R122). -/
def safeByMode (d : Device) : Bool :=
  match d.sys.mode with
  | .run => d.sys.transit.isSome
  | .safe => false
  | _ => true
def safeByDusk (d : Device) : Bool := d.sys.dusk || decide (d.sys.mode = .safe)
def safeApplied (d : Device) : Bool := safeByMode d || safeByDusk d || d.legs.safeNLow

/-- The pattern of leg n in SAFEPAT.PAT. -/
def safePat (d : Device) (n : Nat) : Nat := rdF d pgSafepat (Reg.SAFEPAT.PAT (n / 16)) (2 * (n % 16)) 2

/-- The latched zones that act on leg n, and the actions they give (R117). -/
def zoneLatched (d : Device) (z : Nat) : Bool := rdB d pgLegsys Reg.LEGSYS.TZ_LATCH z
def zoneAction (d : Device) (n z : Nat) : Nat := fld (legRd d n Reg.LG.TZACT) (4 * z) 3
def legZones (d : Device) (n : Nat) : List Nat :=
  (List.range 8).filter (fun z => zoneLatched d z && decide (zoneAction d n z ≠ 0))

/-- The combined action (R118), with 5 to 7 acting as BOTH_OFF; 0 where no latched zone names the leg. -/
def combined (acts : List Nat) : Nat :=
  if acts = [] then 0
  else if acts.any (fun a => a = 1 ∨ 5 ≤ a) then 1
  else if acts.contains 2 ∧ acts.contains 3 then 1
  else if acts.contains 3 then 3
  else if acts.contains 2 then 2
  else 4

/-- The adaptation of a band engine restarts (R254). -/
def restartAdapt (n : Nat) (d : Device) : Device :=
  let b := d.band.get (fun _ => {}) n
  { d with band := d.band.set (fun _ => {}) n { b with opened := none, entries := 0 } }

/-- Brings a leg's stage in line with what overrides it now, at instant t. A leg set free resumes at once in DIRECT or OFF
mode, a PWM or BAND leg at its next resumption (R121, R126). -/
def stageLeg (t n : Nat) (d : Device) : Device :=
  let l := legOf d n
  let act := combined ((legZones d n).map (zoneAction d n))
  let d := doIf (decide (act ≠ 0) && !l.tripped) (raise (pgLg (n / 4)) (12 + n % 4)) d
  let l := { l with tripped := decide (act ≠ 0) }
  if safeApplied d ∨ ¬ domainOn d (pgLg (n / 4)) then
    setLeg n (forceLeg t (safeIlk d) (safePat d n) { l with stage := .safe }) d
  else if act = 4 then
    setLeg n { l with stage := .trip, high := sideFreeze l.high, low := sideFreeze l.low } d
  else if act ≠ 0 then
    setLeg n (forceLeg t (legIlk d n) (if act = 2 then 1 else if act = 3 then 2 else 0) { l with stage := .trip }) d
  else match l.stage with
    | .follow => setLeg n l d
    | .resume => setLeg n l d
    | _ =>
      let d := setLeg n { l with stage := .resume, high := sideFreeze l.high, low := sideFreeze l.low } d
      if legMode d n = 0 ∨ legMode d n = 3 then resumeLeg n t d else d

/-- The same; where an override begins, the leg's band engine restarts its adaptation (R254). -/
def refreshLeg (t n : Nat) (d : Device) : Device :=
  let was := (legOf d n).stage
  let d := stageLeg t n d
  let now := (legOf d n).stage
  doIf (decide (was ≠ now) && (decide (now = .trip) || decide (now = .safe))) (restartAdapt n) d

/-- All legs are brought in line. -/
def refreshLegs (d : Device) : Device := forEach (List.range 128) (fun n d => refreshLeg (nowF d) n d) d

/-! ## Dusk -/

/-- Modes from which Dusk starts (R586). -/
def duskMode (m : Mode) : Bool :=
  match m with
  | .configure => true
  | .run => true
  | .hold => true
  | _ => false

/-- Records a Dusk's first cause and stamp (R587). -/
def recordDusk (c : DuskCause) (d : Device) : Device :=
  d |> wr pgMode Reg.MODE.DUSK_CAUSE (wd (2 ^ 31 + c.kind * 2 ^ 24 + c.index))
    |> wr pgMode Reg.MODE.DUSK_STAMP_LO (wd c.stamp)
    |> wr pgMode Reg.MODE.DUSK_STAMP_HI (wd (c.stamp / 2 ^ 32))

/-- A cause of Dusk (R586, R587, R589): starts Dusk and abandons a transition in CONFIGURE, RUN or HOLD; sets MORE while a Dusk
or its SAFE lasts; waits where SAFE is being left; starts nothing elsewhere. -/
def duskCause (kind index : Nat) (d : Device) : Device :=
  let c : DuskCause := { kind := kind, index := index, stamp := stampNow d }
  if d.sys.dusk then wrB pgMode Reg.MODE.DUSK_CAUSE 30 true d
  else if d.sys.mode = .safe then
    if d.sys.transit.isSome then
      (if d.sys.late.isSome then d else { d with sys := { d.sys with late := some c } })
    else wrB pgMode Reg.MODE.DUSK_CAUSE 30 true d
  else if duskMode d.sys.mode then
    let d := if d.sys.transit.isSome ∨ d.sys.sleepReq.isSome then
        { d with sys := { d.sys with transit := none, sleepReq := none } }
          |> wr pgMode Reg.MODE.REQ d.sys.reqWas |> recordErr pgMode 0x84 d.sys.asker Reg.MODE.REQ |> raise pgMode 2
      else d
    refreshLegs (recordDusk c { d with sys := { d.sys with dusk := true } })
  else d

/-! ## Trip zones -/

/-- The latched zones that send trip flits, as a mask (R537). -/
def fabOutMask (d : Device) : Nat :=
  ((List.range 8).filter (fun z => zoneLatched d z && rdB d pgLegsys (Reg.LEGSYS.TZ_CFG z) 1)).foldl (fun a z => a + 2 ^ z) 0

/-- ORIGIN and stamp of a TRIP flit: those of the zone that latched first, of the latched zones with FAB_OUT (R537). -/
def tripOrigin (d : Device) : Option (Nat × Nat) :=
  (d.legs.trips.find? (fun e => (fabOutMask d).testBit e.1)).map (fun e => e.2)

/-- Sends the TRIP flit on the given links (R537). -/
def tripOn (ls : List Nat) (d : Device) : Device :=
  match tripOrigin d with
  | some o => forEach ls (fun l d' => sendLocal l 4 (tripPayload (fabOutMask d) o.1 o.2) d') d
  | none => d

/-- Sends the TRIP flit on every link that is up; the next repeat follows 1 µs later (R537). -/
def sendTrip (d : Device) : Device :=
  if fabOutMask d = 0 then d else tripOn (upLinks d) { d with legs := { d.legs with tripSent := d.time.now } }

/-- A source of zone z asserts (R113, R116): unless it is latched already, the zone latches, records the source, raises TZz,
sends its trip flit, applies the legs' actions and starts Dusk, each as configured. `origin` is the origin and stamp that
a trip flit brought (R537). -/
def tripZone (z kind index : Nat) (origin : Option (Nat × Nat)) (d : Device) : Device :=
  if zoneLatched d z then d
  else
    let own := (rdF d pgFab Reg.FAB.ID 0 12, stampNow d)
    let d := d |> wrB pgLegsys Reg.LEGSYS.TZ_LATCH z true
      |> wr pgLegsys (Reg.LEGSYS.TZ_CAUSE z) (wd (kind * 2 ^ 28 + index % 2 ^ 12))
      |> raise pgLegsys z
    let fabOut := rdB d pgLegsys (Reg.LEGSYS.TZ_CFG z) 1
    let d := { d with legs := { d.legs with
      trips := d.legs.trips.filter (fun e => decide (e.1 ≠ z)) ++ [(z, origin.getD own)] } }
    let d := doIf fabOut sendTrip d
    let d := refreshLegs d
    doIf (rdB d pgLegsys (Reg.LEGSYS.TZ_CFG z) 0) (duskCause 1 z) d

/-- A source asserts for every zone of a mask. -/
def tripZones (mask kind index : Nat) (d : Device) : Device :=
  forEach ((List.range 8).filter (fun z => mask.testBit z)) (fun z => tripZone z kind index none) d

/-- A TRIP pin is at its asserted level (R114). -/
def tripAsserted (d : Device) (p : Nat) : Bool := d.legs.trip.getLsbD p != rdB d pgLegsys Reg.LEGSYS.TRIP_POL p

/-- A TRIP pin's level changes. -/
def tripLevel (p : Nat) (level : Bool) (d : Device) : Device :=
  if d.legs.trip.getLsbD p = level then d
  else
    let m : BitVec 32 := BitVec.ofNat 32 (2 ^ p)
    { d with legs := { d.legs with
        trip := if level then d.legs.trip ||| m else d.legs.trip &&& ~~~ m, tripAt := d.legs.tripAt.insert p d.time.now } }

/-- A level that stands since tick `since` has held for FLT consecutive ticks; 0 acts as 1 (R114, R139). -/
def heldFor (d : Device) (since flt : Nat) : Bool := decide (since + max 1 flt ≤ d.time.now + 1)

/-- TRIP pin p has held its asserted level long enough and does not count as a source yet (R114). -/
def tripPinDue (d : Device) (p : Nat) : Bool :=
  tripAsserted d p && !rdB d pgLegsys Reg.LEGSYS.TRIP_LVL p &&
    heldFor d (d.legs.tripAt.get (fun _ => 0) p) (rdF d pgLegsys Reg.LEGSYS.TRIP_FLT 0 8)

/-- The TRIP pins that feed a zone and are asserted (R113, R114). -/
def zonePins (d : Device) (z : Nat) : Word :=
  rd d pgLegsys (Reg.LEGSYS.TZ_PIN z) &&& rd d pgLegsys Reg.LEGSYS.TRIP_LVL

/-- A comparator of channel c asserts as a source of zone z (R215). -/
def cmpFeeds (d : Device) (z c : Nat) : Bool :=
  let f := d.filt.get (fun _ => {}) c
  let cfg := rd d (pgFf (c / 16)) (Reg.FF.CMP_CFG (c % 16))
  (f.hi && bit cfg (16 + z)) || (f.lo && bit cfg (24 + z))

/-- Some source of zone z asserts now (R113, R115). Software writes, trip flits and supervisors assert for one tick only. DEDUCED (log 17). -/
def zoneSourced (d : Device) (z : Nat) : Bool :=
  decide (zonePins d z ≠ 0#32) || (List.range 160).any (cmpFeeds d z) ||
    (!d.time.refinOk && rdB d pgTb Reg.TB.REF_CTL (8 + z)) || d.legs.flash.getLsbD z

/-- A zone clears if no source of it asserts (R115). -/
def clearZone (z : Nat) (d : Device) : Device :=
  if zoneLatched d z ∧ ¬ zoneSourced d z then
    let d := wrB pgLegsys Reg.LEGSYS.TZ_LATCH z false d
    { d with legs := { d.legs with trips := d.legs.trips.filter (fun e => decide (e.1 ≠ z)) } }
  else d

/-- The source of a zone that asserts by level, as TZ_CAUSE records it. Where one write connects several at once, the lowest pin comes
first, then the lowest channel's comparators, HI before LO, then loss of REFIN. DESIGN CHOICE (log 152). -/
def zoneOrigin (d : Device) (z : Nat) : Nat × Nat :=
  match bitsOf (zonePins d z) 32, (List.range 160).find? (cmpFeeds d z) with
  | p :: _, _ => (1, p)
  | [], some c =>
    let f := d.filt.get (fun _ => {}) c
    (2, if f.hi ∧ rdB d (pgFf (c / 16)) (Reg.FF.CMP_CFG (c % 16)) (16 + z) then 2 * c else 2 * c + 1)
  | [], none => (7, 0)

/-- Every zone that a source asserts by level now, and that is not latched, latches: after a change of what feeds it (R113). DEDUCED (log 39). -/
def latchSourced (d : Device) : Device :=
  forEach ((List.range 8).filter (zoneSourced d)) (fun z d => tripZone z (zoneOrigin d z).1 (zoneOrigin d z).2 none d) d

/-- A source that asserts for one tick: the zones latch, and stay sourced until the tick ends. -/
def flashZones (mask kind index : Nat) (d : Device) : Device :=
  let d := tripZones mask kind index d
  { d with legs := { d.legs with flash := d.legs.flash ||| BitVec.ofNat 8 mask } }

end Sys2Proof.Machine
end

