-- ==== Sys2Proof/Machine/BandOps.lean ====
section
/-! DEFINITION. Band engines (spec/07, R240 to R256 and R275 to R278): the measurement and the error, the hysteretic law, dwell,
adaptation, the two detectors and the table phase. -/

namespace Sys2Proof.Machine

def bandOf (d : Device) (n : Nat) : Band := d.band.get (fun _ => {}) n
def setBand (n : Nat) (b : Band) (d : Device) : Device := { d with band := d.band.set (fun _ => {}) n b }

def beRd (d : Device) (n off : Nat) : Word := rd d (pgBe n) off
def beOn (d : Device) (n : Nat) : Bool := enabled d (pgBe n) && domainOn d (pgBe n)
def beChan (d : Device) (n : Nat) : Nat := rdF d (pgBe n) Reg.BE.CFG 0 8
def beRefSrc (d : Device) (n : Nat) : Nat := rdF d (pgBe n) Reg.BE.CFG 8 2

/-- The registers that an evaluation begins with (R243). -/
def beTaken : List Nat :=
  [Reg.BE.CFG, Reg.BE.MSCALE, Reg.BE.MOFFS, Reg.BE.REF, Reg.BE.BAND_HI, Reg.BE.BAND_LO, Reg.BE.DWELL, Reg.BE.ADAPT_CFG,
   Reg.BE.BAND_MIN, Reg.BE.BAND_MAX, Reg.BE.TBL_BASE, Reg.BE.TBL_AMP, Reg.BE.TBL_OFFS, Reg.BE.SUP_CFG, Reg.BE.SUP_WIN]

/-- A register, and a field of it, as an evaluation began with it. -/
def bandReg (i : BandIn) (off : Nat) : Word :=
  match i.regs.find? (fun r => r.1 = off) with
  | some r => r.2
  | none => 0#32
def bandRegF (i : BandIn) (off lo n : Nat) : Nat := fld (bandReg i off) lo n

/-- Table length and the phase's modulus (R244). -/
def tblLen (d : Device) (n : Nat) : Nat := max 16 (min 4096 (rdF d (pgBe n) Reg.BE.TBL_LEN 0 13))

/-- A product of a frac32 and a Q4.28 gain, rounded half even, in frac32 units (R241, R259, R264). -/
def gainMul (y gain : Word) : Int := roundEven (sw y * sw gain) (2 ^ 28)

/-- The measurement of R241. -/
def bandMeas (i : BandIn) : Int := satI 32 (gainMul i.out.y (bandReg i Reg.BE.MSCALE) + sw (bandReg i Reg.BE.MOFFS))

/-- The reference that a table entry gives (R244). -/
def tblRef (i : BandIn) (entry : Word) : Word :=
  wdI (satI 32 (roundEven (sw entry * sw (bandReg i Reg.BE.TBL_AMP)) (2 ^ 31) + sw (bandReg i Reg.BE.TBL_OFFS)))

/-- The state an error requests (R247). -/
def bandRequest (hi lo : Nat) (e : Int) (st : LegState) : LegState :=
  if (hi : Int) < e then .a else if e < -(lo : Int) then .b else st

/-- Dwell of a state, of the fields of DWELL (R248). -/
def dwellOf (w : Word) (st : LegState) : Nat :=
  match st with
  | .a => fld w 0 16
  | .b => fld w 16 16
  | .off => 0

/-- The leg of engine n takes a state if it is in BAND mode (R240, R251). DEDUCED (log 41). -/
def bandToLeg (n : Nat) (st : LegState) (d : Device) : Device :=
  if legMode d n = 2 then setLegState n (nowF d) false st d else d

/-- The state of engine n changes: it becomes active in the leg at the second tick boundary (R249, R251), from where its dwell counts
(R248). -/
def bandMove (n : Nat) (st : LegState) (d : Device) : Device :=
  let b := bandOf d n
  setBand n { b with state := st, since := d.time.now + 2, due := b.due ++ [(d.time.now + 2, st)] } d

/-- The engine falls to OFF (R249). A dwell interval that ends so without a refusal was not chattering (R276). DEDUCED (log 41).
DEDUCED (log 56). -/
def bandFall (n : Nat) (d : Device) : Device :=
  let b := bandOf d n
  let d := setBand n
    { b with wait := none, pre := none, chatCnt := if b.chatNow ∨ b.state = .off then b.chatCnt else 0, chatNow := false } d
  if b.state = .off then d else bandMove n .off d

/-- The states that become active at the present tick do so, each in its turn (R249, R251). -/
def bandTick (d : Device) : Device :=
  forEach ((List.range 128).filter (fun n => (bandOf d n).due.any (fun e => decide (e.1 ≤ d.time.now)))) (fun n d =>
    let b := bandOf d n
    forEach (b.due.filter (fun e => decide (e.1 ≤ d.time.now))) (fun e => bandToLeg n e.2)
      (setBand n { b with due := b.due.filter (fun e => decide (d.time.now < e.1)) } d)) d

/-- The engine's own state returns to its reset value; what has yet to become active in the leg still does (R279). -/
def bandReset (n : Nat) (d : Device) : Device :=
  let d := bandFall n d
  setBand n { due := (bandOf d n).due } d

/-- STAT.ADAPT_LIM (R253). DEDUCED (log 57). -/
def adaptLim (d : Device) (n : Nat) : Bool :=
  let at' (off : Nat) : Bool :=
    let v := rdF d (pgBe n) off 0 31
    decide (v = rdF d (pgBe n) Reg.BE.BAND_MIN 0 31) || decide (v = rdF d (pgBe n) Reg.BE.BAND_MAX 0 31)
  at' Reg.BE.BAND_HI || at' Reg.BE.BAND_LO

/-- The ADAPT_LIM cause when its condition begins (R253). DEDUCED (log 57). -/
def checkLim (n : Nat) (d : Device) : Device :=
  let b := bandOf d n
  let l := adaptLim d n
  raiseIf (l && !b.lim) (pgBe n) 5 (setBand n { b with lim := l } d)

/-- A band value times num / den held between one half and two, within the adaptation limits (R253 steps 2 and 3). -/
def rescale (lo hi v num den : Nat) : Nat :=
  let f : Nat × Nat := if den = 0 ∨ 2 * den < num then (2, 1) else if 2 * num < den then (1, 2) else (num, den)
  let x := (roundEven ((v * f.1 : Nat) : Int) f.2).toNat
  min hi (max (min lo hi) x)

/-- A trip of a detector (R278): its STAT bit, its cause, and one tick as a source of the zones of SUP_TZ. -/
def supTrip (n : Nat) (i : BandIn) (statBit cause : Nat) (d : Device) : Device :=
  d |> wrB (pgBe n) Reg.BE.STAT statBit true |> raise (pgBe n) cause |> flashZones (bandRegF i Reg.BE.SUP_CFG 16 8) 3 n

/-- The oscillation detector takes a change of state (R275). -/
def oscChange (n : Nat) (i : BandIn) (d : Device) : Device :=
  let b := bandOf d n
  let rec' := (d.time.now :: b.osc).take 64
  let lim := bandRegF i Reg.BE.SUP_CFG 0 6
  let trips := decide (lim ≠ 0) && (match rec'[lim]? with
    | some t => decide (d.time.now < t + bandRegF i Reg.BE.SUP_WIN 0 24)
    | none => false)
  if trips then supTrip n i 7 3 (setBand n { b with osc := [] } d) else setBand n { b with osc := rec' } d

/-- A change was refused for dwell: the present dwell interval is chattering (R276). DEDUCED (log 56). -/
def chatRefused (n : Nat) (i : BandIn) (d : Device) : Device :=
  let b := bandOf d n
  if b.chatNow then d
  else
    let lim := bandRegF i Reg.BE.SUP_CFG 8 6
    if lim ≠ 0 ∧ lim ≤ b.chatCnt + 1 then supTrip n i 8 4 (setBand n { b with chatNow := true, chatCnt := 0 } d)
    else setBand n { b with chatNow := true, chatCnt := b.chatCnt + 1 } d

/-- An entry into state A counts towards adaptation (R253, R254). DEDUCED (log 57). -/
def adaptEntry (n : Nat) (i : BandIn) (d : Device) : Device :=
  let b := bandOf d n
  let st := (legOf d n).stage
  if ¬ bit (bandReg i Reg.BE.CFG) 12 ∨ legMode d n ≠ 2 ∨ st = .trip ∨ st = .safe then d
  else match b.opened with
    | none => setBand n { b with opened := some d.time.now, entries := 0 } d
    | some t0 =>
      let cnt := max 1 (bandRegF i Reg.BE.ADAPT_CFG 0 8)
      if b.entries + 1 < cnt then setBand n { b with entries := b.entries + 1 } d
      else
        let t := d.time.now - t0
        let num := cnt * bandRegF i Reg.BE.ADAPT_CFG 8 24
        let lo := bandRegF i Reg.BE.BAND_MIN 0 31
        let hi := bandRegF i Reg.BE.BAND_MAX 0 31
        d |> setBand n { b with opened := some d.time.now, entries := 0 }
          |> wr (pgBe n) Reg.BE.PER_MEAS (wd (t / cnt % 2 ^ 24))
          |> wr (pgBe n) Reg.BE.BAND_HI (wd (rescale lo hi (bandRegF i Reg.BE.BAND_HI 0 31) num t))
          |> wr (pgBe n) Reg.BE.BAND_LO (wd (rescale lo hi (bandRegF i Reg.BE.BAND_LO 0 31) num t))
          |> checkLim n

/-- A decided change of state (R251): counted, recorded, on its way to the leg. -/
def bandChange (n : Nat) (i : BandIn) (st : LegState) (d : Device) : Device :=
  let b := bandOf d n
  let d := setBand n { b with chatCnt := if b.chatNow ∨ b.state = .off then b.chatCnt else 0, chatNow := false } d
  let d := d |> bandMove n st |> bump (pgBe n) Reg.BE.SW_CNT |> oscChange n i
  if st = .a then adaptEntry n i d else d

/-- The law of R247 to R249 on a valid output and a reference. DEDUCED (log 56). -/
def bandDecide (n : Nat) (i : BandIn) (ref : Word) (d : Device) : Device :=
  let e := satI 32 (sw ref - bandMeas i)
  let b := bandOf d n
  let want := bandRequest (bandRegF i Reg.BE.BAND_HI 0 31) (bandRegF i Reg.BE.BAND_LO 0 31) e b.state
  let d := d |> wr (pgBe n) Reg.BE.ERR (wdI e) |> setBand n { b with refUsed := ref }
  if want = b.state then d
  else if b.state = .off ∨ b.since + dwellOf (bandReg i Reg.BE.DWELL) b.state ≤ i.out.tick then bandChange n i want d
  else chatRefused n i d

/-- An output carrying INVALID (R250). DEDUCED (log 42). -/
def bandInvalid (n : Nat) (d : Device) : Device :=
  d |> bump (pgBe n) Reg.BE.INV_CNT |> wrB (pgBe n) Reg.BE.STAT 5 true |> raise (pgBe n) 1

/-- A table entry that is poisoned or cannot be fetched (R245). DEDUCED (log 42). -/
def bandPoison (n : Nat) (d : Device) : Device := d |> wrB (pgBe n) Reg.BE.STAT 6 true |> raise (pgBe n) 2

/-- The byte offset in bulk SRAM of a table's entry at an index; none past the end of bulk SRAM (R244). -/
def tblOffset (base : Word) (ix : Nat) : Option Nat :=
  let off := fld base 2 24 * 4 + 4 * ix
  if off < 48 * 2 ^ 20 then some off else none

/-- The reference of an evaluation is a table's (R242). -/
def byTable (i : BandIn) : Bool := decide (bandRegF i Reg.BE.CFG 8 2 = 2)

/-- One evaluation (R247): `entry` is what the table fetch gave, where the reference is a table's; none for an entry that is not
used. -/
def bandEvaluate (n : Nat) (i : BandIn) (entry : Option Word) (d : Device) : Device :=
  let d := setBand n { bandOf d n with wait := none } d
  let d := if i.out.inv then bandInvalid n d
    else if byTable i then
      match entry with
      | some w => bandDecide n i (tblRef i w) d
      | none => bandPoison n d
    else bandDecide n i (bandReg i Reg.BE.REF) d
  if legMode d n = 2 then resumeLeg n (nowF d) d else d

/-- A fast-path output reaches the engine, and an evaluation begins (R240, R243, R252): one still in progress is abandoned. The table
entry fetched for this output goes with it (R246). From Dusk until SAFE is left, engines evaluate nothing and count no miss (R588).
DEDUCED (log 42). DESIGN CHOICE (log 142). -/
def bandOutput (n : Nat) (o : FastOut) (d : Device) : Device :=
  if safeByDusk d then setBand n { bandOf d n with pre := none } d else
  let b := bandOf d n
  let d := if b.wait.isSome then
      d |> wrB (pgBe n) Reg.BE.STAT 4 true |> bump (pgBe n) Reg.BE.MISS_CNT |> raise (pgBe n) 0 else d
  let entry := match b.pre, tblOffset (beRd d n Reg.BE.TBL_BASE) b.ix with
    | some e, some off => if e.1 = off then some e.2 else none
    | _, _ => none
  setBand n { bandOf d n with
    pre := none, wait := some { out := o, ix := b.ix, entry := entry, regs := beTaken.map (fun off => (off, beRd d n off)) } } d

/-- The engines that measure a channel and run (R240). -/
def bandsOn (d : Device) (ch : Nat) : List Nat := (List.range 128).filter (fun n => beOn d n && decide (beChan d n = ch))

/-- The table's index and fraction k ticks from now (R244). DEDUCED (log 55). -/
def phaseIn (d : Device) (n k : Nat) : Nat × Nat :=
  let b := bandOf d n
  let v := b.ix * 2 ^ 32 + b.fr + k * (beRd d n Reg.BE.TBL_INC).toNat
  (v / 2 ^ 32 % tblLen d n, v % 2 ^ 32)

/-- The table phase after k ticks (R244). DEDUCED (log 55). -/
def advancePhase (n k : Nat) (d : Device) : Device :=
  let v := phaseIn d n k
  setBand n { bandOf d n with ix := v.1, fr := v.2 } d

/-- One tick of every table phase. DEDUCED (log 55). -/
def phasesTick (d : Device) : Device :=
  forEach ((List.range 128).filter (fun n => decide (beRd d n Reg.BE.TBL_INC ≠ 0#32) && domainOn d (pgBe n)))
    (fun n d => advancePhase n 1 d) d

/-- STAT of a BE page (R280). -/
def beStat (d : Device) (n : Nat) : Word :=
  let b := bandOf d n
  let st := if beOn d n then b.state else .off
  beRd d n Reg.BE.STAT ||| wd ((match st with | .off => 0 | .a => 1 | .b => 2) +
    4 * b2n (decide (st ≠ .off) && decide (d.time.now < b.since + dwellOf (beRd d n Reg.BE.DWELL) st)) + 8 * b2n (adaptLim d n))

end Sys2Proof.Machine
end

