-- ==== Sys2Proof/Machine/TimerOps.lean ====
section
/-! DEFINITION. Timers (spec/04): event selectors (R143, R144), gate levels (R147), and what one timer does at one tick in the
order of R148, for the events that reach it at that tick. -/

namespace Sys2Proof.Machine

/-! ## Event selectors -/

/-- The selector of an event: its KIND and INDEX (R143). -/
def sel (kind idx : Nat) : Nat := kind * 4096 + idx
def selKind (s : Nat) : Nat := s / 4096 % 16
def selIndex (s : Nat) : Nat := s % 4096

/-- The falling edge of a TIO pin; no selector can name it (it lies above 16 bits), but pin uses of a timer can. -/
def tioFall (pin : Nat) : Nat := 16 * 4096 + pin

/-- How many indices a KIND has; 0 for KIND 0 and the reserved ones. -/
def selCount (kind : Nat) : Nat :=
  match kind with
  | 1 => 64 | 2 => 64 | 3 => 64 | 4 => 32 | 5 => 32 | 6 => 128 | 7 => 128 | 8 => 8 | 9 => 1 | 10 => 64 | _ => 0

/-- A selector names an event that can occur. -/
def selOk (s : Nat) : Bool := decide (selIndex s < selCount (selKind s))

/-- A selector whose write sets BAD_SELECTOR (R144). -/
def selBad (s : Nat) : Bool := decide (selKind s ≠ 0) && !selOk s

/-- The event that a selector names is among those that occur. -/
def selHit (evs : List Nat) (s : Nat) : Bool := selOk s && evs.contains s

/-- The timer that a selector of KIND 1 to 3 names. -/
def selTimer (s : Nat) : Option Nat :=
  if selOk s ∧ 1 ≤ selKind s ∧ selKind s ≤ 3 then some (selIndex s) else none

/-! ## One timer -/

def timerOf (d : Device) (n : Nat) : Timer := d.tmrs.tmr.get (fun _ => {}) n
def setTimer (n : Nat) (t : Timer) (d : Device) : Device :=
  { d with tmrs := { d.tmrs with tmr := d.tmrs.tmr.set (fun _ => {}) n t } }

/-- Fields of a TMR page. -/
def tmrRd (d : Device) (n off : Nat) : Word := rd d (pgTmr n) off
def tmrOn (d : Device) (n : Nat) : Bool := enabled d (pgTmr n) && domainOn d (pgTmr n)
def tmrRuns (d : Device) (n : Nat) : Bool := rdB d (pgTmr n) Reg.TMR.CTL 0 && tmrOn d n
def tmrSrc (d : Device) (n : Nat) : Nat := rdF d (pgTmr n) Reg.TMR.CTL 2 2
def slvMode (d : Device) (n : Nat) : Nat := rdF d (pgTmr n) Reg.TMR.SLV 0 3
def slvSrc (d : Device) (n : Nat) : Nat := rdF d (pgTmr n) Reg.TMR.SLV 16 16
def cntEvt (d : Device) (n : Nat) : Nat := rdF d (pgTmr n) Reg.TMR.CNT_EVT 0 16
def capEvt (d : Device) (n : Nat) : Nat := rdF d (pgTmr n) Reg.TMR.CAP_EVT 0 16
def capEvtOn (d : Device) (n : Nat) : Bool := rdB d (pgTmr n) Reg.TMR.CAP_CFG 0
def prescOf (d : Device) (n : Nat) : Nat := rdF d (pgTmr n) Reg.TMR.PRESC 0 16

/-- A core is in debug halt (R344). -/
def coreHalted (d : Device) (k : Nat) : Bool := rdB d (pgCore k) Reg.CORE.STAT 2

/-- The timer is held by a debug halt (R162). -/
def dbgStopped (d : Device) (n : Nat) : Bool :=
  decide (rdF d (pgTmr n) Reg.TMR.DBG 0 6 < 36) && coreHalted d (rdF d (pgTmr n) Reg.TMR.DBG 0 6)

/-- The gate level (R147): none where the selector's KIND gives no level. A timer of equal or higher index shows its level one
tick later (R146). -/
def gateLevel (d : Device) (n : Nat) : Option Bool :=
  let s := slvSrc d n
  match selTimer s with
  | some m => some (if m < n then (timerOf d m).out else (timerOf d m).outPrev)
  | none => if selKind s = 10 ∧ selOk s then some (d.tmrs.tio.getLsbD (selIndex s)) else none

/-- The gate is open, or there is none (R145). DEDUCED (log 46). -/
def gateOpen (d : Device) (n : Nat) : Bool :=
  if slvMode d n = 1 then
    match gateLevel d n with
    | some l => l != rdB d (pgTmr n) Reg.TMR.SLV 4
    | none => false
  else true

/-- The mark that a timer leaves for the present tick. -/
def tickMark (d : Device) : Nat := d.time.now + 1

/-- A timer starts running (R140): prescaler 0, OUT loaded, no count step at this tick. -/
def startTimer (n : Nat) (d : Device) : Device :=
  setTimer n { timerOf d n with
    presc := 0, out := rdB d (pgTmr n) Reg.TMR.TIO_CFG 1, seen := tickMark d, noStep := tickMark d } d

/-- COUNT is replaced by a write or a RESET: no count step at this tick, prescaler 0 (R138, R141, R145). -/
def loadCount (n : Nat) (v : Word) (d : Device) : Device :=
  setTimer n { timerOf d n with presc := 0, seen := tickMark d, noStep := tickMark d } (wr (pgTmr n) Reg.TMR.COUNT v d)

/-- The pin uses of an edge field: 1 rising, 2 falling, 3 both (R137, R153). -/
def pinHit (evs : List Nat) (pin edges : Nat) : Option Nat :=
  if (edges = 1 ∨ edges = 3) ∧ evs.contains (sel 10 pin) then some 1
  else if (edges = 2 ∨ edges = 3) ∧ evs.contains (tioFall pin) then some 2
  else none

/-- A count step comes from the timer's own ticks (R137, R138): answers whether it does, and moves the prescaler, which holds while the
source is not TICK; where PRESC has been lowered below it, the next tick steps. DESIGN CHOICE (log 138). -/
def tickStep (n : Nat) (d : Device) : Device × Bool :=
  let t := timerOf d n
  if t.seen = tickMark d ∨ ¬ tmrRuns d n ∨ tmrSrc d n ≠ 0 ∨ slvMode d n = 3 ∨ ¬ gateOpen d n ∨ dbgStopped d n then (d, false)
  else if prescOf d n ≤ t.presc then (setTimer n { t with presc := 0, seen := tickMark d } d, true)
  else (setTimer n { t with presc := t.presc + 1, seen := tickMark d } d, false)

/-- A count step comes from an event or an edge (R137, R145); the reserved SRC 3 gives none. DESIGN CHOICE (log 139). -/
def eventStep (d : Device) (n : Nat) (evs : List Nat) : Bool :=
  tmrRuns d n && !dbgStopped d n &&
    (if slvMode d n = 3 then selHit evs (slvSrc d n)
     else match tmrSrc d n with
       | 1 => gateOpen d n &&
          (pinHit evs (rdF d (pgTmr n) Reg.TMR.CTL 8 6) (rdF d (pgTmr n) Reg.TMR.CTL 4 2)).isSome
       | 2 => gateOpen d n && selHit evs (cntEvt d n)
       | _ => false)

/-- OUT after an action: 0 NONE, 1 SET, 2 CLEAR, 3 TOGGLE (R152). -/
def outAction (act : Nat) (b : Bool) : Bool :=
  match act with
  | 1 => true
  | 2 => false
  | 3 => !b
  | _ => b

/-- The count after one step, and whether it overflowed (R136). -/
def stepCount (top c : Word) : Word × Bool :=
  if c.toNat < top.toNat then (c + 1#32, false) else (0#32, true)

/-- Matches, overflow, one-shot and output actions on the resulting count (R148 step 4, R149 to R152); answers the events. -/
def timerDecide (n : Nat) (ovf : Bool) (d : Device) : Device × List Nat :=
  let c := tmrRd d n Reg.TMR.COUNT
  let m0 := decide (c = tmrRd d n Reg.TMR.MATCH0)
  let m1 := decide (c = tmrRd d n Reg.TMR.MATCH1)
  let cfg := tmrRd d n Reg.TMR.TIO_CFG
  let t := timerOf d n
  let o1 := if ovf then outAction (fld cfg 8 2) t.out else t.out
  let o2 := if m0 then outAction (fld cfg 4 2) o1 else o1
  let o3 := if m1 then outAction (fld cfg 6 2) o2 else o2
  let d := setTimer n { t with out := o3 } d
  let d := if ovf ∧ rdB d (pgTmr n) Reg.TMR.CTL 1 then wrB (pgTmr n) Reg.TMR.CTL 0 false d else d
  let d := d |> raiseIf ovf (pgTmr n) 2 |> raiseIf m0 (pgTmr n) 0 |> raiseIf m1 (pgTmr n) 1
  (d, (if ovf then [sel 3 n] else []) ++ (if m0 then [sel 1 n] else []) ++ (if m1 then [sel 2 n] else []))

/-- One capture (R153, R154): appended, or discarded where four entries stand. -/
def capture (n edge : Nat) (d : Device) : Device :=
  let t := timerOf d n
  if t.queue.length < 4 then
    setTimer n { t with queue := t.queue ++ [{ count := tmrRd d n Reg.TMR.COUNT, edge := edge, stamp := stampNow d }] } d
      |> raise (pgTmr n) 4
  else
    let lost := rdF d (pgTmr n) Reg.TMR.CAP_STAT 16 16
    d |> wrF (pgTmr n) Reg.TMR.CAP_STAT 16 16 (min 0xFFFF (lost + 1))
      |> wrB (pgTmr n) Reg.TMR.CAP_STAT 8 true |> raise (pgTmr n) 5

/-- What timer n does at the present tick for the events that reach it (R148, steps 2 to 5); answers its own events.
Modes 5 to 7 act as NONE. DEDUCED (log 46). DESIGN CHOICE (log 139). -/
def timerAct (n : Nat) (evs : List Nat) (d : Device) : Device × List Nat :=
  if ¬ tmrOn d n then (d, [])
  else
    let master := selHit evs (slvSrc d n)
    let d := if slvMode d n = 4 ∧ master ∧ ¬ rdB d (pgTmr n) Reg.TMR.CTL 0 then
        startTimer n (wrB (pgTmr n) Reg.TMR.CTL 0 true d) else d
    let reset := decide (slvMode d n = 2) && master
    let d := if reset then loadCount n 0#32 d else d
    let shut := decide ((timerOf d n).noStep = tickMark d)
    let es := eventStep d n evs
    let ts := tickStep n d
    let d := ts.1
    let step := !shut && (es || ts.2)
    let sc := stepCount (tmrRd d n Reg.TMR.TOP) (tmrRd d n Reg.TMR.COUNT)
    let d := if step then wr (pgTmr n) Reg.TMR.COUNT sc.1 d else d
    let r := if step ∨ reset then timerDecide n (step && sc.2) d else (d, [])
    let d := r.1
    let d := match pinHit evs (rdF d (pgTmr n) Reg.TMR.CAP_CFG 8 6) (rdF d (pgTmr n) Reg.TMR.CAP_CFG 4 2) with
      | some e => capture n e d
      | none => d
    (if capEvtOn d n ∧ selHit evs (capEvt d n) then capture n 3 d else d, r.2)

/-! ## One tick of all timers -/

/-- The selectors that timer n uses. -/
def tmrUses (d : Device) (n : Nat) : List Nat :=
  (if slvMode d n = 0 then [] else [slvSrc d n]) ++ (if tmrSrc d n = 2 then [cntEvt d n] else []) ++
    (if capEvtOn d n then [capEvt d n] else [])

/-- Timer n uses one of the events. -/
def tmrTouched (d : Device) (n : Nat) (evs : List Nat) : Bool :=
  tmrOn d n && ((tmrUses d n).any (selHit evs) ||
    (pinHit evs (rdF d (pgTmr n) Reg.TMR.CTL 8 6) (rdF d (pgTmr n) Reg.TMR.CTL 4 2)).isSome ||
    (pinHit evs (rdF d (pgTmr n) Reg.TMR.CAP_CFG 8 6) (rdF d (pgTmr n) Reg.TMR.CAP_CFG 4 2)).isSome)

/-- The late uses of timer n that act now. -/
def lateOf (d : Device) (n : Nat) : List Nat := (d.tmrs.late.filter (fun l => l.1 = n)).map (fun l => l.2)
def dropLate (n : Nat) (d : Device) : Device :=
  { d with tmrs := { d.tmrs with late := d.tmrs.late.filter (fun l => l.1 ≠ n) } }

/-- Timer n acts at this tick: an event reaches it, a late use is due, or its own tick brings a count step. -/
def timerActs (d : Device) (n : Nat) (evs : List Nat) : Bool :=
  tmrTouched d n evs || decide (lateOf d n ≠ []) || (tickStep n d).2

/-- The timers that act do so in ascending order; each sees the events given and those of the timers before it (R146). -/
def timersRun (evs : List Nat) : List Nat → Device → Device × List Nat
  | [], d => (d, [])
  | n :: ns, d =>
    if timerActs d n evs then
      let r := timerAct n (evs ++ lateOf d n) (dropLate n d)
      let r' := timersRun (evs ++ r.2) ns r.1
      (r'.1, r.2 ++ r'.2)
    else timersRun evs ns (tickStep n d).1

/-- The uses of timer events by timers of equal or lower index: they act one tick later (R146). -/
def lateUses (d : Device) (evs : List Nat) : List (Nat × Nat) :=
  ((List.range 64).filter (tmrOn d)).flatMap (fun n =>
    ((tmrUses d n).eraseDups.filter (fun s => selHit evs s &&
      (match selTimer s with | some m => decide (n ≤ m) | none => false))).map (fun s => (n, s)))

/-- One tick of the timers for the events given: answers the timers' own events. DEDUCED (log 45). -/
def timerPass (evs : List Nat) (d : Device) : Device × List Nat :=
  let r := timersRun evs (List.range 64) { d with tmrs := { d.tmrs with given := tickMark d } }
  ({ r.1 with tmrs := { r.1.tmrs with next := r.1.tmrs.next ++ lateUses r.1 r.2 } }, r.2)

/-- Timer n has something to do at this tick (R137, R138, R145, R146); a tick's events are delivered once, and what comes later waits
for the next tick. DEDUCED (log 46). -/
def timerDue (d : Device) (n : Nat) : Bool := decide (d.tmrs.given ≠ tickMark d) && timerActs d n d.tmrs.evs

/-- Events of the tick wait to be delivered, or a timer has something to do. -/
def netDue (d : Device) : Bool :=
  decide (d.tmrs.given ≠ tickMark d) && (decide (d.tmrs.evs ≠ []) || decide (d.swTrg ≠ 0#64) || (List.range 64).any (fun n => timerActs d n d.tmrs.evs))

/-! ## TIO pins (R139, R152) -/

/-- TMRn drives TIOn with OUT (R152, R163); otherwise the pin is an input only. -/
def tioDriven (d : Device) (n : Nat) : Bool := rdB d (pgTmr n) Reg.TMR.TIO_CFG 0 && tmrOn d n

/-- The level at TIOn. DESIGN CHOICE (log 129). -/
def tioPin (d : Device) (n : Nat) : Bool := if tioDriven d n then (timerOf d n).out else d.tmrs.ext.getLsbD n

/-- One bit of a 64-bit vector. -/
def putBit (v : BitVec 64) (i : Nat) (b : Bool) : BitVec 64 :=
  if b then v ||| BitVec.ofNat 64 (2 ^ i) else v &&& ~~~ BitVec.ofNat 64 (2 ^ i)

/-- The levels at all pins. -/
def tioPins (d : Device) : BitVec 64 := (List.range 64).foldl (fun v n => putBit v n (tioPin d n)) 0#64

/-- The sampled level differs from the recognised one and has held for FLT ticks; 0 acts as 1 (R139). -/
def tioReady (d : Device) (n : Nat) : Bool :=
  (d.tmrs.samp.getLsbD n != d.tmrs.tio.getLsbD n) &&
    decide (d.tmrs.sampAt.get (fun _ => 0) n + max 1 (rdF d (pgTmr n) Reg.TMR.TIO_CFG 16 8) ≤ d.time.now + 1)

/-- The level of TIOn is recognised: an edge of the present tick. -/
def tioTake (n : Nat) (d : Device) : Device :=
  if tioReady d n then
    let b := d.tmrs.samp.getLsbD n
    { d with tmrs := { d.tmrs with
        tio := putBit d.tmrs.tio n b, evs := d.tmrs.evs ++ [if b then sel 10 n else tioFall n] } }
  else d

/-- Every TIO pin is sampled at a tick. A sample is the level that stood at the pin two ticks before, so that a level is recognised
2 + FLT ticks after its edge, to within a tick (R139, R153). DEDUCED (log 48). -/
def tioTick (d : Device) : Device :=
  let t := d.tmrs
  let changed := (List.range 64).filter (fun n => t.inB.getLsbD n != t.samp.getLsbD n)
  { d with tmrs := { t with
      samp := t.inB, inB := t.inA, inA := tioPins d, sampAt := changed.foldl (fun m n => m.insert n d.time.now) t.sampAt } }

/-- The pins at make-up: no edge of the gap is captured, and what stands at a pin is its recognised level (R76). DEDUCED (log 48). -/
def tioMakeup (d : Device) : Device :=
  let v := tioPins d
  { d with tmrs := { d.tmrs with tio := v, inA := v, inB := v, samp := v, sampAt := [] } }

/-- At the end of a tick: the prescalers, where the timers' pass has not moved them, and OUT as slaves see it one tick later. DEDUCED
(log 45). -/
def timersTick (d : Device) : Device :=
  let d := if d.tmrs.given = tickMark d then d else forEach ((List.range 64).filter (tmrRuns d)) (fun n d => (tickStep n d).1) d
  let d := { d with tmrs := { d.tmrs with late := d.tmrs.next, next := [] } }
  forEach ((List.range 64).filter (fun n => (timerOf d n).out != (timerOf d n).outPrev))
    (fun n d => setTimer n { timerOf d n with outPrev := (timerOf d n).out } d) d

end Sys2Proof.Machine
end

