-- ==== Sys2Proof/Machine/PfeOps.lean ====
section
/-! DEFINITION. Precision filter engines (spec/06, R216 to R234): requests, their queue, preemption and results, and the trigger
sequencer that issues requests. -/

namespace Sys2Proof.Machine

def pfeOf (d : Device) (p : Nat) : Pfe := d.pfe.get (fun _ => {}) p
def setPfe (p : Nat) (e : Pfe) (d : Device) : Device := { d with pfe := d.pfe.set (fun _ => {}) p e }

/-- The precision ratio of a code (R219). -/
def pfeRatio (osr : Nat) : Nat := 256 * 2 ^ osr

/-- The window length in modulator samples (R216). -/
def windowLen (osr k : Nat) : Nat := (5 + k) * pfeRatio osr + 64

/-- A request is discarded (R224, R232, R233). -/
def dropRequest (p : Nat) (d : Device) : Device := d |> bump (pgPfe p) Reg.PFE.DROP_CNT |> raise (pgPfe p) 2

/-- A queue with a request in its place: URGENT ahead of all NORMAL, each kind in order of issue (R223). -/
def queuePlace (r : PfeReq) (q : List PfeReq) : List PfeReq :=
  if r.urgent then q.filter (fun x => x.urgent) ++ [r] ++ q.filter (fun x => !x.urgent) else q ++ [r]

/-- A stopped NORMAL request returns to the head of the NORMAL part (R225). -/
def queueReturn (r : PfeReq) (q : List PfeReq) : List PfeReq :=
  q.filter (fun x => x.urgent) ++ [r] ++ q.filter (fun x => !x.urgent)

/-- The engine takes requests: EN, powered, and no abort in progress (R232, R233). -/
def pfeTakes (d : Device) (p : Nat) : Bool :=
  enabled d (pgPfe p) && domainOn d (pgPfe p) && (d.aborts.find? (pgPfe p)).isNone

/-- A request reaches engine p (R222 to R224, R232, R233): it takes the next sequence number, then a place or none. -/
def pfeIssue (p : Nat) (r : PfeReq) (d : Device) : Device :=
  if ¬ domainOn d (pgPfe p) then d
  else
    let r := { r with seq := rd d (pgPfe p) Reg.PFE.SEQ_NEXT }
    let d := bump (pgPfe p) Reg.PFE.SEQ_NEXT d
    let e := pfeOf d p
    if ¬ pfeTakes d p then dropRequest p d
    else if e.queue.length < 16 then setPfe p { e with queue := queuePlace r e.queue } d
    else if r.urgent ∧ e.queue.any (fun x => !x.urgent) then
      dropRequest p (setPfe p { e with queue := queuePlace r e.queue.dropLast } d)
    else dropRequest p d

/-- A result becomes the latest of its engine and channel; the last one of an earlier tick stays known (R258). -/
def noteLatest (p : Nat) (r : PfeRes) (d : Device) : Device :=
  let prev := match d.latest.find? (p * 256 + r.req.chan) with
    | some l => if l.at_ = d.time.now then l.prev else some l.res
    | none => none
  { d with latest := d.latest.insert (p * 256 + r.req.chan) { at_ := d.time.now, res := r, prev := prev } }

/-- The latest result of engine p for a channel that was appended before tick t (R258). -/
def latestBefore (d : Device) (p ch t : Nat) : Option PfeRes :=
  match d.latest.find? (p * 256 + ch) with
  | some l => if l.at_ < t then some l.res else l.prev
  | none => none

/-- Fields of a trigger entry (R239). -/
def trgSel (d : Device) (t : Nat) : Nat := rdF d pgPfeseq (Reg.PFESEQ.TRG_SRC t) 0 16
def trgConv (d : Device) (t : Nat) : Word := rd d pgPfeseq (Reg.PFESEQ.TRG_CONV t)

/-- A conversion word that names no engine, channel or ratio (R221). -/
def badTarget (w : Word) : Bool :=
  decide (23 < fld w 22 5) || decide (159 < fld w 0 8) || decide (fld w 27 3 = 7)

/-- The entry fires when its source occurs (R220, R221, R239). -/
def trgArmed (d : Device) (t : Nat) : Bool :=
  enabled d pgPfeseq && domainOn d pgPfeseq && bit (trgConv d t) 31 && !badTarget (trgConv d t)

/-- Entry t fires at the present tick: its request goes to its engine, and FIRED sets (R220). -/
def fireEntry (t : Nat) (d : Device) : Device :=
  if trgArmed d t then
    let w := trgConv d t
    let r : PfeReq := {
      due := d.time.now + rdF d pgPfeseq (Reg.PFESEQ.TRG_SRC t) 16 16, stamp := stampNow d, seq := 0#32, trg := t
      chan := fld w 0 8, osr := fld w 27 3, k := fld w 14 8 + 1, urgent := bit w 30 }
    pfeIssue (fld w 22 5) r
      (wrB pgPfeseq (if t < 32 then Reg.PFESEQ.FIRED_LO else Reg.PFESEQ.FIRED_HI) (t % 32) true d)
  else d

/-- The entries whose source is among the events, or that SW_TRG names, fire in ascending order, the source's request first (R220). -/
def fireEntries (evs : List Nat) (d : Device) : Device :=
  let sw := d.swTrg
  forEach ((List.range 64).filter (fun t => selHit evs (trgSel d t) || sw.getLsbD t)) (fun t d =>
    d |> doIf (selHit evs (trgSel d t)) (fireEntry t) |> doIf (sw.getLsbD t) (fireEntry t)) { d with swTrg := 0#64 }

end Sys2Proof.Machine
end

