-- ==== Sys2Proof/Machine/PosOps.lean ====
section
/-! DEFINITION. Position channels (spec/08): counting in each mode, index and probe latches, the two speeds, and SSI frames. -/

namespace Sys2Proof.Machine

def posOf (d : Device) (n : Nat) : Pos := d.pos.get (fun _ => {}) n
def setPos (n : Nat) (p : Pos) (d : Device) : Device := { d with pos := d.pos.set (fun _ => {}) n p }

/-- Fields of a POS page. MODE codes 5 to 7 act as OFF (R290). -/
def posRd (d : Device) (n off : Nat) : Word := rd d (pgPos n) off
def posOn (d : Device) (n : Nat) : Bool := enabled d (pgPos n) && domainOn d (pgPos n)
def posMode (d : Device) (n : Nat) : Nat :=
  if 4 < rdF d (pgPos n) Reg.POS.CFG 0 3 then 0 else rdF d (pgPos n) Reg.POS.CFG 0 3
def posCfgB (d : Device) (n i : Nat) : Bool := rdB d (pgPos n) Reg.POS.CFG i

/-- The modulus of the counts (R295). -/
def posModulus (d : Device) (n : Nat) : Nat :=
  if (posRd d n Reg.POS.MODULO).toNat = 0 then 2 ^ 32 else (posRd d n Reg.POS.MODULO).toNat

/-- A value brought into the range of the counts. -/
def posWrap (d : Device) (n : Nat) (v : Int) : Word := wd (v % ((posModulus d n : Nat) : Int)).toNat

/-- RAW becomes v; recent values stay on record for the probes (R303). -/
def setRaw (n : Nat) (v : Word) (d : Device) : Device :=
  let p := posOf d n
  let old := if p.rawHist = [] then [(0, posRd d n Reg.POS.RAW)] else p.rawHist
  wr (pgPos n) Reg.POS.RAW v (setPos n { p with rawHist := ((d.time.now, v) :: old).take 300 } d)

/-- RAW and COUNT are loaded together, modulo MODULO (R295, R296). -/
def loadPos (n : Nat) (v : Word) (d : Device) : Device :=
  let w := posWrap d n v.toNat
  wr (pgPos n) Reg.POS.COUNT w (setRaw n w d)

/-- RAW at a tick now or before it (R303). -/
def rawAt (d : Device) (n tick : Nat) : Word :=
  match (posOf d n).rawHist.find? (fun e => decide (e.1 ≤ tick)) with
  | some e => e.2
  | none => posRd d n Reg.POS.RAW

/-- COUNT after a step s of RAW from `raw` to `raw'`, with DIR as it stands (R294): the new COUNT and DIR (true: down). -/
def hystCount (hyst dir : Bool) (count raw raw' : Word) (s : Int) : Word × Bool :=
  if ¬ hyst then (raw', decide (s < 0))
  else if count = raw then (if decide (s < 0) = dir then (raw', dir) else (count, dir))
  else if raw' = count then (count, dir)
  else (raw', decide (s < 0))

/-- A step of RAW by +1 or -1 (R291 to R295), on the record of the edge-period speed (R304). -/
def posStep (n : Nat) (s : Int) (d : Device) : Device :=
  let raw := posRd d n Reg.POS.RAW
  let raw' := posWrap d n ((raw.toNat : Int) + s)
  let h := hystCount (posCfgB d n 4) (rdB d (pgPos n) Reg.POS.STAT 0) (posRd d n Reg.POS.COUNT) raw raw' s
  let d := setRaw n raw' d |> wr (pgPos n) Reg.POS.COUNT h.1 |> wrB (pgPos n) Reg.POS.STAT 0 h.2
  let p := posOf d n
  let up := decide (0 < s)
  setPos n { p with
    steps := (d.time.now :: p.steps).take 17, stepUp := up
    stepsValid := if up = p.stepUp then min 16 (p.stepsValid + 1) else 1, timedOut := false } d

/-- A decoding error (R292, R293). -/
def posQerr (n : Nat) (d : Device) : Device :=
  d |> wrB (pgPos n) Reg.POS.STAT 10 true |> bump (pgPos n) Reg.POS.QERR_CNT |> raise (pgPos n) 2

/-- What a new set of recognised levels does to RAW: a step, a decoding error, or nothing. -/
inductive PosMove where
  | none
  | step (s : Int)
  | err
  deriving DecidableEq, Repr

/-- The place of a pair (A, B) in the sequence 00, 10, 11, 01 (R291). -/
def quadPlace (a b : Bool) : Nat :=
  match a, b with
  | false, false => 0
  | true, false => 1
  | true, true => 2
  | false, true => 3

/-- The place of a Hall state (U, V, W) in the sequence 100, 110, 010, 011, 001, 101 (R293); none for 000 and 111. -/
def hallPlace (u v w : Bool) : Option Nat :=
  match u, v, w with
  | true, false, false => some 0
  | true, true, false => some 1
  | false, true, false => some 2
  | false, true, true => some 3
  | false, false, true => some 4
  | true, false, true => some 5
  | _, _, _ => Option.none

/-- QUAD mode (R291, R292). -/
def quadMove (a b a' b' : Bool) : PosMove :=
  match (quadPlace a' b' + 4 - quadPlace a b) % 4 with
  | 0 => .none
  | 1 => .step 1
  | 3 => .step (-1)
  | _ => .err

/-- HALL mode (R293): a valid state reached from an invalid one gives no count; by a change of more than one line it is a decoding
error. -/
def hallMove (u v w u' v' w' : Bool) : PosMove :=
  if u = u' ∧ v = v' ∧ w = w' then .none
  else match hallPlace u v w, hallPlace u' v' w' with
    | some i, some j =>
      if (j + 6 - i) % 6 = 1 then .step 1 else if (j + 6 - i) % 6 = 5 then .step (-1) else .err
    | Option.none, some _ => if b2n (u != u') + b2n (v != v') + b2n (w != w') = 1 then .none else .err
    | _, Option.none => .err

/-- PULSE_DIR mode (R292, R293). -/
def pulseMove (a b a' b' : Bool) : PosMove :=
  if ¬ a ∧ a' then (if b ≠ b' then .err else if b' then .step 1 else .step (-1)) else .none

/-- The move that new levels make in the channel's mode. -/
def posMove (d : Device) (n : Nat) (a b z : Bool) : PosMove :=
  let p := posOf d n
  match posMode d n with
  | 1 => quadMove p.a p.b a b
  | 2 => hallMove p.a p.b p.z a b z
  | 3 => pulseMove p.a p.b a b
  | _ => .none

/-- An index event (R298): latched or discarded, then IDX_LOAD with ZMODE = 2. -/
def posIndex (n : Nat) (d : Device) : Device :=
  let pg := pgPos n
  let d := if rdB d pg Reg.POS.STAT 6 then d |> wrB pg Reg.POS.STAT 7 true |> raise pg 6
    else d |> wr pg Reg.POS.IDX_CNT (posRd d n Reg.POS.RAW)
      |> wr pg Reg.POS.IDX_STAMP_LO (wd (stampNow d)) |> wr pg Reg.POS.IDX_STAMP_HI (wd (stampNow d / 2 ^ 32))
      |> wrB pg Reg.POS.STAT 6 true |> raise pg 0
  if rdF d pg Reg.POS.CFG 8 2 = 2 then loadPos n (posRd d n Reg.POS.IDX_LOAD) d else d

/-- The levels recognised at this sample are an index event (R298). -/
def indexHit (d : Device) (n : Nat) (a b z : Bool) : Bool :=
  (decide (posMode d n = 1) || decide (posMode d n = 3)) && decide (rdF d (pgPos n) Reg.POS.CFG 8 2 ≠ 0) &&
    !(posOf d n).z && z &&
    (!posCfgB d n 12 || (a == posCfgB d n 13 && b == posCfgB d n 14))

/-- A new set of recognised levels at a sample (R287 to R298). -/
def posLevels (n : Nat) (a b z : Bool) (d : Device) : Device :=
  let mv := posMove d n a b z
  let ix := indexHit d n a b z
  let inv : Int := if posCfgB d n 5 then -1 else 1
  let d := setPos n { posOf d n with a := a, b := b, z := z } d
  let d := match mv with
    | .none => d
    | .step s => posStep n (s * inv) d
    | .err => posQerr n d
  if ix then posIndex n d else d

/-! ## Sampling and filtering (R287, R288) -/

/-- The clock that the channel drives at POSA (R307): low for H ticks from F + 2Hk, for k from 0 to LEN, and high otherwise. -/
def ssiClock (d : Device) (n : Nat) : Bool :=
  match (posOf d n).ssi with
  | some fr =>
    let t := d.time.now - fr.f
    !(decide (t < 2 * fr.half * fr.len + fr.half) && decide (t % (2 * fr.half) < fr.half))
  | none => true

/-- The level at POSA: of the encoder clock in SSI mode, of the board otherwise, as with EN 0 (R312). -/
def posaLevel (d : Device) (n : Nat) : Bool := if posOn d n ∧ posMode d n = 4 then ssiClock d n else (posOf d n).la.pin

/-- A pin is sampled: sample number or tick `no`. -/
def lineSample (no : Nat) (level : Bool) (l : PinLine) : PinLine := if level = l.samp then l else { l with samp := level, since := no }

/-- The level recognised after a sample, `was` before it: a new one once it has held for FLT samples; 0 acts as 1. -/
def lineLevel (no flt : Nat) (l : PinLine) (was : Bool) : Bool := if l.since + max 1 flt ≤ no + 1 then l.samp else was

/-- POSA, POSB and POSZ of a channel have their sample of the present tick to come. -/
def posSampleDue (d : Device) (n : Nat) : Bool :=
  !asleep d && domainOn d (pgPos n) && decide (d.posAt = some d.time.now) && decide ((posOf d n).sampled ≠ d.posNo)

/-- They are sampled, and the levels that have held are recognised together; with EN 0 nothing is counted. DESIGN CHOICE (log 63). -/
def posSample (n : Nat) (d : Device) : Device :=
  let p := posOf d n
  let flt := rdF d (pgPos n) Reg.POS.CFG 16 8
  let la := lineSample d.posNo (posaLevel d n) p.la
  let lb := lineSample d.posNo p.lb.pin p.lb
  let lz := lineSample d.posNo p.lz.pin p.lz
  let a := lineLevel d.posNo flt la p.a
  let b := lineLevel d.posNo flt lb p.b
  let z := lineLevel d.posNo flt lz p.z
  let d := setPos n { p with la := la, lb := lb, lz := lz, sampled := d.posNo } d
  if a = p.a ∧ b = p.b ∧ z = p.z then d
  else if posOn d n then posLevels n a b z d
  else setPos n { posOf d n with a := a, b := b, z := z } d

/-- A sample of the channel can change something. -/
def posMoves (d : Device) (n : Nat) : Bool :=
  let p := posOf d n
  posaLevel d n != p.la.samp || p.lb.pin != p.lb.samp || p.lz.pin != p.lz.samp || p.la.samp != p.a || p.lb.samp != p.b || p.lz.samp != p.z

/-- The tick is one of samples where the time line is a multiple of 4 (R287). -/
def posTick (d : Device) : Device :=
  if tlRuns d ∧ d.time.tl.toNat % 4 = 0 then { d with posNo := d.posNo + 1, posAt := some d.time.now } else d

/-- What stands at the pins of a channel and in their filters. -/
def pinsOf (p : Pos) : Pos :=
  { a := p.a, b := p.b, z := p.z, prb := p.prb, la := p.la, lb := p.lb, lz := p.lz, lp := p.lp, sampled := p.sampled, prbAt := p.prbAt }

/-! ## Probes (R302, R303) -/

/-- A recognised level of PROBEn; the stamp is the first sample of the run that met the filter, `back` ticks ago. -/
def probeLevel (n back : Nat) (level : Bool) (d : Device) : Device :=
  let pg := pgPos n
  let e := rdF d pg Reg.POS.PRB_CFG 8 2
  let hit := if level then decide (e = 1 ∨ e = 3) else decide (e = 2 ∨ e = 3)
  let d := setPos n { posOf d n with prb := level } d
  if ¬ hit then d
  else if rdB d pg Reg.POS.STAT 8 then d |> wrB pg Reg.POS.STAT 9 true |> raise pg 6
  else
    let stamp := (d.time.tl - BitVec.ofNat 64 back).toNat % 2 ^ 48
    d |> wr pg Reg.POS.PRB_CNT (rawAt d (rdF d pg Reg.POS.PRB_CFG 0 5) (d.time.now - back))
      |> wr pg Reg.POS.PRB_STAMP_LO (wd stamp)
      |> wr pg Reg.POS.PRB_STAMP_HI (wd ((if level then 1 else 2) * 2 ^ 16 + stamp / 2 ^ 32))
      |> wrB pg Reg.POS.STAT 8 true |> raise pg 1

/-- PROBEn has its sample of the present tick to come. -/
def probeOpen (d : Device) (n : Nat) : Bool := !asleep d && tlRuns d && domainOn d (pgPos n) && decide ((posOf d n).prbAt ≠ some d.time.now)

/-- PROBEn is sampled, and a level that has held for PRB_CFG.FLT ticks is recognised (R302); with EN 0 it is no event.
DESIGN CHOICE (log 63). -/
def probeSample (n : Nat) (d : Device) : Device :=
  let p := posOf d n
  let l := lineSample d.time.now p.lp.pin p.lp
  let v := lineLevel d.time.now (rdF d (pgPos n) Reg.POS.PRB_CFG 16 8) l p.prb
  let d := setPos n { p with lp := l, prbAt := some d.time.now } d
  if v = p.prb then d
  else if posOn d n then probeLevel n (d.time.now - l.since) v d
  else setPos n { posOf d n with prb := v } d

/-- A sample of PROBEn can change something. -/
def probeMoves (d : Device) (n : Nat) : Bool := let p := posOf d n; p.lp.pin != p.lp.samp || p.lp.samp != p.prb

/-! ## Speed (R304 to R306) -/

def edgeN (d : Device) (n : Nat) : Nat := max 1 (rdF d (pgPos n) Reg.POS.SPD_CFG 8 4)
def winShift (d : Device) (n : Nat) : Nat := max 4 (min 24 (rdF d (pgPos n) Reg.POS.SPD_CFG 0 5))
def speedTimeout (d : Device) (n : Nat) : Nat := rdF d (pgPos n) Reg.POS.SPD_CFG 16 16 * 4096

/-- EDGE_SPAN: the ticks between the latest step and the step N before it; 0 while there is none. DESIGN CHOICE (log 61). -/
def edgeSpan (d : Device) (n : Nat) : Nat :=
  let p := posOf d n
  match p.steps.head?, p.steps[edgeN d n]? with
  | some t, some u => t - u
  | _, _ => 0

/-- The edge-period speed is valid (R304). -/
def speedValid (d : Device) (n : Nat) : Bool :=
  let p := posOf d n
  decide (edgeN d n ≤ p.stepsValid) && !p.timedOut && decide (posMode d n ≠ 4) && posOn d n

/-- SPEED as a function of a speed num / den in counts per tick (R306). -/
def speedWord (gain : Word) (num : Int) (den : Nat) : Word := wdI (satI 32 (roundEven (num * gain.toNat * 2 ^ 15) den))

/-- The edge-period speed at the present tick, through SPD_GAIN. -/
def edgeSpeed (d : Device) (n : Nat) : Word :=
  let p := posOf d n
  if ¬ speedValid d n then 0#32
  else match p.steps[edgeN d n - 1]? with
    | none => 0#32
    | some prev =>
      let den := max (edgeSpan d n) (d.time.now - prev)
      if den = 0 then Config.speedOpen n
      else speedWord (posRd d n Reg.POS.SPD_GAIN) (if p.stepUp then (edgeN d n : Int) else -(edgeN d n : Int)) den

/-- SPEED (R306); the window speed is held from one window's end to the next (R305). -/
def posSpeed (d : Device) (n : Nat) : Word :=
  if posCfgB d n 24 ∧ posMode d n ≠ 4 then edgeSpeed d n
  else speedWord (posRd d n Reg.POS.SPD_GAIN) (sw (posRd d n Reg.POS.CNT_WIN)) (2 ^ (posOf d n).winSh)

/-- A window ends (R305, R311). -/
def windowEnd (n : Nat) (d : Device) : Device :=
  let p := posOf d n
  let c := posRd d n Reg.POS.COUNT
  let diff : Int := (c.toNat : Int) - (p.winBase.toNat : Int)
  let m := posModulus d n
  let r := (diff % (m : Int)).toNat
  let win := if p.winSkip then 0#32 else wdI (if 2 * r < m then (r : Int) else (r : Int) - (m : Int))
  setPos n { p with winBase := c, winSkip := false, winDone := tickMark d, winSh := winShift d n } (wr (pgPos n) Reg.POS.CNT_WIN win d)

/-- The window of channel n ends at the present tick and has not been taken. -/
def windowDue (d : Device) (n : Nat) : Bool :=
  posOn d n && decide (d.time.tl.toNat % 2 ^ winShift d n = 0) && decide ((posOf d n).winDone ≠ tickMark d)

/-- No step has come for the timeout (R304). -/
def timeoutDue (d : Device) (n : Nat) : Bool :=
  let p := posOf d n
  posOn d n && !p.timedOut && decide (posMode d n ≠ 4) &&
    (match p.steps.head? with
     | some t => decide (t + speedTimeout d n ≤ d.time.now)
     | none => false)

/-! ## SSI (R307 to R310) -/

/-- An SSI error: SSI_ERR, its cause, and the SSI_ERR event. -/
def ssiError (n cause : Nat) (d : Device) : Device :=
  d |> wrF (pgPos n) Reg.POS.STAT 14 2 cause |> wrB (pgPos n) Reg.POS.STAT 13 true |> raise (pgPos n) 4

/-- A frame is started at the present tick, or not (R307, R308). -/
def ssiBegin (n : Nat) (d : Device) : Device :=
  let p := posOf d n
  if ¬ posOn d n ∨ posMode d n ≠ 4 then d
  else if p.ssi.isSome then ssiError n 2 d
  else if ¬ p.b then ssiError n 0 d
  else
    let h := max 64 (rdF d (pgPos n) Reg.POS.SSI_CFG 16 12)
    setPos n { p with ssi := some {
      f := d.time.now, stamp := stampNow d, half := h, len := max 8 (min 48 (rdF d (pgPos n) Reg.POS.SSI_CFG 0 6))
      dly := min (2 * h - 1) (rdF d (pgPos n) Reg.POS.SSI_TIM 0 13), bits := [] } } d

/-- The channels whose SSI_TRIG event occurs start a frame. -/
def ssiTriggers (evs : List Nat) (d : Device) : Device :=
  forEach ((List.range 32).filter (fun n => selHit evs (rdF d (pgPos n) Reg.POS.SSI_TRIG 0 16))) ssiBegin d

/-- The bit that falls at the present tick is sampled, at the tick's end: the level recognised by then (R307). -/
def ssiSample (n : Nat) (d : Device) : Device :=
  let p := posOf d n
  match p.ssi with
  | some fr =>
    if fr.bits.length < fr.len ∧ d.time.now = fr.f + 2 * fr.half * (fr.bits.length + 1) + fr.dly then
      setPos n { p with ssi := some { fr with bits := fr.bits ++ [p.b] } } d
    else d
  | none => d

/-- The frame has all its bits and its final clock edge (R309). -/
def ssiDone (d : Device) (n : Nat) : Bool :=
  match (posOf d n).ssi with
  | some fr => decide (fr.bits.length = fr.len) &&
      decide (max (fr.f + 2 * fr.half * fr.len + fr.dly) (fr.f + fr.half + 2 * fr.half * fr.len) ≤ d.time.now)
  | none => false

/-- Bits, first one most significant, as a number. -/
def bitsNum (bs : List Bool) : Nat := bs.foldl (fun a b => 2 * a + b2n b) 0

/-- Gray code to binary (R309): each bit is the sum of those at and above it. -/
def grayBits (bs : List Bool) : List Bool :=
  (bs.foldl (fun (a : List Bool × Bool) b => (a.1 ++ [a.2 != b], a.2 != b)) ([], false)).1

/-- A frame completes (R308, R309): stored, and its position moves the counts unless every bit is 1. DEDUCED (log 62). -/
def ssiFinish (n : Nat) (d : Device) : Device :=
  let p := posOf d n
  let pg := pgPos n
  match p.ssi with
  | none => d
  | some fr =>
    let v := bitsNum fr.bits
    let d := d |> setPos n { p with ssi := none, ssiAt := some d.time.now }
      |> wr pg Reg.POS.SSI_DATA_LO (wd v)
      |> wr pg Reg.POS.SSI_DATA_HI (wd (v / 2 ^ 32 % 2 ^ 16 + fr.stamp / 2 ^ 32 * 2 ^ 16))
      |> wr pg Reg.POS.SSI_STAMP_LO (wd fr.stamp)
    let d := if fr.bits.all (fun b => b) then ssiError n 1 d
      else
        let w := fr.len - rdF d pg Reg.POS.SSI_CFG 8 6
        let part := fr.bits.take w
        let pos := bitsNum (if rdB d pg Reg.POS.SSI_CFG 6 then grayBits part else part) % 2 ^ (min 32 w)
        let d := match p.ssiPrev with
          | none => loadPos n (wd pos) d
          | some prev =>
            let delta : Int := if w = 0 then 0 else signed (min 32 w) (pos + 2 ^ (min 32 w) - prev % 2 ^ (min 32 w))
            let d := loadPos n (posWrap d n (((posRd d n Reg.POS.COUNT).toNat : Int) + delta)) d
            if delta = 0 then d else wrB pg Reg.POS.STAT 0 (decide (delta < 0)) d
        setPos n { posOf d n with ssiPrev := some pos } d
    raise pg 3 d

/-- A frame is stopped without a result (R312). DEDUCED (log 62). -/
def ssiStop (n : Nat) (d : Device) : Device := setPos n { posOf d n with ssi := none } d

/-- STAT of a POS page (R313). -/
def posStat (d : Device) (n : Nat) : Word :=
  let p := posOf d n
  posRd d n Reg.POS.STAT ||| wd (2 * b2n p.a + 4 * b2n p.b + 8 * b2n p.z + 2 ^ 11 * b2n (speedValid d n) +
    2 ^ 12 * b2n p.ssi.isSome + 2 ^ 17 * b2n p.prb)

end Sys2Proof.Machine
end

