-- ==== Sys2Proof/Machine/OluOps.lean ====
section
/-! DEFINITION. Outer loop units (spec/07, R257 to R274 and R277): inputs, the PI law of R262 in the 72-bit working format, the
vector transforms, banks, commit and the following-error limit. -/

namespace Sys2Proof.Machine

def oluOf (d : Device) (u : Nat) : Olu := d.olu.get (fun _ => {}) u
def setOlu (u : Nat) (o : Olu) (d : Device) : Device := { d with olu := d.olu.set (fun _ => {}) u o }

def oluRd (d : Device) (u off : Nat) : Word := rd d (pgOlu u) off
def oluOn (d : Device) (u : Nat) : Bool := enabled d (pgOlu u) && domainOn d (pgOlu u)

/-- MODE with 3 acting as SCALAR (R283): 0 SCALAR, 1 VECTOR3, 2 VECTOR4. -/
def oluModeOf (cfg : Word) : Nat := if fld cfg 0 2 = 3 then 0 else fld cfg 0 2
def fbKindOf (cfg : Word) : Nat := fld cfg 8 3

/-- A feedback kind under which the OLU performs no evaluations (R259). -/
def badFb (cfg : Word) : Bool :=
  decide (4 ≤ fbKindOf cfg) || (decide (oluModeOf cfg ≠ 0) && decide (2 ≤ fbKindOf cfg))

/-- The registers that an evaluation takes at its trigger (R258). -/
def oluTaken : List Nat :=
  [Reg.OLU.CFG, Reg.OLU.FB_GAIN, Reg.OLU.FB_OFFS, Reg.OLU.REF_D, Reg.OLU.REF_Q, Reg.OLU.Z_REF, Reg.OLU.FF_D, Reg.OLU.FF_Q,
   Reg.OLU.TGT_SEL, Reg.OLU.TGAIN 0, Reg.OLU.TGAIN 1, Reg.OLU.TGAIN 2, Reg.OLU.TGAIN 3,
   Reg.OLU.ACT 0, Reg.OLU.ACT 1, Reg.OLU.ACT 2, Reg.OLU.ACT 3, Reg.OLU.ACT 4, Reg.OLU.ACT 5, Reg.OLU.ACT 6, Reg.OLU.ACT 7,
   Reg.OLU.FE_LIM, Reg.OLU.FE_CFG]

/-- A register as an evaluation took it. -/
def taken (e : OluEval) (off : Nat) : Word :=
  match e.regs.find? (fun r => r.1 = off) with
  | some r => r.2
  | none => 0#32

/-! ## Triggers and inputs -/

/-- An evaluation is abandoned (R270). -/
def oluAbandon (u : Nat) (d : Device) : Device :=
  d |> setOlu u { oluOf d u with run := none, trig := none }
    |> wrB (pgOlu u) Reg.OLU.STAT 4 true |> bump (pgOlu u) Reg.OLU.MISS_CNT |> raise (pgOlu u) 1

/-- The trigger of OLU u: KIND 1, 2 and 3 only (R257). -/
def oluSel (d : Device) (u : Nat) : Option Nat :=
  let s := rdF d (pgOlu u) Reg.OLU.TRIG 0 16
  if (selTimer s).isSome then some s else none

/-- A trigger: an evaluation still running or not yet begun is abandoned, and one is due (R270). From Dusk
until SAFE is left there is none (R588). -/
def oluTrigger (u : Nat) (d : Device) : Device :=
  if ¬ oluOn d u ∨ badFb (oluRd d u Reg.OLU.CFG) ∨ safeByDusk d then d
  else
    let o := oluOf d u
    let d := if o.run.isSome ∨ o.trig.isSome then oluAbandon u d else d
    setOlu u { oluOf d u with trig := some d.time.now } d

def oluTriggers (evs : List Nat) (d : Device) : Device :=
  forEach ((List.range 32).filter (fun u => match oluSel d u with | some s => evs.contains s | none => false)) oluTrigger d

/-- What one input channel supplies: its raw value, whether it is INVALID or missing, whether it is a result used before, and the
mark of the result used. -/
structure OluIn where
  raw : Word
  inv : Bool
  stale : Bool
  mark : Option (Nat × Nat)

/-- OUT_D of an OLU as last committed before tick t (R258, R269). -/
def outBefore (d : Device) (u t : Nat) : Word :=
  match (oluOf d u).outAt with
  | some a => if a < t then oluRd d u Reg.OLU.OUT_D else (oluOf d u).outWas
  | none => oluRd d u Reg.OLU.OUT_D

/-- The input of channel `ch` at trigger tick T (R258, R259, R261). DESIGN CHOICE (log 58). DEDUCED (log 59). -/
def oluInput (d : Device) (u kind src ch t : Nat) : OluIn :=
  match kind with
  | 0 =>
    match (d.filt.get (fun _ => {}) ch).hist.find? (fun o => decide (o.tick + 9 ≤ t)) with
    | some o => ⟨o.y, o.inv, false, none⟩
    | none => ⟨0#32, true, false, none⟩
  | 1 =>
    match latestBefore d src ch t with
    | some r => ⟨wd (r.value * 256), r.inv,
        decide ((oluOf d u).used.find? (src * 256 + ch) = some (r.req.seq.toNat + 1)),
        some (src * 256 + ch, r.req.seq.toNat + 1)⟩
    | none => ⟨0#32, true, false, none⟩
  | 2 => ⟨posSpeed d (src % 32), false, false, none⟩
  | _ => ⟨posRd d (src % 32) Reg.POS.COUNT, false, false, none⟩

/-- The banks are exchanged (R271). -/
def swapBanks (u : Nat) (d : Device) : Device :=
  let old := d
  let d := forEach (List.range 8) (fun i d =>
    d |> wr (pgOlu u) (Reg.OLU.ACT i) (oluRd old u (Reg.OLU.SHD i))
      |> wr (pgOlu u) (Reg.OLU.SHD i) (oluRd old u (Reg.OLU.ACT i))) d
  d |> wrB (pgOlu u) Reg.OLU.BANK 8 (!rdB d (pgOlu u) Reg.OLU.BANK 8)
    |> wrB (pgOlu u) Reg.OLU.BANK 0 false |> raise (pgOlu u) 6

/-- The evaluation of the pending trigger begins: banks, integrator clear, inputs, the angle used, STALE (R258, R261, R265, R269, R271,
R274). DESIGN CHOICE (log 58). -/
def oluStart (u : Nat) (d : Device) : Device :=
  let o := oluOf d u
  match o.trig with
  | none => d
  | some t =>
    let swap := rdB d (pgOlu u) Reg.OLU.BANK 0
    let d := if swap then swapBanks u d else d
    let clr := rdB d (pgOlu u) Reg.OLU.BANK 1
    let cfg := oluRd d u Reg.OLU.CFG
    let bump' := swap && bit cfg 20
    let d := wrB (pgOlu u) Reg.OLU.BANK 1 false d
    let o := oluOf d u
    let o := if clr ∧ ¬ bump' then { o with intD := 0, intQ := 0 } else o
    let fbs := oluRd d u Reg.OLU.FB_SEL
    let src := fld fbs 24 5
    let vec := decide (oluModeOf cfg ≠ 0)
    let a := oluInput d u (fbKindOf cfg) src (fld fbs 0 8) t
    let b := oluInput d u (fbKindOf cfg) src (fld fbs 8 8) t
    let c := oluInput d u (fbKindOf cfg) src (fld fbs 16 8) t
    let cnt := posRd d (fld cfg 24 5) Reg.POS.COUNT
    let theta := if bit cfg 23 then cnt * oluRd d u Reg.OLU.ANG_MUL + oluRd d u Reg.OLU.ANG_OFFS else oluRd d u Reg.OLU.ANG_REG
    let dl := rdF d (pgOlu u) Reg.OLU.TRIG 16 16
    let ins := a :: (if vec then [b, c] else [])
    let marks := ins.filterMap (fun i => i.mark)
    let d := if vec then wr (pgOlu u) Reg.OLU.ANG_USED theta d else d
    let d := if ins.any (fun i => i.stale) then wrB (pgOlu u) Reg.OLU.STAT 6 true d
      else if fbKindOf cfg = 1 ∧ ins.any (fun i => i.mark.isNone) then d
      else wrB (pgOlu u) Reg.OLU.STAT 6 false d
    let ev : OluEval := {
      trig := t, deadline := if dl = 0 then none else some (t + dl)
      fa := a.raw, fb := b.raw, fc := c.raw
      inv := ins.any (fun i => i.inv)
      count := a.raw, theta := theta
      cascade := outBefore d (fld cfg 14 5) t
      regs := oluTaken.map (fun off => (off, oluRd d u off)), swap := swap }
    setOlu u { o with trig := none, run := some ev, used := marks.foldl (fun m k => m.insert k.1 k.2) o.used } d

/-! ## The PI law -/

/-- Limits of a pair, the lower acting as the upper where it lies above it (R284), as Q2.62. -/
def limits (lo hi : Word) : Int × Int := (min (sw lo) (sw hi) * 2 ^ 31, sw hi * 2 ^ 31)

/-- Rounding to frac32 by the codes of RND (R353): 0 towards minus infinity, 1 half up, 2 half even, 3 towards zero. -/
def rndFrac (code : Nat) (v : Int) (den : Nat) : Int :=
  match code with
  | 0 => v / (den : Int)
  | 1 => (2 * v + den) / ((2 * den : Nat) : Int)
  | 2 => roundEven v den
  | _ => if v < 0 then -((-v) / (den : Int)) else v / (den : Int)

/-- One axis after an evaluation: integrator, output in frac32, and the two flags. -/
structure AxisOut where
  integ : Int
  out : Int
  sat : Bool
  osat : Bool

/-- The law of R262 on one axis, with the changes of R272 and R273 at an exchange of banks. -/
def oluAxis (e : OluEval) (ref err : Int) (ffReg : Word) (integ : Int) (prev : Word) : AxisOut :=
  let cfg := taken e Reg.OLU.CFG
  let bank := fun i => taken e (Reg.OLU.ACT i)
  let il := limits (bank 4) (bank 3)
  let ol := limits (bank 6) (bank 5)
  let ff := satI 72 (sw (bank 7) * (if bit cfg 19 then ref else sw ffReg) * 8)
  let p := satI 72 (sw (bank 0) * err * 2 ^ fld (bank 2) 0 4)
  let start := if e.swap then clampI il.1 il.2 integ else integ
  let ic := satI 72 (start + sw (bank 1) * err * 2 ^ fld (bank 2) 8 4)
  let bumpless := e.swap && bit cfg 20
  let want := if bumpless then sw prev * 2 ^ 31 - ff - p else ic
  let icl := clampI il.1 il.2 want
  let u := satI 72 (ff + p + icl)
  let out := clampI ol.1 ol.2 u
  let wind := !bumpless && ((decide (ol.2 < u) && decide (0 < err)) || (decide (u < ol.1) && decide (err < 0)))
  { integ := if wind then start else icl
    out := satI 32 (rndFrac (fld cfg 21 2) out (2 ^ 31))
    sat := decide (icl ≠ want) || (e.swap && !bumpless && decide (start ≠ integ))
    osat := decide (out ≠ u) }

/-- Feedback scaled (R259). DEDUCED (log 59). -/
def oluFb (e : OluEval) (raw : Word) : Int :=
  satI 32 (gainMul raw (taken e Reg.OLU.FB_GAIN) + sw (taken e Reg.OLU.FB_OFFS))

/-- A target's reference goes to its band engine, or is refused (R268). -/
def writeTarget (u t : Nat) (sel v : Word) (d : Device) : Device :=
  let s := fld sel (8 * t) 8
  if s < 128 then d
  else if beRefSrc d (s - 128) = 1 then wr (pgBe (s - 128)) Reg.BE.REF v d
  else d |> wrB (pgOlu u) Reg.OLU.STAT 7 true |> raise (pgOlu u) 5

/-! ## Vector transforms -/

/-- The sine of j / 4096 of a turn, in units of 2^-31, for j up to a quarter: the series in 62 fraction bits, rounded. -/
def sineQuarter (j : Nat) : Nat :=
  let x := j * 14488038916154245685 / 2048
  let x2 := x * x / 2 ^ 62
  let t := (List.range 12).foldl (fun t i => 2 ^ 62 - x2 * t / (2 ^ 62 * ((24 - 2 * i) * (25 - 2 * i)))) (2 ^ 62)
  (x * t / 2 ^ 62 + 2 ^ 30) / 2 ^ 31

/-- Entry k of the table of R266, which covers a turn in 4096 entries. -/
def sineEntry (k : Nat) : Int :=
  match k / 1024 % 4 with
  | 0 => sineQuarter (k % 1024)
  | 1 => sineQuarter (1024 - k % 1024)
  | 2 => -(sineQuarter (k % 1024) : Int)
  | _ => -(sineQuarter (1024 - k % 1024) : Int)

/-- The table's value at an angle, interpolated linearly (R266). -/
def sineLine (th : Word) : Int :=
  let k := fld th 20 12
  let f := fld th 0 20
  roundEven (sineEntry k * (2 ^ 20 - f) + sineEntry (k + 1) * f) (2 ^ 20)

/-- The sine and the cosine of an angle: those of the table, with the units that are left of the 3.0e-7 of full scale that R266 allows, of
which linear interpolation in 4096 entries takes all but 11. DESIGN CHOICE (log 6). -/
def sinOf (th : Word) : Int :=
  clampI (max (-(2 ^ 31)) (sineLine th - 11)) (min (2 ^ 31) (sineLine th + 11)) (Config.sinTheta th)
def cosOf (th : Word) : Int := sinOf (th + 0x40000000#32)

/-- The square root of a number below 2^256, rounded down; bit by bit from the top. -/
def rootFrom : Nat → Nat → Nat → Nat
  | 0, _, r => r
  | k + 1, n, r => rootFrom k n (if (r + 2 ^ k) ^ 2 ≤ n then r + 2 ^ k else r)
def root (n : Nat) : Nat := rootFrom 128 n 0

/-- The largest integer that does not exceed (rat + root3 * sqrt 3) / den. -/
def floorRoot3 (rat root3 : Int) (den : Nat) : Int :=
  let s := root (3 * root3.natAbs ^ 2)
  (rat + (if 0 ≤ root3 then (s : Int) else -(s : Int) - 1)) / (den : Int)

/-- The exact value (rat + root3 * sqrt 3) / den as frac32: saturated, and rounded one way or the other where it is none (R267).
DESIGN CHOICE (log 6). -/
def vecFrac32 (rat root3 : Int) (den : Nat) : Word :=
  let q := floorRoot3 rat root3 den
  wdI (satI 32 (if root3 = 0 ∧ rat % (den : Int) = 0 then q else if Config.vecRoundsUp rat root3 den then q + 1 else q))

/-- What the evaluation gives its four targets (R264, R267). DEDUCED (log 60). -/
def oluTargets (e : OluEval) (outD outQ : Int) : List (Nat × Word) :=
  let cfg := taken e Reg.OLU.CFG
  let tg := fun t => sw (taken e (Reg.OLU.TGAIN t))
  if oluModeOf cfg = 0 then
    (List.range 4).map (fun t => (t, wdI (satI 32 (roundEven (outD * tg t) (2 ^ 28)))))
  else
    let s := sinOf e.theta
    let c := cosOf e.theta
    let z := if oluModeOf cfg = 2 then sw (taken e Reg.OLU.Z_REF) * 2 ^ 31 else 0
    let a := outD * c - outQ * s
    let b := outD * s + outQ * c
    let den := 2 ^ 31 * 2 ^ 28 * 2
    [(0, vecFrac32 (2 * (a + z) * tg 0) 0 den),
     (1, vecFrac32 ((2 * z - a) * tg 1) (b * tg 1) den),
     (2, vecFrac32 ((2 * z - a) * tg 2) (-(b * tg 2)) den)] ++
    (if oluModeOf cfg = 2 then [(3, wdI (satI 32 (roundEven (-3 * sw (taken e Reg.OLU.Z_REF) * tg 3) (2 ^ 28))))] else [])

/-- Errors and references of the axes: ((ref, e) for d, (ref, e) for q); q is idle in SCALAR mode (R260, R262, R264, R267, R269). -/
def oluErrors (e : OluEval) : (Int × Int) × (Int × Int) :=
  let cfg := taken e Reg.OLU.CFG
  let casc := bit cfg 13
  let refD := taken e Reg.OLU.REF_D
  if oluModeOf cfg = 0 then
    let r := if casc then e.cascade else refD
    if fbKindOf cfg = 3 then
      ((sw r, satI 32 (gainMul (r - e.count) (taken e Reg.OLU.FB_GAIN))), (0, 0))
    else ((sw r, satI 32 (sw r - oluFb e e.fa)), (0, 0))
  else
    let fa := oluFb e e.fa
    let fb := oluFb e e.fb
    let fc := oluFb e e.fc
    let s := sinOf e.theta
    let c := cosOf e.theta
    let al := 2 * fa - fb - fc
    let be := fb - fc
    let fd := sw (vecFrac32 (al * c) (be * s) (3 * 2 ^ 31))
    let fq := sw (vecFrac32 (-(al * s)) (be * c) (3 * 2 ^ 31))
    let rq := if casc then e.cascade else taken e Reg.OLU.REF_Q
    ((sw refD, satI 32 (sw refD - fd)), (sw rq, satI 32 (sw rq - fq)))

/-- The following error of an evaluation (R277): the larger magnitude, with -1.0 taken as 0x7FFFFFFF. -/
def followErr (ed eq : Int) : Nat := min 0x7FFFFFFF (max ed.natAbs eq.natAbs)

/-- The following-error limit tests a committed evaluation (R277, R278). -/
def feTest (u : Nat) (e : OluEval) (fe : Nat) (d : Device) : Device :=
  let d := if (oluRd d u Reg.OLU.FE_PEAK).toNat < fe then wr (pgOlu u) Reg.OLU.FE_PEAK (wd fe) d else d
  let o := oluOf d u
  let cfg := taken e Reg.OLU.FE_CFG
  if fe ≤ (taken e Reg.OLU.FE_LIM).toNat then setOlu u { o with feRun := none } d
  else match o.feRun with
    | none => setOlu u { o with feRun := some e.trig } d
    | some t0 =>
      if t0 + fld cfg 0 24 < e.trig then
        setOlu u { o with feRun := none } d |> wrB (pgOlu u) Reg.OLU.STAT 9 true |> raise (pgOlu u) 4
          |> flashZones (fld cfg 24 8) 4 u
      else d

/-- The evaluation commits, all or nothing (R261 to R268). DEDUCED (log 60). -/
def oluCommit (u : Nat) (d : Device) : Device :=
  let o := oluOf d u
  match o.run with
  | none => d
  | some e =>
    let d := setOlu u { o with run := none } d
    if e.inv then d |> wrB (pgOlu u) Reg.OLU.STAT 5 true |> raise (pgOlu u) 2
    else
      let vec := decide (oluModeOf (taken e Reg.OLU.CFG) ≠ 0)
      let er := oluErrors e
      let ax := oluAxis e er.1.1 er.1.2 (taken e Reg.OLU.FF_D) o.intD (oluRd d u Reg.OLU.OUT_D)
      let aq := oluAxis e er.2.1 er.2.2 (taken e Reg.OLU.FF_Q) o.intQ (oluRd d u Reg.OLU.OUT_Q)
      let was := rdF d (pgOlu u) Reg.OLU.STAT 0 2
      let now := b2n ax.sat + 2 * b2n (vec && aq.sat)
      let d := setOlu u { oluOf d u with
        intD := ax.integ, intQ := if vec then aq.integ else o.intQ
        outAt := some d.time.now, outWas := outBefore d u d.time.now } d
      let d := d |> wr (pgOlu u) Reg.OLU.OUT_D (wdI ax.out) |> wr (pgOlu u) Reg.OLU.ERR_D (wdI er.1.2)
      let d := if vec then d |> wr (pgOlu u) Reg.OLU.OUT_Q (wdI aq.out) |> wr (pgOlu u) Reg.OLU.ERR_Q (wdI er.2.2)
        else d
      let d := d |> wrF (pgOlu u) Reg.OLU.STAT 0 2 now |> wrB (pgOlu u) Reg.OLU.STAT 2 ax.osat
        |> wrB (pgOlu u) Reg.OLU.STAT 3 (vec && aq.osat) |> bump (pgOlu u) Reg.OLU.EVAL_CNT
      let d := forEach (oluTargets e ax.out aq.out) (fun x => writeTarget u x.1 (taken e Reg.OLU.TGT_SEL) x.2) d
      let rises := (decide (now % 2 = 1) && decide (was % 2 = 0)) || (decide (2 ≤ now) && decide (was < 2))
      d |> raise (pgOlu u) 0 |> raiseIf rises (pgOlu u) 3 |> feTest u e (followErr er.1.2 er.2.2)

/-- STAT of an OLU page (R284). -/
def oluStat (d : Device) (u : Nat) : Word := oluRd d u Reg.OLU.STAT ||| wd (2 ^ 8 * b2n (oluOf d u).feRun.isSome)

end Sys2Proof.Machine
end

