-- ==== Sys2Proof/Machine/SampleOps.lean ====
section
/-! DEFINITION. Samples: modulator slices and their rotation (spec/05), fast-path outputs and comparators (spec/06, R205 to R215),
and the conversions of the precision filter engines (R216 to R231). -/

namespace Sys2Proof.Machine

/-! ## Slices -/

def modOf (d : Device) (q : Nat) : ModGroup := d.modg.get (fun _ => {}) q
def setMod (q : Nat) (m : ModGroup) (d : Device) : Device := { d with modg := d.modg.set (fun _ => {}) q m }

def mgRd (d : Device) (q off : Nat) : Word := rd d (pgModg q) off

/-- The local slice that serves channel c of group q (MAP), and the spare. -/
def sliceOf (d : Device) (q c : Nat) : Nat := rdF d (pgModg q) (Reg.MODG.MAP c) 0 4
/-- DEDUCED (log 50). -/
def spareOf (d : Device) (q : Nat) : Nat := rdF d (pgModg q) Reg.MODG.STAT 8 4
def chanDead (d : Device) (q c : Nat) : Bool := rdB d (pgModg q) Reg.MODG.STAT (16 + c)
def noSpare (d : Device) (q : Nat) : Bool := rdB d (pgModg q) Reg.MODG.STAT 12

/-! ## Modulator clocks (R197) -/

def mclkOf (d : Device) (m : Nat) : MClk := d.mclk.get (fun _ => {}) m
def setMclk (m : Nat) (x : MClk) (d : Device) : Device := { d with mclk := d.mclk.set (fun _ => {}) m x }

/-- The divider of a setting, 0 where the clock is off; its phase. -/
def mclkDiv (w : Word) : Nat :=
  match fld w 0 2 with
  | 0 => 0 | 1 => 32 | 2 => 64 | _ => 128
def mclkPhase (w : Word) : Nat := fld w 8 7

/-- Ticks from time line t to the next rising edge of a setting, 0 where one falls at t. -/
def mclkAway (w : Word) (t : Nat) : Nat := (mclkPhase w + 128 * mclkDiv w - t % max 1 (mclkDiv w)) % max 1 (mclkDiv w)

/-- The clocks of XBS run: EN (R204), power, and the time line, which stands in SLEEP and RETAIN and until make-up. -/
def mclkRuns (d : Device) : Bool := enabled d pgXbs && domainOn d pgXbs && tlRuns d

/-- The tick at which the period that runs is whole; now where none runs. -/
def mclkWhole (d : Device) (x : MClk) : Nat :=
  match x.edge with
  | some e => max d.time.now (e + mclkDiv x.cfg)
  | none => d.time.now

/-- One clock at a tick: a new setting takes effect at its first rising edge at which no period of the old one runs, and until then the
old one makes only the periods that are whole by then, so that no phase is shortened. DEDUCED (log 140). -/
def mclkStep (d : Device) (x : MClk) : MClk :=
  let t := d.time.tl.toNat
  let edge := decide (mclkDiv x.cfg ≠ 0) && decide (mclkAway x.cfg t = 0)
  if ¬ mclkRuns d then { x with edge := none }
  else match x.pend with
    | none => if edge then { x with edge := some d.time.now } else x
    | some w =>
      if mclkDiv w = 0 then (if mclkDiv x.cfg = 0 ∨ edge then { cfg := w } else x)
      else if mclkAway w t = 0 ∧ mclkWhole d x = d.time.now then { cfg := w, edge := some d.time.now }
      else if edge ∧ mclkDiv x.cfg ≤ mclkAway w t then { x with edge := some d.time.now }
      else x

/-- The level of MCLKm: high for half a period from each rising edge, low while the clocks do not run. -/
def mclkLevel (d : Device) (m : Nat) : Bool :=
  mclkRuns d && (match (mclkOf d m).edge with
    | some e => decide (d.time.now - e < mclkDiv (mclkOf d m).cfg / 2)
    | none => false)

/-- The next rising edge of MCLKm at or after now, in elapsed ticks. DEDUCED (log 140). -/
def mclkNext (d : Device) (m : Nat) : Nat :=
  let x := mclkOf d m
  let t := d.time.tl.toNat
  let old := mclkAway x.cfg t
  match x.pend with
  | none => d.time.now + old
  | some w =>
    let whole := mclkWhole d x
    let new := whole - d.time.now + mclkAway w (t + (whole - d.time.now))
    d.time.now + (if mclkDiv x.cfg ≠ 0 ∧ (mclkDiv w = 0 ∨ old + mclkDiv x.cfg ≤ new) then old else new)

/-- The clock output of an XBS input, its divider, phase and the input's delay (R197, R198). -/
def xbsClk (d : Device) (x : Nat) : Nat := rdF d pgXbs (Reg.XBS.XCFG x) 4 4
def xbsDiv (d : Device) (x : Nat) : Nat := mclkDiv (mclkOf d (xbsClk d x)).cfg
def xbsPhase (d : Device) (x : Nat) : Nat := mclkPhase (mclkOf d (xbsClk d x)).cfg % max 1 (xbsDiv d x)
def xbsDly (d : Device) (x : Nat) : Nat := min (rdF d pgXbs (Reg.XBS.XCFG x) 8 5) (xbsDiv d x - 1)

/-- The channel-invalid conditions of R205 other than restart. -/
def channelInvalid (d : Device) (ch : Nat) : Bool :=
  if ch < 96 then
    (modOf d (ch / 12)).initAt.isSome || (modOf d (ch / 12)).needInit || chanDead d (ch / 12) (ch % 12) ||
      !domainOn d (pgModg (ch / 12)) || d.sys.dawn.isSome
  else
    !enabled d pgXbs || !domainOn d pgXbs || !rdB d pgXbs (Reg.XBS.XCFG (ch - 96)) 0 || decide (xbsDiv d (ch - 96) = 0)

/-- A tick at which an XBS bit enters: DLY ticks after a rising edge (R198). -/
def xbsBit (d : Device) (x : Nat) : Bool := decide ((mclkOf d (xbsClk d x)).edge.map (fun e => e + xbsDly d x) = some d.time.now)

/-- The tick, now or later, at which the next XBS bit enters. -/
def xbsNextBit (d : Device) (x : Nat) : Nat :=
  match (mclkOf d (xbsClk d x)).edge with
  | some e => if d.time.now ≤ e + xbsDly d x then e + xbsDly d x else mclkNext d (xbsClk d x) + xbsDly d x
  | none => mclkNext d (xbsClk d x) + xbsDly d x

/-- The coefficients of a slice. -/
def sliceCoefs (d : Device) (q s : Nat) : Word × Word := (mgRd d q (Reg.MODG.OFFS s), mgRd d q (Reg.MODG.GAIN s))

/-- The slice whose bits made a channel's output of this tick, with its coefficients: at a switch boundary the old one (R183). -/
def outputSlice (d : Device) (ch : Nat) : Nat × Word × Word :=
  let q := ch / 12
  let s := sliceOf d q (ch % 12)
  match (modOf d q).last with
  | some l => if l.1 = d.time.now ∧ l.2.1 = ch % 12 then l.2.2 else (s, sliceCoefs d q s)
  | none => (s, sliceCoefs d q s)

/-- The coefficients that apply to a channel's output now (R175, R183, R199). -/
def xbsCoefs (d : Device) (x : Nat) : Word × Word := (rd d pgXbs (Reg.XBS.XOFFS x), rd d pgXbs (Reg.XBS.XGAIN x))
def coefsOf (d : Device) (ch : Nat) : Word × Word := if ch < 96 then (outputSlice d ch).2 else xbsCoefs d (ch - 96)

/-- What a filter makes of an XBS input's bits where it is inverted (R198): the filters are linear in the bits. DESIGN CHOICE (log 128). -/
def xbsValue (d : Device) (ch : Nat) (v : Word) : Word :=
  if 96 ≤ ch ∧ rdB d pgXbs (Reg.XBS.XCFG (ch - 96)) 1 then wdI (satI 32 (-(sw v))) else v

/-- The corrected value of R175. -/
def corrected (x offs gain : Word) : Word := wdI (satI 32 (roundEven ((sw x - sw offs) * gain.toNat) (2 ^ 30)))

/-- A slice is held at full scale, and of which sign; the same for a channel's output of this tick (R174). -/
def sliceFull (d : Device) (q s : Nat) : Option Bool := ((modOf d q).full.find? (fun e => decide (e.1 = s))).map (fun e => e.2)
def fullScale (d : Device) (ch : Nat) : Option Bool := if ch < 96 then sliceFull d (ch / 12) (outputSlice d ch).1 else none

/-- A value that a slice delivers: at full scale while it is held there, corrected otherwise (R174, R175). -/
def delivered (x : Word) (offs gain : Word) (full : Option Bool) : Word :=
  match full with
  | some true => 0x7FFFFFFF#32
  | some false => 0x80000000#32
  | none => corrected x offs gain

/-! ## Rotation -/

/-- STEP_PER with its lower limit (R201). -/
def stepPer (d : Device) (q : Nat) : Nat := max 0x0010A000 (mgRd d q Reg.MODG.STEP_PER).toNat
def pinned (d : Device) (q c : Nat) : Bool := rdB d (pgModg q) Reg.MODG.PIN c
def allPinned (d : Device) (q : Nat) : Bool := (List.range 12).all (pinned d q)

/-- The next target (R179): the next channel in ascending order modulo 12 that is not pinned; after a cancelled step the same channel,
unless it is pinned (R190). -/
def nextTarget (d : Device) (q : Nat) : Option Nat :=
  let start := match (modOf d q).prevTarget with
    | some t => if (modOf d q).retry then t else t + 1
    | none => 0
  ((List.range 12).map (fun i => (start + i) % 12)).find? (fun c => !pinned d q c)

/-- GAIN of a calibration (R181): 5/3 divided by P - N, in Q2.30 rounded half even; 0 where P does not exceed N. DEDUCED (log 51). -/
def calGain (c : Cal) : Nat :=
  let pn := sw c.p - sw c.n
  if pn ≤ 0 then 0 else (roundEven (5 * 2 ^ 61) (3 * pn.toNat)).toNat

/-- The limits of R181; an overload during the measurement fails them, in INIT too (R177). DEDUCED (log 51). -/
def calPasses (lim : Word) (c : Cal) : Bool :=
  let g := calGain c
  decide ((sw c.z).natAbs * 100 ≤ 2 ^ 31) && decide (98 * 2 ^ 30 ≤ g * 100) && decide (g * 100 ≤ 102 * 2 ^ 30) &&
    decide (((sw c.m - sw c.z) * g * 12 - 5 * 2 ^ 61).natAbs ≤ sw lim * 2 ^ 30 * 12) && !c.ovld

/-- A step ends without a switch (R190): cause 0 CHECK, 1 OVLD, 2 REF, 3 ABORT. The next step has the same target. -/
def cancelStep (q cause : Nat) (d : Device) : Device :=
  match (modOf d q).rot with
  | none => d
  | some r =>
    d |> setMod q { modOf d q with rot := none, prevTarget := some r.target, retry := true }
      |> bump (pgModg q) Reg.MODG.FAIL_CNT |> wrF (pgModg q) Reg.MODG.STAT 14 2 cause |> raise (pgModg q) 1

/-- The spare is retired (R191). -/
def retire (q s : Nat) (d : Device) : Device :=
  d |> wrB (pgModg q) Reg.MODG.SLICE_BAD s true |> wrB (pgModg q) Reg.MODG.STAT 12 true |> raise (pgModg q) 2

/-- A step can start now (R173, R178, R179, R185, R191, R193, R196). -/
def stepReady (d : Device) (q : Nat) : Bool :=
  let m := modOf d q
  enabled d (pgModg q) && domainOn d (pgModg q) && !rdB d (pgModg q) Reg.MODG.CTL 1 && rdB d (pgModg q) Reg.MODG.REF_STAT 0 &&
    d.sys.dawn.isNone && !noSpare d q && !allPinned d q && !m.needInit && m.initAt.isNone && m.rot.isNone && m.held.isNone &&
    decide (m.nextOrigin ≤ d.time.now) && decide ((d.time.now - m.nextOrigin) % stepPer d q = 0)

/-- A step origin (R179, R180): what the calibration and handover filters will deliver comes with the command. The next origin is
fixed here, by the STEP_PER of this tick. DESIGN CHOICE (log 128). DEDUCED (log 148). -/
def stepStart (q : Nat) (cal : Cal) (ho : List Word) (chMean : Word) (ovld : Bool) (d : Device) : Device :=
  match nextTarget d q with
  | none => d
  | some t =>
    wrF (pgModg q) Reg.MODG.STAT 4 4 t
      (setMod q { modOf d q with
        rot := some { origin := d.time.now, target := t, cal := cal, ho := ho, chMean := chMean, ovld := ovld }
        nextOrigin := d.time.now + stepPer d q } d)

/-- The handover check (R182): the mean of the handover filter's outputs, corrected with the new coefficients, against that of the
channel's corrected outputs, as exact fractions. -/
def handoverClose (tol : Word) (r : Rotation) : Bool :=
  let ho := r.ho.map (fun x => sw (corrected x r.cal.z (wd (calGain r.cal))))
  let ch := if r.outs = [] then [sw r.chMean] else r.outs.map sw
  let sum (xs : List Int) : Int := xs.foldl (· + ·) 0
  let n : Int := (max 1 ho.length : Nat)
  decide ((sum ho * ch.length - sum ch * n).natAbs ≤ sw tol * ch.length * n)

/-- The instants of a step that no command marks: at CONNECT the coefficients are computed, and a slice whose overload is not over yet
counts as overloaded; at CHECK the means are compared (R180 to R182). DESIGN CHOICE (log 49). DEDUCED (log 148). -/
def rotationTick (q : Nat) (d : Device) : Device :=
  match (modOf d q).rot with
  | none => d
  | some r =>
    if d.time.now = r.origin + 1064960 then
      if r.cal.ovld then cancelStep q 1 d
      else if calPasses (mgRd d q Reg.MODG.LIN_LIM) r.cal then
        let still := (sliceFull d q (spareOf d q)).isSome || (sliceFull d q (sliceOf d q r.target)).isSome
        setMod q { modOf d q with rot := some { r with connected := true, ovld := r.ovld || still } } d
      else retire q (spareOf d q) (setMod q { modOf d q with rot := none, prevTarget := some r.target, retry := false } d)
    else if d.time.now = r.origin + 1085440 then
      if r.ovld then cancelStep q 1 d
      else if handoverClose (mgRd d q Reg.MODG.HO_TOL) r then
        setMod q { modOf d q with rot := some { r with passed := true } } d
      else cancelStep q 0 d
    else d

/-- Fast-path ratio of a channel, with the codes it may not have acting as 3 (R206). -/
def fastRatio (d : Device) (ch : Nat) : Nat :=
  let c := rdF d (pgFf (ch / 16)) (Reg.FF.CFG (ch % 16)) 0 3
  8 * 2 ^ (if (if ch < 96 then 3 else 5) < c then 3 else c)

/-- The present tick is an output boundary of the channel (R207). -/
def fastBoundary (d : Device) (ch : Nat) : Bool :=
  if ch < 96 then decide (d.time.tl.toNat % fastRatio d ch = 0)
  else
    let x := ch - 96
    xbsBit d x && decide ((d.time.tl.toNat + 2 ^ 64 - xbsDly d x - xbsPhase d x) % (xbsDiv d x * fastRatio d ch) = 0)

/-- A precision conversion runs on a channel's slice (R185). -/
def sliceBusy (d : Device) (ch s : Nat) : Bool :=
  (List.range 24).any (fun p => match (pfeOf d p).run with
    | some r => decide (r.req.chan = ch) && decide (r.slice = some s)
    | none => false)

/-- The old slice of a handover becomes the spare (R185); a step origin that fell meanwhile, this tick included, starts from here and is a
slip. DEDUCED (log 148). -/
def releaseSlice (q : Nat) (d : Device) : Device :=
  let m := modOf d q
  match m.held with
  | none => d
  | some h =>
    let d := wrF (pgModg q) Reg.MODG.STAT 8 4 h.2 (setMod q { m with held := none } d)
    let due := setMod q { modOf d q with nextOrigin := d.time.now } d
    if m.nextOrigin ≤ d.time.now ∧ stepReady due q then due |> bump (pgModg q) Reg.MODG.SLIP_CNT |> raise (pgModg q) 3 else d

/-- The handover switch can take place: the check has passed and the target's output boundary has come (R180). -/
def switchReady (d : Device) (q : Nat) : Bool :=
  match (modOf d q).rot with
  | some r => r.passed && decide (r.origin + 1085440 < d.time.now) && fastBoundary d (12 * q + r.target)
  | none => false

/-- A channel's slice is in overload (R174): OVLD bit c and its cause. -/
def servedOverload (q c : Nat) (d : Device) : Device := d |> wrB (pgModg q) Reg.MODG.OVLD c true |> raise (pgModg q) (8 + c)

/-- The handover switch (R183, R189): the target's coefficients and slice change; the old slice is held while a conversion reads
it; a slice whose overload is not over takes it to the channel (R174). A pinned target ends the step without a switch. DEDUCED (log 50). -/
def handover (q : Nat) (d : Device) : Device :=
  match (modOf d q).rot with
  | none => d
  | some r =>
    if pinned d q r.target then setMod q { modOf d q with rot := none, prevTarget := some r.target, retry := false } d
    else
      let old := sliceOf d q r.target
      let new := spareOf d q
      let d := d
        |> setMod q { modOf d q with
            rot := none, prevTarget := some r.target, retry := false
            last := some (d.time.now, r.target, old, mgRd d q (Reg.MODG.OFFS old), mgRd d q (Reg.MODG.GAIN old))
            held := some (r.target, old), calAt := (modOf d q).calAt.insert new (r.origin + 1064960 + 1) }
        |> wr (pgModg q) (Reg.MODG.OFFS new) r.cal.z |> wr (pgModg q) (Reg.MODG.GAIN new) (wd (calGain r.cal))
        |> wrF (pgModg q) (Reg.MODG.MAP r.target) 0 4 new
        |> bump (pgModg q) Reg.MODG.HO_CNT |> raise (pgModg q) 0
        |> doIf (sliceFull d q new).isSome (servedOverload q r.target)
      if sliceBusy d (12 * q + r.target) old then d else releaseSlice q d

/-- The running conversions on the channels that satisfy a condition carry INVALID (R205, R217). -/
def invRuns (f : Nat → Bool) (d : Device) : Device :=
  forEach (List.range 24) (fun p d => match (pfeOf d p).run with
    | some r => if f r.req.chan then setPfe p { pfeOf d p with run := some { r with inv := true } } d else d
    | none => d) d

/-- The channels of group q. -/
def inGroup (q ch : Nat) : Bool := decide (ch < 96) && decide (ch / 12 = q)

/-- What applies to the outputs of a running conversion now, recorded where it has changed (R174 to R176, R199). -/
def markRun (d : Device) (x : PfeRun) : PfeRun :=
  let c := match x.slice with
    | some s => sliceCoefs d (x.req.chan / 12) s
    | none => xbsCoefs d (x.req.chan - 96)
  let m : RunMark := {
    at_ := d.time.now, offs := c.1, gain := c.2, full := x.slice.bind (fun s => sliceFull d (x.req.chan / 12) s) }
  if x.marks.head?.map (fun h => { h with at_ := m.at_ }) = some m then x else { x with marks := m :: x.marks }
def markRuns (d : Device) : Device :=
  forEach (List.range 24) (fun p d => match (pfeOf d p).run with
    | some x => setPfe p { pfeOf d p with run := some (markRun d x) } d
    | none => d) d

/-- INIT begins (R177): no slice is connected to a channel any more, and the running conversions of the group carry INVALID. -/
def initBegin (q : Nat) (d : Device) : Device :=
  invRuns (inGroup q) (setMod q { modOf d q with initAt := some d.time.now, held := none } (wrB (pgModg q) Reg.MODG.CTL 3 true d))

/-- No handover of group q keeps its old slice any longer: all slices are to be calibrated (R177, R600). -/
def dropHeld (q : Nat) (d : Device) : Device := setMod q { modOf d q with held := none } d

/-- Good slices take the channels in ascending order; the rest of the channels are dead (R177, R192). -/
def placeSlices (q : Nat) (d : Device) : Device :=
  let bad := mgRd d q Reg.MODG.SLICE_BAD
  let good := (List.range 13).filter (fun s => !bit bad s)
  let d := forEach (List.range 12) (fun c d => match good[c]? with
    | some s => d |> wrF (pgModg q) (Reg.MODG.MAP c) 0 4 s |> wrB (pgModg q) Reg.MODG.STAT (16 + c) false
    | none => wrB (pgModg q) Reg.MODG.STAT (16 + c) true d) d
  match good[12]? with
  | some s => d |> wrF (pgModg q) Reg.MODG.STAT 8 4 s |> wrB (pgModg q) Reg.MODG.STAT 12 false
  | none => wrB (pgModg q) Reg.MODG.STAT 12 true d

/-- INIT ends (R177): each slice takes its coefficients or is retired, and the good ones are placed. DEDUCED (log 51). DESIGN CHOICE (log 52). -/
def initEnd (q : Nat) (cals : List Cal) (d : Device) : Device :=
  let lim := mgRd d q Reg.MODG.LIN_LIM
  let d := forEach (cals.zipIdx.filter (fun e => decide (e.2 < 13))) (fun e d =>
    if calPasses lim e.1 then
      d |> wr (pgModg q) (Reg.MODG.OFFS e.2) e.1.z |> wr (pgModg q) (Reg.MODG.GAIN e.2) (wd (calGain e.1))
        |> fun d => setMod q { modOf d q with calAt := (modOf d q).calAt.insert e.2 (d.time.now + 1) } d
    else retire q e.2 d) d
  let d := placeSlices q d
  d |> setMod q { modOf d q with initAt := none, needInit := false }
    |> wrB (pgModg q) Reg.MODG.CTL 3 false |> wrB (pgModg q) Reg.MODG.STAT 13 true |> raise (pgModg q) 5

/-- A slice's overload begins (R174, R190). -/
def overload (q s : Nat) (pos : Bool) (d : Device) : Device :=
  let m := modOf d q
  let d := setMod q { m with full := (s, pos) :: m.full.filter (fun e => e.1 ≠ s) } d
  let d := forEach ((List.range 12).filter (fun c => decide (sliceOf d q c = s) && !chanDead d q c)) (servedOverload q) d
  let d := forEach (List.range 24) (fun p d => match (pfeOf d p).run with
    | some r => if inGroup q r.req.chan ∧ r.slice = some s then
        setPfe p { pfeOf d p with run := some (markRun d { r with ovl := true }) } d else d
    | none => d) d
  match (modOf d q).rot with
  | none => d
  | some r =>
    if r.connected then
      if s = spareOf d q ∨ s = sliceOf d q r.target then setMod q { modOf d q with rot := some { r with ovld := true } } d else d
    else if s = spareOf d q then cancelStep q 1 d else d

/-- A PIN bit of the present target ends the step without its switch (R189). DEDUCED (log 50). -/
def pinStep (q : Nat) (d : Device) : Device :=
  match (modOf d q).rot with
  | some r => if pinned d q r.target then
      setMod q { modOf d q with rot := none, prevTarget := some r.target, retry := false } d else d
  | none => d

/-- STAT of a MODG page (R201, R202): the live fields over the stored ones. -/
def mgStat (d : Device) (q : Nat) : Word :=
  let m := modOf d q
  let phase := match m.rot with
    | some r =>
      let t := d.time.now - r.origin
      if t < 16384 then 0 else if t < 278528 then 1 else if t < 540672 then 2 else if t < 802816 then 3
      else if t < 1064960 then 4 else if t < 1081344 then 5 else if t < 1085440 then 6 else if r.passed then 8 else 7
    | none => if m.held.isSome then 9 else 15
  let w := setFld (mgRd d q Reg.MODG.STAT) 0 4 phase
  w ||| wd (2 ^ 30 * b2n (allPinned d q) + 2 ^ 29 * b2n m.held.isSome +
    2 ^ 28 * b2n (rdB d (pgModg q) Reg.MODG.CTL 1 && m.rot.isNone))

/-- MAP of a channel with its AGE (R201), in elapsed ticks, which stand in SLEEP (R188). DEDUCED (log 148). -/
def mgMap (d : Device) (q c : Nat) : Word :=
  let age := match (modOf d q).calAt.find? (sliceOf d q c) with
    | some t => min 0xFFFF ((d.time.now + 1 - t) / 65536)
    | none => 0xFFFF
  wd (age * 2 ^ 16 + sliceOf d q c)

/-! ## Fast-path outputs -/

def filtOf (d : Device) (ch : Nat) : Filt := d.filt.get (fun _ => {}) ch
def setFilt (ch : Nat) (f : Filt) (d : Device) : Device := { d with filt := d.filt.set (fun _ => {}) ch f }

/-- The filter runs (R208). -/
def fastOn (d : Device) (ch : Nat) : Bool :=
  enabled d (pgFf (ch / 16)) && domainOn d (pgFf (ch / 16)) && rdB d (pgFf (ch / 16)) (Reg.FF.CFG (ch % 16)) 8

/-- The comparators' settings of a channel. -/
def cmpCfg (d : Device) (ch : Nat) : Word := rd d (pgFf (ch / 16)) (Reg.FF.CMP_CFG (ch % 16))

/-- One comparator's running count and state after a valid output (R212): `up` and `dn` are the conditions to assert and to
deassert. -/
def cmpRun (cnt : Nat) (up dn st : Bool) (run : Nat) : Nat × Bool :=
  if (if st then dn else up) then (if cnt ≤ run + 1 then (0, !st) else (run + 1, st)) else (0, st)

/-- The comparators take a valid output (R212, R215); answers the sides that assert now. -/
def comparators (ch : Nat) (y : Word) (d : Device) : Device × Bool × Bool :=
  let pg := pgFf (ch / 16)
  let j := ch % 16
  let cfg := cmpCfg d ch
  let cnt := max 1 (fld cfg 8 8)
  let hys : Int := rdF d pg (Reg.FF.HYS j) 0 31
  let th := sw (rd d pg (Reg.FF.THR_HI j))
  let tl := sw (rd d pg (Reg.FF.THR_LO j))
  let f := filtOf d ch
  let v := sw y
  let h := if bit cfg 0 then cmpRun cnt (decide (th < v)) (decide (v < max (th - hys) (-(2 ^ 31)))) f.hi f.hiRun else (0, false)
  let l := if bit cfg 1 then cmpRun cnt (decide (v < tl)) (decide (min (tl + hys) (2 ^ 31) < v)) f.lo f.loRun else (0, false)
  let d := setFilt ch { f with hi := h.2, hiRun := h.1, lo := l.2, loRun := l.1 } d
  (d, h.2 && !f.hi, l.2 && !f.lo)

/-- A comparator has asserted (R215): SEEN, the cause, the zones it feeds. -/
def cmpAssert (ch : Nat) (lo : Bool) (d : Device) : Device :=
  let pg := pgFf (ch / 16)
  let j := ch % 16
  d |> wrB pg (Reg.FF.CMP_STAT j) (if lo then 3 else 2) true
    |> raise pg (if lo then 16 + j else j)
    |> tripZones (fld (cmpCfg d ch) (if lo then 24 else 16) 8) 2 (2 * ch + b2n lo)

/-- The word of SMP (R210). -/
def smpWord (y : Word) (inv ovld : Bool) (seq : Nat) : Word :=
  wd (wrapN 24 (satI 24 (roundEven (sw y) 256)) * 256 + 128 * b2n inv + 64 * b2n ovld + seq % 64)

/-- The output of a filter with raw value x at this boundary (R174, R175, R205, R208). -/
def fastValue (d : Device) (ch : Nat) (x : Word) : FastOut × Bool :=
  let inv := channelInvalid d ch || decide (0 < (filtOf d ch).restart)
  let full := fullScale d ch
  let c := coefsOf d ch
  let y := if inv then 0#32 else delivered (xbsValue d ch x) c.1 c.2 full
  ({ tick := d.time.now, y := y, inv := inv }, full.isSome)

/-- The event of a channel's sample (R211, R562 class 3). -/
def fsmp (ch seq : Nat) (d : Device) : Device :=
  if rdB d (pgFf (ch / 16)) (Reg.FF.CFG (ch % 16)) 9 then
    request { source := 512 + ch, code := 0x3000 + seq % 64, stamp := stampNow d } d
  else d

/-- The handover check collects a channel's output whose window lies in the last 2048 ticks of the overlap (R182, R207). -/
def rotationSees (ch : Nat) (o : FastOut) (d : Device) : Device :=
  let q := ch / 12
  match (modOf d q).rot with
  | some r =>
    if ch < 96 ∧ ch % 12 = r.target ∧ ¬ o.inv ∧ r.origin + 1083392 + 3 * fastRatio d ch ≤ d.time.now + 3 ∧ d.time.now < r.origin + 1085440 then
      setMod q { modOf d q with rot := some { r with outs := r.outs ++ [o.y] } } d
    else d
  | none => d

/-- The output is written to SMP, raises FSMP, reaches the comparators and the band engines (R209 to R213, R240). -/
def fastDeliver (ch : Nat) (o : FastOut) (ovld : Bool) (d : Device) : Device :=
  let pg := pgFf (ch / 16)
  let seq := rdF d pg (Reg.FF.SMP (ch % 16)) 0 6 + 1
  let f := filtOf d ch
  let d := d |> setFilt ch { f with restart := f.restart - 1, hist := (o :: f.hist).take 4 }
    |> wr pg (Reg.FF.SMP (ch % 16)) (smpWord o.y o.inv ovld seq) |> fsmp ch seq
  let d := rotationSees ch o d
  let d := if o.inv then d
    else
      let r := comparators ch o.y d
      r.1 |> doIf r.2.1 (cmpAssert ch false) |> doIf r.2.2 (cmpAssert ch true)
  forEach (bandsOn d ch) (fun n d => bandOutput n o d) d

/-- A channel's filter stops (R208, R249): SMP empty, comparators deasserted, its band engines fall to OFF. -/
def fastStop (ch : Nat) (d : Device) : Device :=
  let d := d |> setFilt ch {} |> wr (pgFf (ch / 16)) (Reg.FF.SMP (ch % 16)) 0x80#32
  forEach (bandsOn d ch) bandFall d

/-- A channel's filter is to restart, at the first boundary of its setting (R208). -/
def fastRestart (ch : Nat) (d : Device) : Device := setFilt ch { filtOf d ch with pend := true } d

/-- The filters that wait for their boundary restart where it falls at the present tick (R208, R249): two outputs carry INVALID, and the
band engines fall to OFF. -/
def restartTick (d : Device) : Device :=
  forEach ((List.range 160).filter (fun ch => (filtOf d ch).pend && fastOn d ch && tlRuns d && fastBoundary d ch)) (fun ch d =>
    forEach (bandsOn d ch) bandFall (setFilt ch { filtOf d ch with pend := false, restart := 2 } d)) d

/-! ## Conversions -/

/-- The tick of bit k of a window, from 0 (R216). -/
def bitTick (x : PfeRun) (k : Nat) : Nat :=
  match x.segs.find? (fun g => decide (g.before ≤ k)) with
  | some g => g.first + (k - g.before) * g.step
  | none => x.w

/-- The tick at which a window ends (R216). -/
def runEnd (x : PfeRun) : Nat := bitTick x x.len

/-- What applied to an output made at a tick. -/
def markAt (x : PfeRun) (t : Nat) : RunMark :=
  match x.marks.find? (fun m => decide (m.at_ ≤ t)) with
  | some m => m
  | none => { at_ := 0, offs := 0#32, gain := 0x40000000#32, full := none }

/-- The corrected outputs of a window (R174 to R176, R217): output i is made when (6 + i) N + 64 bits have been taken. -/
def runOutputs (outs : List Word) (x : PfeRun) : List Word :=
  outs.zipIdx.map (fun e =>
    let m := markAt x (bitTick x ((6 + e.2) * pfeRatio x.req.osr + 64))
    delivered e.1 m.offs m.gain m.full)

/-- The request starts (R216, R223, R227): its window begins now, on the channel's slice, or with the next bit of an XBS channel; one
without bits ends at once. -/
def convBegin (p : Nat) (r : PfeReq) (late : Bool) (d : Device) : Device :=
  let e := pfeOf d p
  let xbs := decide (96 ≤ r.chan)
  let inv := channelInvalid d r.chan
  let d := raiseIf late (pgPfe p) 4 d
  if xbs ∧ inv then
    setPfe p { e with run := none, finished := e.finished ++ [{ value := 0, req := r, late := late, inv := true, ovl := false }] } d
  else
    let slice := if xbs then none else some (sliceOf d (r.chan / 12) (r.chan % 12))
    let w := if xbs then xbsNextBit d (r.chan - 96) else d.time.now
    let step := if xbs then xbsDiv d (r.chan - 96) else 1
    setPfe p { e with run := some (markRun d {
      req := r, w := w, len := windowLen r.osr r.k, slice := slice, segs := [{ first := w, step := step, before := 0 }], marks := []
      late := late, inv := inv, ovl := (slice.bind (fun s => sliceFull d (r.chan / 12) s)).isSome }) } d

/-- The head request can start (R223), or preempts (R225, R226). -/
def convReady (d : Device) (p : Nat) : Bool :=
  enabled d (pgPfe p) && domainOn d (pgPfe p) && (d.aborts.find? (pgPfe p)).isNone &&
    (match (pfeOf d p).queue.head?, (pfeOf d p).run with
     | some r, none => decide (r.due ≤ d.time.now)
     | some r, some x => r.urgent && !x.req.urgent && decide (r.due ≤ d.time.now) && decide (d.time.now < runEnd x)
     | none, _ => false)

/-- A free engine starts its head request; a NORMAL conversion stops for an URGENT one and returns to the queue (R223, R225). -/
def convOne (p : Nat) (d : Device) : Device :=
  let e := pfeOf d p
  match e.queue with
  | [] => d
  | r :: q =>
    let late := decide (r.due < d.time.now) || decide (0 < r.restarts)
    match e.run with
    | none => convBegin p r late (setPfe p { e with queue := q } d)
    | some x =>
      let back := { x.req with restarts := min 15 (x.req.restarts + 1) }
      d |> setPfe p { e with queue := queueReturn back q, run := none }
        |> bump (pgPfe p) Reg.PFE.RESTART_CNT |> raise (pgPfe p) 3 |> convBegin p r late

/-- The same for as many requests as can start now: one of an XBS channel without bits leaves the engine free again (R216, R223). -/
def convMany (p : Nat) : Nat → Device → Device
  | 0, d => d
  | n + 1, d => if convReady d p then convMany p n (convOne p d) else d

/-- CONVERSION_START (R223, R225); the queue holds 16. -/
def convStart (p : Nat) (d : Device) : Device := convMany p 17 d

/-- Every engine starts what it can: before the requests of the tick are issued (R225). -/
def convAll (d : Device) : Device := forEach ((List.range 24).filter (convReady d)) convStart d

/-- A window ends (R217): the mean of the corrected outputs. DEDUCED (log 54). -/
def convEnd (p : Nat) (outs : List Word) (d : Device) : Device :=
  let e := pfeOf d p
  match e.run with
  | none => d
  | some x =>
    let sum := ((runOutputs (outs.map (xbsValue d x.req.chan)) x).map sw).foldl (· + ·) 0
    let mean := roundEven sum (max 1 outs.length)
    let v := if x.inv then 0 else wrapN 24 (satI 24 (roundEven mean 256))
    setPfe p { e with
      run := none
      finished := e.finished ++ [{ value := v, req := x.req, late := x.late, inv := x.inv, ovl := x.ovl }] } d

/-- The window of the running conversion has ended. -/
def convOver (d : Device) (p : Nat) : Bool :=
  match (pfeOf d p).run with
  | some x => decide (runEnd x ≤ d.time.now)
  | none => false

/-- The outputs are those of the window: K of them (R216). -/
def outputsFit (d : Device) (p : Nat) (outs : List Word) : Bool :=
  match (pfeOf d p).run with
  | some x => decide (outs.length = x.req.k)
  | none => false

/-- An XBS channel falls under R205 during a window: the window ends with INVALID (R216). -/
def xbsCheck (d : Device) : Device :=
  forEach (List.range 24) (fun p d => match (pfeOf d p).run with
    | some x => if 96 ≤ x.req.chan ∧ channelInvalid d x.req.chan then
        convEnd p [] (setPfe p { pfeOf d p with run := some { x with inv := true } } d) else d
    | none => d) d

/-- The bits of a running XBS conversion come at other ticks from now on, where its clock, its delay or the time line has changed (R197,
R216): those of earlier ticks are counted, and the next one begins a new segment. -/
def reclockRun (d : Device) (x : PfeRun) : PfeRun :=
  match x.segs with
  | g :: _ =>
    let i := x.req.chan - 96
    let taken := if g.first < d.time.now then (d.time.now - g.first + g.step - 1) / max 1 g.step else 0
    let next := xbsNextBit d i
    if next = g.first + taken * g.step ∧ g.step = xbsDiv d i then x
    else { x with segs := { first := next, step := xbsDiv d i, before := min (g.before + taken) x.len } :: x.segs }
  | [] => x
def reclock (d : Device) : Device :=
  forEach (List.range 24) (fun p d => match (pfeOf d p).run with
    | some x => if 96 ≤ x.req.chan then setPfe p { pfeOf d p with run := some (reclockRun d x) } d else d
    | none => d) d

/-- The modulator clocks at a tick; conversions follow the bits that they give (R197, R216). -/
def mclkTick (d : Device) : Device :=
  let d := forEach ((List.range 16).filter (fun m => decide (mclkStep d (mclkOf d m) ≠ mclkOf d m)))
    (fun m d => setMclk m (mclkStep d (mclkOf d m)) d) d
  reclock (xbsCheck d)

/-- A result is appended or discarded, and delivered (R218, R228, R231); answers it for the streams. -/
def resultAppend (p : Nat) (d : Device) : Device × Option PfeRes :=
  let e := pfeOf d p
  match e.finished with
  | [] => (d, none)
  | r :: rest =>
    let d := noteLatest p r d
    if e.fifo.length < 32 then
      (setPfe p { e with finished := rest, fifo := e.fifo ++ [r] } d |> raise (pgPfe p) 0, some r)
    else
      let lost := rdF d (pgPfe p) Reg.PFE.RES_STAT 16 16
      (setPfe p { e with finished := rest } d |> wrF (pgPfe p) Reg.PFE.RES_STAT 16 16 (min 0xFFFF (lost + 1))
        |> wrB (pgPfe p) Reg.PFE.RES_STAT 8 true |> raise (pgPfe p) 1, some r)

/-- The words that a pop of a result shows: RES_HEAD, RES_POP_INFO, RES_POP_STAMP, RES_POP_SEQ (R229, R237). -/
def resHeadWord (r : PfeRes) : Word := wd (r.value * 256 + r.req.chan)
def resInfoWord (r : PfeRes) : Word :=
  wd (2 ^ 31 + 2 ^ 30 * b2n r.inv + 2 ^ 29 * b2n r.ovl + 2 ^ 28 * b2n r.late + 2 ^ 24 * r.req.restarts +
    2 ^ 16 * r.req.trg + r.req.stamp / 2 ^ 32)

/-- STAT of a PFE page (R237). -/
def pfeStat (d : Device) (p : Nat) : Word :=
  let e := pfeOf d p
  match e.run with
  | some x => wd (2 ^ 24 * x.req.chan + 2 ^ 9 * b2n x.req.urgent + 2 ^ 8 + e.queue.length)
  | none => wd e.queue.length

end Sys2Proof.Machine
end

