-- ==== Sys2Proof/Machine/StreamOps.lean ====
section
/-! DEFINITION. The stream engine (spec/14): entries from each kind of source, open records, staging, hold region and losses. -/

namespace Sys2Proof.Machine

def streamOf (d : Device) (s : Nat) : Stream := d.stream.get (fun _ => {}) s
def setStream (s : Nat) (x : Stream) (d : Device) : Device := { d with stream := d.stream.set (fun _ => {}) s x }

def stRd (d : Device) (s : Nat) (off : Nat → Nat) : Word := rd d pgStream (off s)
def streamKind (d : Device) (s : Nat) : Nat := fld (stRd d s Reg.STREAM.CFG) 0 4

/-- The stream takes records (R496). -/
def streamTakes (d : Device) (s : Nat) : Bool :=
  enabled d pgStream && domainOn d pgStream && bit (stRd d s Reg.STREAM.CFG) 31

/-- The streams of a kind that take records, ascending. -/
def streamsOf (d : Device) (kind : Nat) : List Nat :=
  if enabled d pgStream ∧ domainOn d pgStream then
    (List.range 16).filter (fun s => streamTakes d s && decide (streamKind d s = kind))
  else []

/-- Entries of a record; a MEM record holds one copy (R501). -/
def streamBlk (d : Device) (s : Nat) : Nat :=
  if streamKind d s = 7 then 1 else max 1 (fld (stRd d s Reg.STREAM.PACK) 24 8)
def streamFlush (d : Device) (s : Nat) : Nat := fld (stRd d s Reg.STREAM.PACK) 0 24

/-- The size of a record: header and payload padded to 8 (R500). DESIGN CHOICE (log 92). -/
def recSize (r : StreamRec) : Nat := 16 + (r.payload.length + 7) / 8 * 8
/-- DESIGN CHOICE (log 92). -/
def recsSize (rs : List StreamRec) : Nat := (rs.map recSize).foldl (· + ·) 0

/-- A record as it is sent (R500). -/
def recordBytes (s : Nat) (r : StreamRec) : List Byte :=
  bytesBE 1 s ++ bytesBE 1 r.kind ++ bytesBE 2 r.payload.length ++ bytesBE 4 r.rseq ++ bytesBE 6 r.stamp ++ bytesBE 2 r.flags ++
    padTo 8 r.payload

/-- The GAP record of a run of losses (R509); it carries the RESTART of the first record lost (R512). DESIGN CHOICE (log 94). -/
def gapRecord (g : StreamGap) (closed : Nat) : StreamRec :=
  { kind := 15, rseq := g.rseq, stamp := g.stamp, flags := g.flags, closed := closed
    payload := bytesBE 4 g.count ++ bytesBE 6 g.last ++ bytesBE 2 g.reason ++ bytesBE 4 0 }

/-- A record is lost (R509): reason bits 0 DROP, 1 HOLD_FULL, 2 OVERRUN, 3 ABORT. DESIGN CHOICE (log 94). -/
def loseRecord (s reason : Nat) (r : StreamRec) (d : Device) : Device :=
  let x := streamOf d s
  let d := bump pgStream (Reg.STREAM.GAP_CNT s) d
  match x.gap with
  | none =>
    setStream s { x with gap := some { rseq := r.rseq, stamp := r.stamp, count := 1, last := r.stamp, reason := 2 ^ reason, flags := r.flags / 8 % 2 * 8 } } d
      |> raise pgStream 0
  | some g =>
    setStream s { x with gap := some { g with
      count := g.count + 1, last := r.stamp
      reason := if g.reason / 2 ^ reason % 2 = 1 then g.reason else g.reason + 2 ^ reason } } d

/-- The records to store for a record that is kept: the GAP of a run before it comes first (R509). DESIGN CHOICE (log 94). -/
def withGap (x : Stream) (r : StreamRec) : List StreamRec :=
  match x.gap with
  | some g => [gapRecord g r.closed, r]
  | none => [r]

/-- Bytes of records in a frame (R504). -/
def frameRoom : Nat := 9130

/-- The hold region of a stream: its address in bulk SRAM and its size (R507). -/
def holdBase (d : Device) (s : Nat) : Nat := bulkBase + fld (stRd d s Reg.STREAM.HOLD_BASE) 12 14 * 4096
def holdSize (d : Device) (s : Nat) : Nat := fld (stRd d s Reg.STREAM.HOLD_SIZE) 0 14 * 4096

/-- Bytes written at an offset of a region that is a ring: the addresses and the bytes of each part. DESIGN CHOICE (log 92). -/
def ringParts (base size off : Nat) (bs : List Byte) : List (Nat × List Byte) :=
  if off + bs.length ≤ size then [(base + off, bs)] else [(base + off, bs.take (size - off)), (base, bs.drop (size - off))]

/-- Records go to the hold region, behind every earlier unsent one (R507). DESIGN CHOICE (log 92). -/
def holdRecords (s : Nat) (rs : List StreamRec) (d : Device) : Device :=
  let x := streamOf d s
  let size := holdSize d s
  let at_ := if x.hold = [] ∨ size ≤ x.holdAt then 0 else x.holdAt
  let bs := rs.flatMap (recordBytes s)
  setStream s { x with
    hold := x.hold ++ rs, holdAt := (at_ + bs.length) % size, spill := x.spill ++ ringParts (holdBase d s) size at_ bs, gap := none } d

/-- A closed record takes its place (R507): staging, the hold region, or none; while the hold region holds any record, it goes there. A
place for a GAP record is always reserved. A record that no frame has room for (R504) is lost. DESIGN CHOICE (log 92). -/
def storeRecord (s : Nat) (r : StreamRec) (d : Device) : Device :=
  let x := streamOf d s
  if frameRoom < recSize r then loseRecord s 0 r d
  else if x.hold = [] ∧ recsSize x.staged + recSize r + 32 ≤ 65536 then
    setStream s { x with staged := x.staged ++ withGap x r, gap := none } d
  else if x.hold = [] ∧ ¬ bit (stRd d s Reg.STREAM.CFG) 29 then loseRecord s 0 r d
  else if recsSize x.hold + recSize r + 32 ≤ holdSize d s then holdRecords s (withGap x r) d |> raise pgStream 1
  else loseRecord s 1 r d

/-- The open record closes and takes its RSEQ (R501, R508, R512). -/
def closeRecord (s : Nat) (d : Device) : Device :=
  let x := streamOf d s
  match x.cur with
  | none => d
  | some o =>
    let r : StreamRec := {
      kind := o.kind, rseq := (stRd d s Reg.STREAM.RSEQ).toNat, stamp := o.stamp
      flags := o.flags + 8 * b2n x.restart, payload := o.bytes
      closed := d.time.now }
    let d := bump pgStream (Reg.STREAM.RSEQ s) (setStream s { x with cur := none, restart := false } d)
    if o.overrun then loseRecord s 2 r d |> raise pgStream 4 else storeRecord s r d

/-- The engine's accounting of its rate (R508): 300 Gbit/s of record bytes, header and padding among them, are 1875/64 bytes a tick. Answers
whether `n` bytes lie beyond it. DESIGN CHOICE (log 93). -/
def streamRate (n : Nat) (d : Device) : Device × Bool :=
  let level := d.streamSpent - (d.time.now - d.streamFrom) * 1875
  if level + n * 64 ≤ 65536 * 64 then ({ d with streamSpent := level + n * 64, streamFrom := d.time.now }, false)
  else ({ d with streamSpent := level, streamFrom := d.time.now }, true)

/-- Joins the flags of two entries (R500, R502). -/
def orFlags (a b : Nat) : Nat := a ||| b

/-- An open record of another kind closes before an entry: a record holds entries of one kind (R497, R500). DEDUCED (log 91). -/
def otherKind (d : Device) (s : Nat) : Bool :=
  match (streamOf d s).cur with
  | some o => decide (o.kind ≠ streamKind d s)
  | none => false

/-- A stream takes one entry, of the given tick (R497, R501). DEDUCED (log 91). -/
def streamEntry (s tick : Nat) (bytes : Nat → List Byte) (flags : Nat) (d : Device) : Device :=
  let d := if otherKind d s then closeRecord s d else d
  let x := streamOf d s
  let stamp := (d.time.tl.toNat + 2 ^ 64 - (d.time.now - tick)) % 2 ^ 48
  let o : StreamOpen := match x.cur with
    | some o => o
    | none => { kind := streamKind d s, stamp := stamp, tick := tick, count := 0, flags := 0, bytes := [], overrun := false }
  let bs := bytes o.tick
  let whole := fun (n : Nat) => (n + 7) / 8 * 8
  let r := streamRate (whole (o.bytes.length + bs.length) - whole o.bytes.length + (if o.count = 0 then 16 else 0)) d
  let o := { o with
    count := o.count + 1, flags := orFlags o.flags flags, bytes := if r.2 then o.bytes else o.bytes ++ bs, overrun := o.overrun || r.2 }
  let d := setStream s { streamOf r.1 s with cur := some o } r.1
  if streamBlk d s ≤ o.count then closeRecord s d else d

/-- A sample as FAST16 or FAST32 bytes (R497, R498). DEDUCED (log 91). -/
def fastBytes (wide : Bool) (smp : Word) : List Byte :=
  if bit smp 7 then List.replicate (if wide then 4 else 2) 0#8
  else if wide then bytesBE 4 smp.toNat
  else bytesBE 2 (wrapN 16 (satI 16 (roundEven (signed 24 (fld smp 8 24)) 256)))

/-- The channels of a FAST source, FIRST to LAST. -/
def fastChannels (d : Device) (s : Nat) : List Nat :=
  let a := stRd d s Reg.STREAM.SRC_A
  (List.range 160).filter (fun c => decide (fld a 0 8 ≤ c) && decide (c ≤ fld a 16 8))

/-- The boundary that an output belongs to: channels of one modulator clock deliver their bits of one clock edge XCFG.DLY ticks after it
(R207). DEDUCED (log 91). -/
def fastEdge (d : Device) (ch : Nat) : Nat := d.time.now - (if ch < 96 then 0 else xbsDly d (ch - 96))

/-- A fast-path output reaches the streams (R497, R498): the entry is complete when every running channel of the source has delivered its
output of the boundary. A channel that is off has none, and stands in the entry as its SMP reads (R208). DEDUCED (log 91). -/
def streamFast (ch : Nat) (smp : Word) (d : Device) : Device :=
  forEach ((streamsOf d 1 ++ streamsOf d 2).filter (fun s => (fastChannels d s).contains ch)) (fun s d =>
    let x := streamOf d s
    let part := SMap.insert (if x.partTick = fastEdge d ch then x.part else []) ch smp
    let chs := fastChannels d s
    if chs.all (fun c => !fastOn d c || (SMap.find? part c).isSome) then
      let words := chs.map (fun c => (SMap.find? part c).getD 0x80#32)
      let flags := (if words.any (fun w => bit w 7) then 2 else 0) + (if words.any (fun w => bit w 6) then 4 else 0)
      streamEntry s d.time.now (fun _ => words.flatMap (fastBytes (streamKind d s == 2))) flags
        (setStream s { x with part := [], partTick := 0 } d)
    else setStream s { x with part := part, partTick := fastEdge d ch } d) d

/-- A precision result reaches the streams (R497). -/
def streamPfe (p : Nat) (r : PfeRes) (d : Device) : Device :=
  forEach ((streamsOf d 3).filter (fun s => bit (stRd d s Reg.STREAM.SRC_A) p)) (fun s d =>
    streamEntry s d.time.now (fun _ => bytesBE 4 (resHeadWord r).toNat ++ bytesBE 4 (resInfoWord r).toNat ++
      bytesBE 4 (wd r.req.stamp).toNat ++ bytesBE 4 r.req.seq.toNat)
      ((if r.inv then 2 else 0) + (if r.ovl then 4 else 0)) d) d

/-- The mask bit of instance n in the words SRC_A to SRC_D (R497). -/
def srcMask (d : Device) (s n : Nat) : Bool :=
  bit (rd d pgStream (Reg.STREAM.SRC_A s + 4 * (n / 32))) (n % 32)

/-- The states of the selected band engines, two bits each, lowest first, padded to a multiple of 8 bytes (R497). DEDUCED (log 91). -/
def bandBytes (d : Device) (s : Nat) : List Byte :=
  let st := ((List.range 128).filter (srcMask d s)).map (fun n => fld (beStat d n) 0 2)
  let n := (st.length + 31) / 32 * 8
  bytesLE n (st.reverse.foldl (fun a b => a * 4 + b) 0)

/-- The counts and speeds of the selected position channels (R497). -/
def posBytes (d : Device) (s : Nat) : List Byte :=
  ((List.range 32).filter (fun n => bit (stRd d s Reg.STREAM.SRC_A) n)).flatMap (fun n =>
    bytesBE 4 (posRd d n Reg.POS.COUNT).toNat ++ bytesBE 4 (posSpeed d n).toNat)

/-- The TRIG event of BAND, POS and MEM streams (R497). A MEM copy is made from memory when the command ends. -/
def streamTriggers (evs : List Nat) (d : Device) : Device :=
  forEach ((streamsOf d 5 ++ streamsOf d 6 ++ streamsOf d 7).filter (fun s =>
      selHit evs (fld (stRd d s Reg.STREAM.TRIG) 0 16))) (fun s d =>
    match streamKind d s with
    | 5 => streamEntry s d.time.now (fun _ => bandBytes d s) 0 d
    | 6 => streamEntry s d.time.now (fun _ => posBytes d s) 0 d
    | _ => setStream s { streamOf d s with memDue := (streamOf d s).memDue ++ [stampNow d] } d) d

/-! ## Edges of the gate outputs -/

/-- The cause code of an edge: 0 state, 1 trip action, 2 safe pattern (R497). -/
def edgeCause (st : Stage) : Nat :=
  match st with
  | .trip => 1
  | .safe => 2
  | _ => 0

/-- The instant at which an output took its present level. -/
def sideAt (s : Side) : Nat := if s.on then s.onAt else s.offAt

/-- The entries that the changes of one leg make, earliest first: (instant, GH, GL). DEDUCED (log 91). -/
def legEdges (old new : Leg) : List (Nat × Bool × Bool) :=
  let h := old.high.on != new.high.on
  let l := old.low.on != new.low.on
  let th := sideAt new.high
  let tl := sideAt new.low
  match h, l with
  | false, false => []
  | true, false => [(th, new.high.on, new.low.on)]
  | false, true => [(tl, new.high.on, new.low.on)]
  | true, true =>
    if th = tl then [(th, new.high.on, new.low.on)]
    else if th < tl then [(th, new.high.on, old.low.on), (tl, new.high.on, new.low.on)]
    else [(tl, old.high.on, new.low.on), (th, new.high.on, new.low.on)]

/-- EDGE entries for what a command changed at the gate outputs (R497, R498). DEDUCED (log 91). -/
def streamEdges (old : Device) (d : Device) : Device :=
  forEach (streamsOf d 4) (fun s d =>
    forEach ((List.range 128).filter (srcMask d s)) (fun n d =>
      forEach (legEdges (legOf old n) (legOf d n)) (fun e d =>
        streamEntry s (e.1 / 64) (fun t => bytesBE 1 n ++
          bytesBE 1 (128 * b2n e.2.1 + 64 * b2n e.2.2 + edgeCause (legOf d n).stage) ++ bytesBE 6 (e.1 - t * 64)) 0 d) d) d) d

/-- UNSENT of a stream, and the bits of STAT (R513). -/
def streamUnsent (d : Device) (s : Nat) : Nat := recsSize (streamOf d s).staged + recsSize (streamOf d s).hold
def streamStat (d : Device) : Word :=
  wd (((List.range 16).map (fun s => 2 ^ s * b2n (decide (streamUnsent d s ≠ 0)) + 2 ^ (16 + s) * b2n (streamOf d s).onEth0)).foldl
    (· + ·) 0)

end Sys2Proof.Machine
end

