-- ==== Sys2Proof/Machine/NetOps.lean ====
section
/-! DEFINITION. What the events of one tick reach (R90, R143 to R151): the timers in their order, the trigger sequencer, the outer
loop units, SSI channels, streams, and the global sync event (R636); and the carriers' loads that the global sync makes. -/

namespace Sys2Proof.Machine

/-- The consumers of events other than the timers, in the order of the pages. -/
def netConsumers (evs : List Nat) (d : Device) : Device :=
  d |> fireEntries evs |> oluTriggers evs |> ssiTriggers evs |> streamTriggers evs

/-- The source of the global sync event (R636). -/
def gsyncKind (d : Device) : Nat := rdF d pgLegsys Reg.LEGSYS.GSYNC_SRC 0 3
def gsyncIndex (d : Device) : Nat := rdF d pgLegsys Reg.LEGSYS.GSYNC_SRC 8 6

/-- A MATCH0 that is the global sync's source makes it occur at the next tick (R636). -/
def gsyncAfter (evs : List Nat) (d : Device) : Device :=
  if gsyncKind d = 2 ∧ evs.contains (sel 1 (gsyncIndex d)) then { d with legs := { d.legs with gsyncDue := true } } else d

/-- Events occur at the present tick: the timers and every other consumer are given them together, when all of the tick have
occurred (R148). -/
def netEvents (evs : List Nat) (d : Device) : Device := { d with tmrs := { d.tmrs with evs := d.tmrs.evs ++ evs } }

/-- The events of the tick are delivered: conversions that can start have done so (R225), the timers act in their order (R146, R148), then
every other consumer sees the events and theirs. -/
def netDeliver (d : Device) : Device :=
  let evs := d.tmrs.evs
  let d := convAll d
  let r := timerPass evs { d with tmrs := { d.tmrs with evs := [] } }
  let all := evs ++ r.2
  gsyncAfter all (netConsumers all r.1)

/-! ## Carrier events and compares (R85, R98 to R101) -/

/-- ZERO of carrier g is due at the present tick (R85). -/
def zeroDue (d : Device) (g : Nat) : Bool :=
  running d g && decide ((carrierOf d g).count = 0) && !(carrierOf d g).zeroDone

/-- PERIOD of carrier g is due at the present tick (R85, R95). -/
def periodDue (d : Device) (g : Nat) : Bool :=
  running d g && ((decide ((carrierOf d g).count = perEff d g) && !(carrierOf d g).passed) || (carrierOf d g).wrap) &&
    !(carrierOf d g).perDone

/-- The shadow set of leg n (R91 to R93): ACT, CMPA, CMPB, DTR, DTF, MINP. -/
def legShadow (n : Nat) : List Nat :=
  [Reg.LG.ACT (n % 4), Reg.LG.CMPA (n % 4), Reg.LG.CMPB (n % 4), Reg.LG.DTR (n % 4), Reg.LG.DTF (n % 4), Reg.LG.MINP (n % 4)]

/-- Compare `c` of leg n: its ticks and fines, and its flags. -/
def cmpOf (d : Device) (n : Nat) (c : CmpSel) : Nat × Nat :=
  let w := legRd d n (match c with | .a => Reg.LG.CMPA | .b => Reg.LG.CMPB)
  (fld w 6 26, fld w 0 6)
def cmpFlags (l : Leg) (c : CmpSel) : CmpFlags := match c with | .a => l.cmpA | .b => l.cmpB
def setCmpFlags (l : Leg) (c : CmpSel) (f : CmpFlags) : Leg := match c with | .a => { l with cmpA := f } | .b => { l with cmpB := f }

/-- The carrier that leg n follows counts down. -/
def legDown (d : Device) (n : Nat) : Bool := upDown d (legCarrier d n) && (carrierOf d (legCarrier d n)).down

/-- A PWM action on the state (R104). -/
def actState (act : Nat) (st : LegState) : LegState :=
  match act with
  | 1 => .a
  | 2 => .b
  | 3 => match st with | .a => .b | .b => .a | .off => .a
  | _ => st

/-- The field of ACT that a compare uses in the present half (R104). -/
def cmpActField (c : CmpSel) (down : Bool) : Nat :=
  match c, down with
  | .a, false => 2
  | .b, false => 4
  | .a, true => 8
  | .b, true => 10

/-- Compare `c` of leg n matches at the present tick and has not been taken (R98, R99). DEDUCED (log 44). -/
def cmpMatches (d : Device) (n : Nat) (c : CmpSel) : Bool :=
  let g := legCarrier d n
  running d g && decide ((carrierOf d g).count = (cmpOf d n c).1) && !(cmpFlags (legOf d n) c).done &&
    domainOn d (pgLg (n / 4))

/-- Fine placement of the leg's group began at the present tick: an edge of the tick before it had none (R56). -/
def fineBegan (d : Device) (n : Nat) : Bool := decide (d.time.dlBack.find? (n / 4) = some (d.time.now + 1))

/-- The match at the present tick makes its action here: not a down-half match with F > 0, which R637 places a tick earlier, nor one
whose edge has been placed there. -/
def actsAtMatch (d : Device) (n : Nat) (c : CmpSel) : Bool :=
  (!legDown d n || decide ((cmpOf d n c).2 = 0) || coarse d n || fineBegan d n) &&
    decide ((cmpFlags (legOf d n) c).early ≠ d.time.now + 1)

/-- The instant of the action that a match at the present tick makes (R98, R99). -/
def matchAt (d : Device) (n : Nat) (c : CmpSel) : Nat :=
  nowF d + (if legDown d n ∨ coarse d n then 0 else (cmpOf d n c).2)

/-- A down-half match at the next tick whose edge lies within the present one (R637). DESIGN CHOICE (log 43). -/
def earlyDue (d : Device) (n : Nat) (c : CmpSel) : Bool :=
  let g := legCarrier d n
  let nx := nextCount (upDown d g) (perEff d g) (carrierOf d g)
  running d g && upDown d g && nx.2 && decide (nx.1 = (cmpOf d n c).1) && decide (0 < (cmpOf d n c).2) && !coarse d n &&
    decide ((cmpFlags (legOf d n) c).early ≠ d.time.now + 2) && domainOn d (pgLg (n / 4))
def earlyAt (d : Device) (n : Nat) (c : CmpSel) : Nat := nowF d + 64 - (cmpOf d n c).2

/-- The compare has been passed in the present half (R101, R637). -/
def cmpPassed (d : Device) (n : Nat) (c : CmpSel) : Bool :=
  let k := (carrierOf d (legCarrier d n)).count
  let v := cmpOf d n c
  if legDown d n then decide (k < v.1) || (decide (k = v.1) && !actsAtMatch d n c) else decide (v.1 < k)

/-- Compare `c` of leg n became active at the present tick with a value already passed in this half, and acts now, after the events of its
carrier (R101, R104). -/
def catchDue (d : Device) (n : Nat) (c : CmpSel) : Bool :=
  let g := legCarrier d n
  let f := cmpFlags (legOf d n) c
  decide (f.fresh = d.time.now + 1) && running d g && bit (legRd d n Reg.LG.CFG) 20 && decide (legLoadSel d n = 3) &&
    domainOn d (pgLg (n / 4)) && !zeroDue d g && !periodDue d g && cmpPassed d n c && !(if legDown d n then f.actedDn else f.actedUp)

/-- A further action of leg n at instant t is to come: by a compare that has not been taken (R104). -/
def moreAt (d : Device) (n t : Nat) : Bool :=
  [CmpSel.a, CmpSel.b].any (fun c =>
    (cmpMatches d n c && actsAtMatch d n c && decide (matchAt d n c = t)) || (earlyDue d n c && decide (earlyAt d n c = t)) ||
      (catchDue d n c && decide (nowF d = t)))

/-- A PWM leg resumes at ZERO of its carrier, once the last action at that instant has been made (R104, R121). -/
def zeroResume (n : Nat) (d : Device) : Device :=
  let c := carrierOf d (legCarrier d n)
  if legMode d n = 1 ∧ c.zeroDone ∧ c.count = 0 ∧ ¬ moreAt d n (nowF d) then resumeLeg n (nowF d) d else d

/-- Leg n applies an action at an instant, if it is in PWM mode (R104). -/
def pwmAct (n t act : Nat) (d : Device) : Device :=
  if legMode d n = 1 then
    let d := setLegState n t (moreAt d n t) (actState act (legOf d n).state) d
    if t = nowF d then zeroResume n d else d
  else d

/-- The action of compare `c` of leg n is made at an instant: its mark for the half, the action, its cause. -/
def cmpAct (n t : Nat) (c : CmpSel) (down : Bool) (d : Device) : Device :=
  let l := legOf d n
  let f := cmpFlags l c
  let l := setCmpFlags l c (if down then { f with actedDn := true } else { f with actedUp := true })
  pwmAct n t (fld (legRd d n Reg.LG.ACT) (cmpActField c down) 2) (setLeg n l d)

/-- Catch-up of a compare that has just become active (R101, R102). -/
def catchUp (n : Nat) (c : CmpSel) (d : Device) : Device :=
  cmpAct n (nowF d) c (legDown d n) d |> raise (pgLg (n / 4)) (8 + n % 4)

/-- A compare of leg n becomes active at the present tick. -/
def freshen (n : Nat) (c : CmpSel) (d : Device) : Device :=
  setLeg n (setCmpFlags (legOf d n) c { cmpFlags (legOf d n) c with fresh := d.time.now + 1 }) d

/-- One register of leg n's shadow set becomes active; a compare that does may catch up. -/
def takeLegReg (n off : Nat) (d : Device) : Device :=
  match shadowOf d (pgLg (n / 4)) off with
  | none => d
  | some _ =>
    let d := takeShadow (pgLg (n / 4)) off d
    if off = Reg.LG.CMPA (n % 4) then freshen n .a d
    else if off = Reg.LG.CMPB (n % 4) then freshen n .b d
    else d

/-- The shadow set of leg n becomes active, unless it is frozen (R92, R93). -/
def takeLegSet (n : Nat) (d : Device) : Device :=
  if legFrozen d n then d else forEach (legShadow n) (takeLegReg n) d

/-- A PER that became active at IMMEDIATE or SYNC, `old` before: one below the count shortens the period; one equal to it begins the
down half there; one above it that comes at the old PER, before PERIOD was raised, lets the carrier count on up (R95 to R97). A carrier
that has just come up to the old PER counts down (R85), so a PER lowered there raises no PERIOD at all. DEDUCED (log 37). -/
def shorten (g : Nat) (quiet : Bool) (old : Nat) (d : Device) : Device :=
  let c := carrierOf d g
  let per := perEff d g
  if running d g ∧ upDown d g ∧ per = c.count ∧ per ≠ old then
    setCarrier g { c with down := true } d
  else if running d g ∧ upDown d g ∧ c.count < per ∧ c.count = old ∧ c.down ∧ ¬ c.passed ∧ ¬ c.perDone then
    setCarrier g { c with down := false } d
  else if running d g ∧ per < c.count then
    let d := if upDown d g then setCarrier g { c with count := per, down := true, perDone := c.down || quiet } d
      else setCarrier g { c with wrap := true, perDone := quiet } d
    raiseIf (!quiet) (pgLg g) 2 d
  else d

/-- The group's shadow set becomes active (R92). -/
def takeGroupSet (g : Nat) (d : Device) : Device :=
  d |> takeShadow (pgLg g) Reg.LG.PER |> takeShadow (pgLg g) Reg.LG.PHASE

/-- A PER waits to become active at IMMEDIATE or SYNC: the one before it is kept until the transfers of the tick have been made (R95). -/
def notePer (g : Nat) (d : Device) : Device :=
  let c := carrierOf d g
  if (shadowOf d (pgLg g) Reg.LG.PER).isSome ∧ c.perWas.isNone then setCarrier g { c with perWas := some (perEff d g) } d else d

/-- Load point of the group's set (R91). -/
def pload (d : Device) (g : Nat) : Nat := rdF d (pgLg g) Reg.LG.CTL 4 3

/-- The shadow sets whose load point is the event of carrier g: 0 ZERO, 1 PERIOD; 2 is both (R91). -/
def carrierLoad (g which : Nat) (d : Device) : Device :=
  let d := if pload d g = which ∨ pload d g = 2 then takeGroupSet g d else d
  forEach ((followers d g).filter (fun n => decide (legLoadSel d n = which) || decide (legLoadSel d n = 2))) takeLegSet d

/-- PHASE is loaded at the present tick; an event already raised at this tick is not raised again (R86, R88). The load begins no new half
for the marks of R101. DESIGN CHOICE (log 137). -/
def reloadPhase (g : Nat) (d : Device) : Device :=
  let c := carrierOf d g
  let d := loadPhase g d
  let n := carrierOf d g
  setCarrier g { n with zeroDone := c.zeroDone && decide (n.count = c.count), perDone := c.perDone && decide (n.count = c.count) } d

/-- The carrier loads PHASE by the global sync, unless a start has it do so already (R88). -/
def syncLoad (g : Nat) (d : Device) : Device :=
  let c := carrierOf d g
  setCarrier g { c with load := some (c.load.getD false) } d

/-- The global sync event at the present tick (R636): its cause, the shadow sets with load point SYNC, the PHASE loads to be made, the
timers and every other consumer of KIND 9. -/
def gsync (d : Device) : Device :=
  let d := raise pgLegsys 10 { d with legs := { d.legs with gsyncDue := false, gsyncAt := d.time.now + 1 } }
  let d := forEach ((List.range 128).filter (fun n => decide (legLoadSel d n = 4))) takeLegSet d
  let d := forEach ((List.range 32).filter (fun g => decide (pload d g = 4) && domainOn d (pgLg g)))
    (fun g d => takeGroupSet g (notePer g d)) d
  let d := forEach ((List.range 32).filter (fun g => rdB d (pgLg g) Reg.LG.CTL 2 && running d g)) syncLoad d
  netEvents [sel 9 0] d

/-! ## Meanings over the parts -/

/-- After a command that can move a gate output: the EDGE entries of what it changed (R497). -/
def withEdges (f : Device → Device) (d : Device) : Device := streamEdges d (f d)

end Sys2Proof.Machine
end

