-- ==== Sys2Proof/Machine/CarrierOps.lean ====
section
/-! DEFINITION. What happens at the ticks of a carrier (spec/03): ZERO, PERIOD and compare matches, the ends of dead times, minimum
pulses and interlocks, and what a change of an LG register or of its EN does at once. -/

namespace Sys2Proof.Machine

/-! ## Carrier events -/

/-- The compares of a leg start a new half: what they did in the last one no longer counts (R101). An edge already placed for the
match at this tick stays marked (R637). -/
def newHalf (down : Bool) (n : Nat) (d : Device) : Device :=
  let l := legOf d n
  let f := fun (x : CmpFlags) => if down then { x with actedDn := decide (x.early = d.time.now + 1) } else { x with actedUp := false }
  setLeg n { l with cmpA := f l.cmpA, cmpB := f l.cmpB } d

/-- Fine placement of group g follows its last calibration at its carrier's ZERO (R56). -/
def dlZero (g : Nat) (d : Device) : Device :=
  let m : BitVec 32 := BitVec.ofNat 32 (2 ^ g)
  if d.time.dlBad.getLsbD g then
    { d with time := { d.time with dlBad := d.time.dlBad &&& ~~~ m, dlCoarse := d.time.dlCoarse ||| m } }
  else if d.time.dlGood.getLsbD g then
    let back := if d.time.dlCoarse.getLsbD g then d.time.dlBack.insert g (d.time.now + 1) else d.time.dlBack
    wrB pgTb Reg.TB.DL_OK g true
      { d with time := { d.time with dlGood := d.time.dlGood &&& ~~~ m, dlCoarse := d.time.dlCoarse &&& ~~~ m, dlBack := back } }
  else d

/-- ZERO of carrier g: shadow sets, cause, fine placement, ZERO actions, resumptions, and what the event drives (R85, R90 to R92,
R104, R121). A ZERO at the tick at which a clear or a release becomes usable is the next ZERO of R121. DESIGN CHOICE (log 153). -/
def carrierZero (g : Nat) (d : Device) : Device :=
  let d := setCarrier g { carrierOf d g with zeroDone := true } d
  let d := d |> carrierLoad g 0 |> raise (pgLg g) 0 |> dlZero g
  let d := forEach (followers d g) (fun n d =>
    let d := newHalf false n d
    zeroResume n (pwmAct n (nowF d) (fld (legRd d n Reg.LG.ACT) 0 2) d)) d
  netEvents [sel 4 g] d

/-- PERIOD of carrier g (R85, R90 to R92, R104). In UP mode the count returns to 0 at the next tick whatever PER is loaded here. -/
def carrierPeriod (g : Nat) (d : Device) : Device :=
  let d := setCarrier g { carrierOf d g with perDone := true, wrap := !upDown d g } d
  let d := d |> carrierLoad g 1 |> raise (pgLg g) 1
  let d := forEach (followers d g) (fun n d =>
    let d := if upDown d g then newHalf true n d else d
    pwmAct n (nowF d) (fld (legRd d n Reg.LG.ACT) 6 2) d) d
  netEvents [sel 5 g] d

/-- The cause bit and the event KIND of a compare. -/
def cmpBit (n : Nat) (c : CmpSel) : Nat := 16 + 2 * (n % 4) + (match c with | .a => 0 | .b => 1)
def cmpKind (c : CmpSel) : Nat := match c with | .a => 6 | .b => 7

/-- A match at its tick (R90, R98, R99, R132): the action, where it is placed here, then the cause and the event. DESIGN CHOICE (log 43). -/
def matchNow (n : Nat) (c : CmpSel) (d : Device) : Device :=
  let acts := actsAtMatch d n c
  let t := matchAt d n c
  let f := cmpFlags (legOf d n) c
  let d := setLeg n (setCmpFlags (legOf d n) c { f with done := true }) d
  let d := if acts then cmpAct n t c (legDown d n) d else d
  netEvents [sel (cmpKind c) n] (raise (pgLg (n / 4)) (cmpBit n c) d)

/-- A compare acts at the present tick: by its match, by catching up, or by both, the match of a value that came too late for its edge
(R637). -/
def compareMatch (n : Nat) (c : CmpSel) (d : Device) : Device :=
  let d := if cmpMatches d n c then matchNow n c d else d
  if catchDue d n c then catchUp n c d else d

/-- The edge of a down-half match, placed within the tick before it (R637). -/
def compareEarly (n : Nat) (c : CmpSel) (d : Device) : Device :=
  let t := earlyAt d n c
  let f := cmpFlags (legOf d n) c
  cmpAct n t c true (setLeg n (setCmpFlags (legOf d n) c { f with early := d.time.now + 2 }) d)

/-- No carrier or compare has an event left at this tick. -/
def legsQuiet (d : Device) : Bool :=
  (List.range 32).all (fun g => !zeroDue d g && !periodDue d g) &&
    (List.range 128).all (fun n => !cmpMatches d n .a && !cmpMatches d n .b)

/-! ## Ends of delays -/

/-- One side of a leg. -/
def sideOf (l : Leg) (high : Bool) : Side := if high then l.high else l.low
def setSide (l : Leg) (high : Bool) (s : Side) : Leg := if high then { l with high := s } else { l with low := s }

/-- An instant lies in the present tick or before it. -/
def reached (d : Device) (t : Option Nat) : Bool :=
  match t with
  | some x => decide (x / 64 ≤ d.time.now)
  | none => false

/-- One output is asserted at t, as `s` (R112): a partner whose delayed deassertion has come by then goes off first; with a partner that
stays on, both are off. DEDUCED (log 36). -/
def assertAt (t : Nat) (high : Bool) (s : Side) (l : Leg) : Leg :=
  let o := sideOf l (!high)
  let o := match o.minp with
    | some m => if o.on ∧ m ≤ t then { o with on := false, offAt := m, minp := none } else o
    | none => o
  if o.on then legOff t l else setSide (setSide l (!high) o) high s

/-- A dead time ends: the output is asserted (R108). -/
def deadTimeEnd (n : Nat) (high : Bool) (d : Device) : Device :=
  let l := legOf d n
  let s := sideOf l high
  match s.pend.map (edgeAt d n) with
  | some t => setLeg n (assertAt t high { s with on := true, onAt := t, pend := none } l) d
  | none => d

/-- A minimum pulse ends: the delayed deassertion is made (R110). -/
def minpEnd (n : Nat) (high : Bool) (d : Device) : Device :=
  let l := legOf d n
  let s := sideOf l high
  match s.minp.map (edgeAt d n) with
  | some t => setLeg n (setSide l high { s with on := false, offAt := t, minp := none }) d
  | none => d

/-- An interlock ends: the output is asserted (R119, R123). -/
def ilkEnd (n : Nat) (high : Bool) (d : Device) : Device :=
  let l := legOf d n
  let s := sideOf l high
  match s.ilk.map (edgeAt d n) with
  | some t => setLeg n (assertAt t high { s with on := true, onAt := t, ilk := none } l) d
  | none => d

/-! ## LG registers -/

/-- The carrier starts or stops as RUN or EN changed: it loads PHASE once the transfers of the tick have been made (R86, R92). -/
def carrierStart (g : Nat) (was : Bool) (d : Device) : Device :=
  if running d g ∧ ¬ was then setCarrier g { carrierOf d g with load := some true } d else d

/-- Once all transfers of the tick have been made: the carrier loads PHASE, or else a PER that became active shortens or ends the
period (R86, R88, R92, R95, R96). -/
def settleCarrier (g : Nat) (d : Device) : Device :=
  let c := carrierOf d g
  let d := setCarrier g { c with load := none, perWas := none } d
  match (if running d g then c.load else none), c.perWas with
  | some start, _ =>
    let d := reloadPhase g d
    if start then forEach (followers d g) (fun n d => d |> newHalf false n |> newHalf true n) d else d
  | none, some old => shorten g false old d
  | none, none => d

/-- Every carrier with something to decide. -/
def settleCarriers (d : Device) : Device :=
  forEach ((List.range 32).filter (fun g => (carrierOf d g).load.isSome || (carrierOf d g).perWas.isSome)) settleCarrier d

/-- The global sync event at the present tick, with the loads that follow its transfers (R88, R92, R636). -/
def gsyncNow (d : Device) : Device := settleCarriers (gsync d)

/-- RUN of group g is set or cleared (R83, R87). -/
def setRun (g : Nat) (b : Bool) (d : Device) : Device :=
  let was := running d g
  carrierStart g was (wrB (pgLg g) Reg.LG.CTL 0 b d)

/-- UPDOWN has changed (R83): up, but a count at PER lies in the down half. The marks of R101 stay. DESIGN CHOICE (log 137). -/
def turnCarrier (g : Nat) (d : Device) : Device :=
  let c := carrierOf d g
  setCarrier g { c with down := upDown d g && decide (c.count = perEff d g) } d

/-- A leg takes its mode (R105, R106, R121): in BAND the engine's present state, active from this tick (R248), with nothing of it left to
become active. DEDUCED (log 41). -/
def enterMode (n : Nat) (d : Device) : Device :=
  match legMode d n with
  | 0 => forceLegOff n (nowF d) d
  | 2 =>
    let b := bandOf d n
    let st := if beOn d n then b.state else .off
    let d := setBand n { b with due := [], since := if b.due = [] then b.since else d.time.now } d
    if st = .off then forceLegOff n (nowF d) d else setLegState n (nowF d) false st d
  | 3 =>
    let v := fld (legRd d n Reg.LG.DIRECT) 0 2
    d |> setLegState n (nowF d) false (if v = 1 then .a else if v = 2 then .b else .off) |> resumeLeg n (nowF d)
  | _ => d

/-- A leg's mode has changed from `was`; leaving BAND mode restarts the adaptation (R105, R254). DEDUCED (log 41). -/
def modeChanged (n was : Nat) (d : Device) : Device :=
  if legMode d n = was then d
  else
    let d := doIf (decide (was = 2)) (restartAdapt n) d
    enterMode n d

/-- Compare shadows of a leg whose set became IMMEDIATE or was thawed transfer (R91, R93). DEDUCED (log 38). -/
def thawLeg (n : Nat) (d : Device) : Device := if legLoadSel d n = 3 then takeLegSet n d else d

/-- A write of a leg's shadow register (R91 to R93). DEDUCED (log 38). -/
def writeLegShadow (n off : Nat) (v : Word) (d : Device) : Device :=
  let d := setShadow (pgLg (n / 4)) off v d
  if legLoadSel d n = 3 ∧ ¬ legFrozen d n then takeLegReg n off d else d

/-- A write of PER or PHASE (R91, R95). DEDUCED (log 38). -/
def writeGroupShadow (g off : Nat) (v : Word) (d : Device) : Device :=
  let d := setShadow (pgLg g) off v d
  if pload d g = 3 then takeShadow (pgLg g) off (if off = Reg.LG.PER then notePer g d else d) else d

/-- EN of LG page g has changed (R129). -/
def lgEnable (g : Nat) (on wasRunning : Bool) (d : Device) : Device :=
  let legs := (List.range 4).map (fun j => 4 * g + j)
  if on then
    carrierStart g wasRunning (forEach (legs.filter (fun n => decide (legMode d n ≠ 0))) enterMode d)
  else forEach legs (fun n d =>
    let band := decide (fld (legRd d n Reg.LG.CFG) 0 2 = 2)
    forceLegOff n (nowF d) (doIf band (restartAdapt n) d)) d

/-- SOFT_RST of LG page g (R39, R129). -/
def lgReset (g : Nat) (d : Device) : Device :=
  let d := forEach ((List.range 4).map (fun j => 4 * g + j)) (fun n d =>
    let d := forceLegOff n (nowF d) d
    let l := legOf d n
    setLeg n { l with cmpA := {}, cmpB := {} } (restartAdapt n d)) d
  setCarrier g {} d

/-- STAT of leg n (R130): live bits, from reset on. DEDUCED (log 133). -/
def legStat (d : Device) (n : Nat) : Word :=
  let l := legOf d n
  let zones := (legZones d n).foldl (fun a z => a + 2 ^ z) 0
  wd ((match l.state with | .off => 0 | .a => 1 | .b => 2) + 4 * b2n l.high.on + 8 * b2n l.low.on +
    16 * b2n l.tripped + 32 * b2n (decide (l.stage = .safe)) + 256 * zones) |||
    (legRd d n Reg.LG.LEGSTAT &&& 0x40#32)

/-- STAT of SAFEPAT (R135): live bits, from reset on. DEDUCED (log 133). -/
def safeStat (d : Device) : Word :=
  wd (b2n d.legs.safeNLow + 2 * b2n (safeApplied d) + 4 * b2n d.legs.safeNLow + 8 * b2n (safeByDusk d) + 16 * b2n (safeByMode d))

end Sys2Proof.Machine
end

