-- ==== Sys2Proof/Machine/PageOps.lean ====
section
/-! DEFINITION. What the writes of the control pages share: storing a register by its access codes (R6), refusing by a code of the
page (R34), and the sync state machine's entries (R69). -/

namespace Sys2Proof.Machine

/-- The bits of a register that a write can set: those of its row, but for fields that are reserved in some instances, DUAL of a plan core
(R346) and LISTEN of ETH1 (R493), which stay 0 (R8). -/
def writable (p off : Nat) (r : RegRow) : Word :=
  if classOf p = 14 ∧ 32 ≤ instOf p ∧ off = Reg.CORE.CTL then r.rw &&& ~~~ 0x20#32
  else if classOf p = 20 ∧ instOf p = 1 ∧ off = Reg.ETH.CTL then r.rw &&& ~~~ 0x10000#32
  else r.rw

/-- The value that a plain write leaves (R6): writable bits taken, W1C bits cleared where 1 is written, all others kept. -/
def storedValue (d : Device) (p off : Nat) (v : Word) : Word :=
  match rowAt (classOf p) off with
  | some r => merge (rd d p off) v (writable p off r) &&& ~~~ (v &&& r.w1c)
  | none => rd d p off

/-- A plain write; a reserved offset ignores it (R9). -/
def storeReg (p off : Nat) (v : Word) (d : Device) : Device :=
  if (rowAt (classOf p) off).isSome then wr p off (storedValue d p off v) d else d

/-- The bits of a value that a register can hold. -/
def maskedValue (p off : Nat) (v : Word) : Word :=
  match rowAt (classOf p) off with
  | some r => v &&& writable p off r
  | none => 0#32

/-- A write is refused by a code of its page: recorded, answered, nothing else changed (R31, R34). -/
def refuse (p code off : Nat) (who : Requester) (d : Device) : Device :=
  answer (.error (.refused code)) (recordErr p code who off d)

/-- A write is performed although a code is recorded (R144, R147, R206 and others). DESIGN CHOICE (log 125). -/
def note (b : Bool) (p code off : Nat) (who : Requester) (d : Device) : Device :=
  if b then recordErr p code who off d else d

/-- Bit i of the written word is 1. -/
def one (w : Wr) (i : Nat) : Bool := bit w.data i

/-! ## The sync state machine (R69) -/

def syncState (d : Device) : Nat := rdF d pgTb Reg.TB.SYNC_STAT 0 2
def parentOf (d : Device) : Option Nat :=
  let p := rdF d pgTb Reg.TB.SYNC_CTL 8 4
  if p < 8 then some p else none

/-- Enters a state: 0 FREE, 1 ACQUIRE, 2 TRACK, 3 HOLDOVER. DEDUCED (log 19). -/
def enterSync (st : Nat) (d : Device) : Device :=
  let d := wrF pgTb Reg.TB.SYNC_STAT 0 2 st { d with time := { d.time with goodExchanges := 0, farNow := false } }
  if st = 2 then raise pgTb 6 d else d

/-- The parent link has gone down or come up (R69). -/
def parentLink (l : Nat) (up : Bool) (d : Device) : Device :=
  if parentOf d = some l then
    if up ∧ syncState d = 3 then enterSync 2 d
    else if ¬ up ∧ syncState d = 2 then enterSync 3 d
    else d
  else d

/-- A write of SYNC_CTL (R69, R81). DEDUCED (log 19). -/
def writeSyncCtl (w : Wr) (d : Device) : Device :=
  let was := parentOf d
  let d := storeReg pgTb Reg.TB.SYNC_CTL w.data d
  match parentOf d with
  | none => if syncState d = 0 then d else enterSync 0 d
  | some p => if was ≠ some p ∨ one w 0 then enterSync 1 d else d

/-! ## The TB page -/

/-- The value of compare c that TLCMP_LO and TLCMP_HI hold, loaded and armed (R60). -/
def armCompare (c : Nat) (d : Device) : Device :=
  let v := (rd d pgTb (Reg.TB.TLCMP_HI c)).toNat * 2 ^ 32 + (rd d pgTb (Reg.TB.TLCMP_LO c)).toNat
  { d with time := { d.time with
      cmpVal := d.time.cmpVal.insert c v, cmpArmed := d.time.cmpArmed ||| BitVec.ofNat 8 (2 ^ c) } }

/-- RELOCK is written (R51): it reads 1 until lock. DEDUCED (log 18). -/
def writeRelock (d : Device) : Device :=
  if rdB d pgTb Reg.TB.REF_STAT 1 then wrB pgTb Reg.TB.REF_CTL 0 true { d with time := { d.time with relock := true } } else d

/-- COMMIT is written (R74): its boundary is the second tick boundary after it. -/
def writeCommit (d : Device) : Device :=
  wrB pgTb Reg.TB.PTP_CTL 1 true { d with time := { d.time with ptpDue := d.time.ptpDue ++ [d.time.now + 2] } }

/-- The PTP registers are RWS (R74). -/
def ptpRegs : List Nat :=
  [Reg.TB.PTP_RATE, Reg.TB.PTP_ANC_TL_LO, Reg.TB.PTP_ANC_TL_HI, Reg.TB.PTP_ANC_NS, Reg.TB.PTP_ANC_SEC_LO, Reg.TB.PTP_ANC_SEC_HI]

def tbWrite (off : Nat) (w : Wr) (d : Device) : Device :=
  if ptpRegs.contains off then setShadow pgTb off (maskedValue pgTb off w.data) d
  else if off = Reg.TB.PTP_CTL then (if one w 0 then writeCommit d else d)
  else if off = Reg.TB.REF_CTL then
    latchSourced (doIf (one w 0) writeRelock (storeReg pgTb off w.data d))
  else if off = Reg.TB.SYNC_CTL then writeSyncCtl w d
  else match (List.range 8).find? (fun c => decide (off = Reg.TB.TLCMP_HI c)) with
    | some c => armCompare c (storeReg pgTb off w.data d)
    | none => storeReg pgTb off w.data d

/-- TB registers that show live state (R81). -/
def tbView (off : Nat) (d : Device) : Word :=
  if off = Reg.TB.TL_LO then lo32 d.time.tl.toNat
  else if off = Reg.TB.TL_HI then hi32 d.time.tl.toNat
  else if off = Reg.TB.EPOCH then wd (d.time.tl.toNat / 2 ^ 48)
  else rd d pgTb off

/-- SOFT_RST of the TB page (R80): what it returns to reset values; all else keeps its value, a relock under way too. -/
def tbReset (d : Device) : Device :=
  let keep := [Reg.TB.DL_OK, Reg.TB.SYNC_OFFSET, Reg.TB.SYNC_DELAY, Reg.TB.SLOW_TRIM, Reg.TB.WAKE_CNT_LO, Reg.TB.WAKE_CNT_HI,
    Reg.TB.WAKE_ERR, Reg.TB.WAKE_STAMP_LO, Reg.TB.WAKE_STAMP_HI]
  let ref := rd d pgTb Reg.TB.REF_STAT &&& 0x3#32
  let sync := rd d pgTb Reg.TB.SYNC_STAT &&& 0xFF000F#32
  let par := rdF d pgTb Reg.TB.SYNC_CTL 8 4
  let d := { d with
    regs := d.regs.filter (fun e => decide (e.1 < rkey pgTb 0x040) || decide (rkey pgTb 0x1000 ≤ e.1) ||
      keep.contains (e.1 - rkey pgTb 0))
    shadow := d.shadow.filter (fun e => decide (e.1 < rkey pgTb 0x040) || decide (rkey pgTb 0x1000 ≤ e.1))
    time := { d.time with ptpDue := [], cmpArmed := 0#8, cmpVal := [], dlErr := [] } }
  d |> wr pgTb Reg.TB.REF_STAT ref |> wr pgTb Reg.TB.SYNC_STAT sync |> wrF pgTb Reg.TB.SYNC_CTL 8 4 par

/-! ## LEGSYS and SAFEPAT -/

/-- The pins that stand at their asserted level, as bits (R114). -/
def tripAssertedMask (d : Device) : Word := d.legs.trip ^^^ rd d pgLegsys Reg.LEGSYS.TRIP_POL

/-- TRIP_POL is written: a pin's asserted level is its level against its polarity; a pin that is not at it now is no source, one that
has come to it counts the ticks it has held its level (R114). DESIGN CHOICE (log 31). -/
def writePolarity (w : Wr) (d : Device) : Device :=
  let d := storeReg pgLegsys Reg.LEGSYS.TRIP_POL w.data d
  wr pgLegsys Reg.LEGSYS.TRIP_LVL (rd d pgLegsys Reg.LEGSYS.TRIP_LVL &&& tripAssertedMask d) d

/-- TZ_CLR (R115): the zones that no source asserts clear, and the legs follow (R118, R121). -/
def writeTzClr (mask : Nat) (d : Device) : Device :=
  refreshLegs (forEach ((List.range 8).filter (fun z => mask.testBit z)) clearZone d)

/-- START and STOP (R87). -/
def startGroups (mask : Word) (b : Bool) (d : Device) : Device :=
  forEach ((bitsOf mask 32).filter (fun g => domainOn d (pgLg g))) (fun g => setRun g b) d

def legsysWrite (off : Nat) (w : Wr) (d : Device) : Device :=
  if off = Reg.LEGSYS.START then startGroups w.data true d
  else if off = Reg.LEGSYS.STOP then startGroups w.data false d
  else if off = Reg.LEGSYS.GSYNC_SW then (if one w 0 ∧ gsyncKind d = 1 then { d with legs := { d.legs with gsyncDue := true } } else d)
  else if off = Reg.LEGSYS.TRIP_POL then writePolarity w d
  else if off = Reg.LEGSYS.TZ_SW then flashZones (fld w.data 0 8) 5 0 d
  else if off = Reg.LEGSYS.TZ_CLR then writeTzClr (fld w.data 0 8) d
  else latchSourced (storeReg pgLegsys off w.data d)

def legsysView (off : Nat) (d : Device) : Word :=
  if off = Reg.LEGSYS.RUNNING then
    wd (((List.range 32).filter (running d)).foldl (fun a g => a + 2 ^ g) 0)
  else rd d pgLegsys off

/-- SOFT_RST of LEGSYS (R133): a pin's level counts against the polarity of reset. DESIGN CHOICE (log 31). -/
def legsysReset (d : Device) : Device :=
  let keep := [Reg.LEGSYS.TRIP_LVL, Reg.LEGSYS.TZ_LATCH] ++ (List.range 8).map Reg.LEGSYS.TZ_CFG ++
    ((List.range 8).filter (zoneLatched d)).map Reg.LEGSYS.TZ_CAUSE
  let d := { d with regs := d.regs.filter (fun e => decide (e.1 < rkey pgLegsys 0x040) || decide (rkey pgLegsys 0x1000 ≤ e.1) ||
      keep.contains (e.1 - rkey pgLegsys 0)) }
  wr pgLegsys Reg.LEGSYS.TRIP_LVL (rd d pgLegsys Reg.LEGSYS.TRIP_LVL &&& tripAssertedMask d) d

def safepatWrite (off : Nat) (w : Wr) (d : Device) : Device := refreshLegs (storeReg pgSafepat off w.data d)
def safepatView (off : Nat) (d : Device) : Word := if off = Reg.SAFEPAT.STAT then safeStat d else rd d pgSafepat off

/-! ## LG -/

/-- The leg whose block holds an offset of page LG[g], and the offset within the block. -/
def legBlock (g off : Nat) : Option (Nat × Nat) :=
  if 0x100 ≤ off ∧ off < 0x200 then some (4 * g + (off - 0x100) / 64, (off - 0x100) % 64) else none

def writeLgCtl (g : Nat) (w : Wr) (d : Device) : Device :=
  let p := pgLg g
  let was := running d g
  let wasUd := upDown d g
  let wasPl := pload d g
  let d := storeReg p Reg.LG.CTL w.data d
  let d := if upDown d g = wasUd then d else turnCarrier g d
  let d := if wasPl ≠ 3 ∧ pload d g = 3 then takeGroupSet g (notePer g d) else d
  carrierStart g was d

/-- SHFRZ (R93): a leg thawed with IMMEDIATE takes its pending values. -/
def writeShfrz (g : Nat) (w : Wr) (d : Device) : Device :=
  let was := rd d (pgLg g) Reg.LG.SHFRZ
  let d := storeReg (pgLg g) Reg.LG.SHFRZ w.data d
  forEach ((List.range 4).filter (fun j => bit was j && !rdB d (pgLg g) Reg.LG.SHFRZ j)) (fun j => thawLeg (4 * g + j)) d

def writeLegCfg (n : Nat) (w : Wr) (d : Device) : Device :=
  let was := legMode d n
  let wasSel := legLoadSel d n
  let d := storeReg (pgLg (n / 4)) (Reg.LG.CFG (n % 4)) w.data d
  let d := if wasSel = 3 then d else thawLeg n d
  modeChanged n was d

def lgWrite (g off : Nat) (w : Wr) (d : Device) : Device :=
  let p := pgLg g
  if off = Reg.LG.CTL then writeLgCtl g w d
  else if off = Reg.LG.SHFRZ then writeShfrz g w d
  else if off = Reg.LG.PER ∨ off = Reg.LG.PHASE then writeGroupShadow g off w.data d
  else match legBlock g off with
    | some (n, b) =>
      if b = 0x00 then writeLegCfg n w d
      else if 0x04 ≤ b ∧ b ≤ 0x18 then writeLegShadow n off (maskedValue p off w.data) d
      else if b = 0x1C then
        let d := storeReg p off w.data d
        if legMode d n = 3 then enterMode n d else d
      else if b = 0x20 ∨ b = 0x24 then refreshLeg (nowF d) n (storeReg p off w.data d)
      else storeReg p off w.data d
    | none => storeReg p off w.data d

def lgView (g off : Nat) (d : Device) : Word :=
  if off = Reg.LG.COUNT then wd (carrierOf d g).count
  else if off = Reg.LG.STAT then wd (b2n (upDown d g && (carrierOf d g).down) + 2 * b2n (running d g))
  else match legBlock g off with
    | some (n, b) => if b = 0x28 then legStat d n else rd d (pgLg g) off
    | none => rd d (pgLg g) off

/-! ## TMR -/

/-- The codes that a write of a selector records (R144, R147): BAD_SELECTOR before GATE_SRC where both apply. DESIGN CHOICE (log 132). -/
def tmrNotes (n off : Nat) (w : Wr) (d : Device) : Device :=
  let p := pgTmr n
  if off = Reg.TMR.CNT_EVT ∨ off = Reg.TMR.CAP_EVT then note (selBad (fld w.data 0 16)) p 0x81 off w.who d
  else if off = Reg.TMR.SLV then
    let s := fld w.data 16 16
    d |> note (selBad s) p 0x81 off w.who
      |> note (decide (fld w.data 0 3 = 1) && (selTimer s).isNone && !(decide (selKind s = 10) && selOk s)) p 0x80 off w.who
  else d

def tmrWrite (n off : Nat) (w : Wr) (d : Device) : Device :=
  let p := pgTmr n
  if off = Reg.TMR.CTL then
    let was := tmrRuns d n
    let d := storeReg p off w.data d
    if tmrRuns d n ∧ ¬ was then startTimer n d else d
  else if off = Reg.TMR.COUNT then loadCount n w.data d
  else if off = Reg.TMR.CAP_STAT then
    if one w 8 then wrF p off 8 24 0 d else d
  else storeReg p off w.data d

/-- STAT and CAP_STAT of a TMR page (R164): live bits, GATE_OPEN from reset on. DEDUCED (log 133). -/
def tmrView (n off : Nat) (d : Device) : Word :=
  let p := pgTmr n
  if off = Reg.TMR.CAP_STAT then setFld (rd d p off) 0 3 (timerOf d n).queue.length
  else if off = Reg.TMR.CAP_HEAD then
    match (timerOf d n).queue with
    | c :: _ => c.count
    | [] => 0#32
  else if off = Reg.TMR.STAT then
    wd (128 * b2n (timerOf d n).out + 64 * b2n (gateOpen d n) + 32 * b2n (dbgStopped d n) + 16 * b2n (tmrRuns d n) +
      8 * b2n (d.tmrs.tio.getLsbD n))
  else rd d p off

/-- A read of CAP_HEAD pops (R156). -/
def capPop (n : Nat) (d : Device) : Device :=
  let p := pgTmr n
  match (timerOf d n).queue with
  | [] => wrB p Reg.TMR.CAP_POP_INFO 31 false d
  | c :: cs => d |> setTimer n { timerOf d n with queue := cs }
    |> wr p Reg.TMR.CAP_POP_INFO (wd (2 ^ 31 + c.edge * 2 ^ 16 + c.stamp / 2 ^ 32))
    |> wr p Reg.TMR.CAP_POP_STAMP (wd c.stamp)

/-! ## MODG and XBS -/

/-- The slice is in service, or held by a conversion, or is the spare (R176, R185). -/
def sliceUsed (d : Device) (q s : Nat) : Bool :=
  (!noSpare d q && decide (spareOf d q = s)) || decide ((modOf d q).held.map (fun h => h.2) = some s) ||
    (List.range 12).any (fun c => decide (sliceOf d q c = s) && !chanDead d q c)

/-- The code that refuses a write of a MODG page at its handshake: OFFS or GAIN of a slice in use (R176), INIT in a state or mode that
does not accept it (R177). -/
def modgRefusal (d : Device) (q off : Nat) (w : Wr) : Option Nat :=
  if 0x0C0 ≤ off ∧ off < 0x128 ∧ enabled d (pgModg q) ∧ sliceUsed d q ((off - 0x0C0) / 8) then some 0x80
  else if off = Reg.MODG.CTL ∧ one w 3 ∧
      (enabled d (pgModg q) ∨ ¬ (d.sys.mode = .configure ∨ d.sys.mode = .hold ∨ d.sys.mode = .safe)) then some 0x81
  else none

/-- INIT reads 1 from its write on. -/
def modgNotes (q off : Nat) (w : Wr) (d : Device) : Device :=
  doIf (decide (off = Reg.MODG.CTL) && one w 3) (wrB (pgModg q) off 3 true) d

def modgWrite (q off : Nat) (w : Wr) (d : Device) : Device :=
  let p := pgModg q
  if off = Reg.MODG.CTL then
    doIf (one w 3 && (modOf d q).initAt.isNone) (initBegin q) (storeReg p off w.data d)
  else if off = Reg.MODG.PIN then pinStep q (storeReg p off w.data d)
  else markRuns (storeReg p off w.data d)

def modgView (q off : Nat) (d : Device) : Word :=
  if off = Reg.MODG.STAT then mgStat d q
  else if off = Reg.MODG.REF_STAT then
    (rd d (pgModg q) off &&& 1#32) ||| wd (2 * b2n (rdB d (pgModg q) Reg.MODG.CTL 2))
  else if 0x080 ≤ off ∧ off < 0x0B0 then mgMap d q ((off - 0x080) / 4)
  else rd d (pgModg q) off

/-- A write of XBS: a clock's setting waits for its first rising edge (R197); an input's clock and delay, and its coefficients, count
from now on (R198, R199, R216). -/
def xbsWrite (off : Nat) (w : Wr) (d : Device) : Device :=
  let d := storeReg pgXbs off w.data d
  if off < Reg.XBS.XCFG 0 then
    let m := (off - Reg.XBS.MCLK_CFG 0) / 4
    let x := mclkOf d m
    setMclk m { x with pend := if rd d pgXbs off = x.cfg then none else some (rd d pgXbs off) } d
  else if off < Reg.XBS.XOFFS 0 then reclock (xbsCheck d)
  else markRuns d

/-! ## FF, PFE, PFESEQ -/

/-- CFG of a channel (R206, R208). -/
def writeFastCfg (ch off : Nat) (w : Wr) (d : Device) : Device :=
  let p := pgFf (ch / 16)
  let was := fastOn d ch
  let wasN := rdF d p off 0 3
  let d := storeReg p off w.data d
  if was ∧ ¬ fastOn d ch then fastStop ch d
  else if fastOn d ch ∧ (¬ was ∨ wasN ≠ rdF d p off 0 3) then fastRestart ch d
  else d

/-- A write of a comparator's settings (R214): counts to 0, a disabled comparator deasserts; a zone newly named may latch. -/
def writeCmp (ch off : Nat) (w : Wr) (d : Device) : Device :=
  let d := storeReg (pgFf (ch / 16)) off w.data d
  let f := filtOf d ch
  latchSourced (setFilt ch { f with
    hiRun := 0, loRun := 0, hi := f.hi && bit (cmpCfg d ch) 0, lo := f.lo && bit (cmpCfg d ch) 1 } d)

/-- The code that a write of a reserved OSR records (R206). -/
def ffNotes (f off : Nat) (w : Wr) (d : Device) : Device :=
  let ch := 16 * f + (off - 0x100) / 64
  note (decide (0x100 ≤ off) && decide (off < 0x500) && decide ((off - 0x100) % 64 = 0) &&
    decide ((if ch < 96 then 3 else 5) < fld w.data 0 3)) (pgFf f) 0x80 off w.who d

def ffWrite (f off : Nat) (w : Wr) (d : Device) : Device :=
  let ch := 16 * f + (off - 0x100) / 64
  let b := (off - 0x100) % 64
  if 0x100 ≤ off ∧ off < 0x500 then
    if b = 0x00 then writeFastCfg ch off w d
    else if b = 0x08 ∨ b = 0x0C ∨ b = 0x10 ∨ b = 0x14 then writeCmp ch off w d
    else storeReg (pgFf f) off w.data d
  else storeReg (pgFf f) off w.data d

def ffView (f off : Nat) (d : Device) : Word :=
  if off = Reg.FF.CMP_LIVE then
    wd (((List.range 16).map (fun j => 2 ^ j * b2n (filtOf d (16 * f + j)).hi + 2 ^ (16 + j) * b2n (filtOf d (16 * f + j)).lo)).foldl
      (· + ·) 0)
  else if 0x100 ≤ off ∧ off < 0x500 ∧ (off - 0x100) % 64 = 0x18 then
    let x := filtOf d (16 * f + (off - 0x100) / 64)
    rd d (pgFf f) off ||| wd (b2n x.hi + 2 * b2n x.lo)
  else rd d (pgFf f) off

def pfeWrite (p off : Nat) (w : Wr) (d : Device) : Device :=
  if off = Reg.PFE.RES_STAT then (if one w 8 then wrF (pgPfe p) off 8 24 0 d else d) else storeReg (pgPfe p) off w.data d

def pfeView (p off : Nat) (d : Device) : Word :=
  if off = Reg.PFE.STAT then pfeStat d p
  else if off = Reg.PFE.RES_STAT then setFld (rd d (pgPfe p) off) 0 6 (pfeOf d p).fifo.length
  else if off = Reg.PFE.RES_HEAD then
    match (pfeOf d p).fifo with
    | r :: _ => resHeadWord r
    | [] => 0#32
  else rd d (pgPfe p) off

/-- A read of RES_HEAD pops (R229). -/
def resPop (p : Nat) (d : Device) : Device :=
  match (pfeOf d p).fifo with
  | [] => wrB (pgPfe p) Reg.PFE.RES_POP_INFO 31 false d
  | r :: rs => d |> setPfe p { pfeOf d p with fifo := rs }
    |> wr (pgPfe p) Reg.PFE.RES_POP_INFO (resInfoWord r)
    |> wr (pgPfe p) Reg.PFE.RES_POP_STAMP (wd r.req.stamp) |> wr (pgPfe p) Reg.PFE.RES_POP_SEQ r.req.seq

/-- The codes that a write of a sequencer entry records (R220, R221). -/
def pfeseqNotes (off : Nat) (w : Wr) (d : Device) : Device :=
  if 0x100 ≤ off ∧ off < 0x300 then
    if off % 8 = 0 then note (selBad (fld w.data 0 16)) pgPfeseq 0x81 off w.who d
    else note (badTarget w.data) pgPfeseq 0x80 off w.who d
  else d

def pfeseqWrite (off : Nat) (w : Wr) (d : Device) : Device :=
  if off = Reg.PFESEQ.SW_TRG_LO then { d with swTrg := d.swTrg ||| w.data.setWidth 64 }
  else if off = Reg.PFESEQ.SW_TRG_HI then { d with swTrg := d.swTrg ||| (w.data.setWidth 64 <<< 32) }
  else storeReg pgPfeseq off w.data d

/-! ## BE, OLU, POS -/

def beWrite (n off : Nat) (w : Wr) (d : Device) : Device :=
  let p := pgBe n
  if off = Reg.BE.REF then
    if beRefSrc d n = 1 ∨ beRefSrc d n = 2 then refuse p 0x80 off w.who d else storeReg p off w.data d
  else if off = Reg.BE.CFG then
    let was := rdB d p off 12
    let d := storeReg p off w.data d
    let d := note (decide (fld w.data 8 2 = 3) || decide (159 < fld w.data 0 8)) p 0x81 off w.who d
    if was = rdB d p off 12 then d else restartAdapt n d
  else if off = Reg.BE.BAND_HI ∨ off = Reg.BE.BAND_LO then checkLim n (restartAdapt n (storeReg p off w.data d))
  else if off = Reg.BE.BAND_MIN ∨ off = Reg.BE.BAND_MAX then checkLim n (storeReg p off w.data d)
  else if off = Reg.BE.TBL_PH_FR then setBand n { bandOf d n with frNew := w.data } d
  else if off = Reg.BE.TBL_PH_IX then
    let b := bandOf d n
    setBand n { b with ix := fld w.data 0 12 % tblLen d n, fr := b.frNew.toNat } d
  else if off = Reg.BE.TBL_LEN then
    let d := storeReg p off w.data d
    setBand n { bandOf d n with ix := (bandOf d n).ix % tblLen d n } d
  else storeReg p off w.data d

def beView (n off : Nat) (d : Device) : Word :=
  if off = Reg.BE.STAT then beStat d n
  else if off = Reg.BE.REF ∧ (beRefSrc d n = 1 ∨ beRefSrc d n = 2) then (bandOf d n).refUsed
  else if off = Reg.BE.TBL_PH_IX then wd (bandOf d n).ix
  else if off = Reg.BE.TBL_PH_FR then wd (bandOf d n).fr
  else rd d (pgBe n) off

/-- The codes that a write of CFG or TRIG records (R257, R259). -/
def oluNotes (u off : Nat) (w : Wr) (d : Device) : Device :=
  let p := pgOlu u
  if off = Reg.OLU.CFG then note (badFb w.data || decide (fld w.data 0 2 = 3)) p 0x80 off w.who d
  else if off = Reg.OLU.TRIG then
    let s := fld w.data 0 16
    note (decide (selKind s ≠ 0) && (selTimer s).isNone) p 0x81 off w.who d
  else d

def oluWrite (u off : Nat) (w : Wr) (d : Device) : Device :=
  let p := pgOlu u
  if 0x0C0 ≤ off ∧ off < 0x0E0 then
    if rdB d p Reg.OLU.BANK 0 then wr p (off - 0x20) (maskedValue p off w.data) d else storeReg p off w.data d
  else if off = Reg.OLU.BANK then
    d |> doIf (one w 0) (wrB p off 0 true) |> doIf (one w 1) (wrB p off 1 true)
  else storeReg p off w.data d

/-- The parts of an integrator (R285). -/
def intPart (v : Int) (i : Nat) : Word :=
  let n := wrapN 72 v
  if i = 0 then wd n else if i = 1 then wd (n / 2 ^ 32) else wd (n / 2 ^ 64)

/-- SWAP and INT_CLR read 1 from their write on, usable or not (R271, R274). -/
def bankView (u : Nat) (d : Device) : Word :=
  let ws := d.soon.filter (fun e => decide (e.page = pgOlu u) && decide (e.off = Reg.OLU.BANK))
  rd d (pgOlu u) Reg.OLU.BANK ||| wd (b2n (ws.any (fun e => one e.w 0)) + 2 * b2n (ws.any (fun e => one e.w 1)))

def oluView (u off : Nat) (d : Device) : Word :=
  let o := oluOf d u
  if off = Reg.OLU.BANK then bankView u d
  else if off = Reg.OLU.STAT then oluStat d u
  else if off = Reg.OLU.INT_D_LO then intPart o.intD 0
  else if off = Reg.OLU.INT_D_MID then (match o.holdD with | some h => h.1 | none => intPart o.intD 1)
  else if off = Reg.OLU.INT_D_HI then (match o.holdD with | some h => h.2 | none => intPart o.intD 2)
  else if off = Reg.OLU.INT_Q_LO then intPart o.intQ 0
  else if off = Reg.OLU.INT_Q_MID then (match o.holdQ with | some h => h.1 | none => intPart o.intQ 1)
  else if off = Reg.OLU.INT_Q_HI then (match o.holdQ with | some h => h.2 | none => intPart o.intQ 2)
  else rd d (pgOlu u) off

/-- A read of INT_D_LO or INT_Q_LO fills the holding registers (R285). -/
def intHold (u : Nat) (q : Bool) (d : Device) : Device :=
  let o := oluOf d u
  if q then setOlu u { o with holdQ := some (intPart o.intQ 1, intPart o.intQ 2) } d
  else setOlu u { o with holdD := some (intPart o.intD 1, intPart o.intD 2) } d

/-- A channel takes the present levels as its starting state (R290, R304, R309). -/
def posRestart (n : Nat) (d : Device) : Device := setPos n { posOf d n with stepsValid := 0, ssiPrev := none } d

/-- The codes that a write of CFG or SSI_TRIG records (R290, R307). -/
def posNotes (n off : Nat) (w : Wr) (d : Device) : Device :=
  let p := pgPos n
  if off = Reg.POS.CFG then note (decide (4 < fld w.data 0 3)) p 0x80 off w.who d
  else if off = Reg.POS.SSI_TRIG then note (selBad (fld w.data 0 16)) p 0x81 off w.who d
  else d

/-- DEDUCED (log 62). -/
def posWrite (n off : Nat) (w : Wr) (d : Device) : Device :=
  let p := pgPos n
  if off = Reg.POS.CFG then
    let was := posMode d n
    let d := storeReg p off w.data d
    let d := if posMode d n = was then d else ssiStop n (posRestart n d)
    let raw := posRd d n Reg.POS.RAW
    let cnt := posRd d n Reg.POS.COUNT
    if posCfgB d n 4 ∨ cnt = raw then d
    else d |> wr p Reg.POS.COUNT raw |> wrB p Reg.POS.STAT 0 (decide (raw = posWrap d n ((cnt.toNat : Int) - 1)))
  else if off = Reg.POS.COUNT then loadPos n w.data d
  else if off = Reg.POS.MODULO then
    let d := storeReg p off w.data d
    d |> setRaw n (posWrap d n (posRd d n Reg.POS.RAW).toNat) |> wr p Reg.POS.COUNT (posWrap d n (posRd d n Reg.POS.COUNT).toNat)
  else if off = Reg.POS.SSI_CTL then (if one w 0 then ssiBegin n d else d)
  else storeReg p off w.data d

def posView (n off : Nat) (d : Device) : Word :=
  if off = Reg.POS.STAT then posStat d n
  else if off = Reg.POS.SPEED then posSpeed d n
  else if off = Reg.POS.EDGE_SPAN then wd (edgeSpan d n)
  else if off = Reg.POS.SSI_DATA_HI then (match (posOf d n).ssiHold with | some h => h.1 | none => rd d (pgPos n) off)
  else if off = Reg.POS.SSI_STAMP_LO then (match (posOf d n).ssiHold with | some h => h.2 | none => rd d (pgPos n) off)
  else rd d (pgPos n) off

/-- A read of SSI_DATA_LO fills the holding registers (R310). -/
def ssiHoldRead (n : Nat) (d : Device) : Device :=
  setPos n { posOf d n with
    ssiHold := some (posRd d n Reg.POS.SSI_DATA_HI, posRd d n Reg.POS.SSI_STAMP_LO) } d

end Sys2Proof.Machine
end

