-- ==== Sys2Proof/Machine/CheckOps.lean ====
section
/-! DEFINITION. Scrubbers and check-value units (spec/12, R438 to R460): passes, check values, Cricket messages and the pages of
MEMERR, SCRUB and CVU. -/

namespace Sys2Proof.Machine

/-! ## Scrubbers -/

def scrubRun (d : Device) (n : Nat) : Option ScrubPass := d.scrub.find? n
def setScrub (n : Nat) (p : Option ScrubPass) (d : Device) : Device :=
  match p with
  | some x => { d with scrub := d.scrub.insert n x }
  | none => { d with scrub := d.scrub.erase n }

/-- The range of a pass lies in one memory and outside banks mapped out (R438). -/
def scrubRange (d : Device) (a n : Nat) : Option (Nat × Nat) :=
  if a % 8 ≠ 0 ∨ n % 8 ≠ 0 then none
  else match memIdOf a, memIdOf (a + n - 1) with
    | some x, some y =>
      if x = y ∧ (x.1 ≠ 113 ∨ (List.range ((a + n - 1 - x.2) / 0x100000 + 1)).all (fun b =>
          decide (b < (a - x.2) / 0x100000) || !bankOut d b)) then some x else none
    | _, _ => none

/-- The summary of a scrubber is cleared (R439). -/
def scrubClear (n : Nat) (d : Device) : Device :=
  forEach ([Reg.SCRUB.STAT, Reg.SCRUB.WORDS, Reg.SCRUB.CE, Reg.SCRUB.UE, Reg.SCRUB.POISONED, Reg.SCRUB.FIRST_LO,
    Reg.SCRUB.FIRST_HI, Reg.SCRUB.LAST_LO, Reg.SCRUB.LAST_HI] ++ (List.range 16).map Reg.SCRUB.HIST)
    (fun off d => wr (pgScrub n) off 0#32 d) d

/-- The pass is over (R442). -/
def scrubDone (n : Nat) (d : Device) : Device :=
  d |> setScrub n none |> wrB (pgScrub n) Reg.SCRUB.STAT 0 true |> raise (pgScrub n) 0

/-- START is written to a scrubber that is not busy (R438, R439). A LEN of 0 completes at once. -/
def scrubStart (n : Nat) (who : Requester) (d : Device) : Device :=
  let p := pgScrub n
  let a := (rd d p Reg.SCRUB.START_LO).toNat + rdF d p Reg.SCRUB.START_HI 0 4 * 2 ^ 32
  let len := (rd d p Reg.SCRUB.LEN).toNat
  match scrubRange d a (max 8 len) with
  | none => recordErr p 0x80 who Reg.SCRUB.CTL d
  | some m =>
    let d := wrF p Reg.SCRUB.STAT 16 8 m.1 (scrubClear n d)
    if len = 0 then scrubDone n d
    else setScrub n (some {
      word := a / 8, left := len / 8, repair := rdB d p Reg.SCRUB.CTL 1, lastAt := 0, ueSeen := false, id := m.1, base := m.2 }) d

/-- The next word read of the pass may begin (R441). -/
def scrubReady (d : Device) (n : Nat) : Bool :=
  match scrubRun d n with
  | some p => enabled d (pgScrub n) && domainOn d (pgScrub n) &&
      (decide (p.lastAt = 0) || decide (p.lastAt + rdF d (pgScrub n) Reg.SCRUB.PACE 0 16 ≤ d.time.now + 1))
  | none => false

/-- FIRST and LAST take a bad word's address. -/
def scrubNote (n a : Nat) (d : Device) : Device :=
  let p := pgScrub n
  let hi := wd (2 ^ 31 + a / 2 ^ 32)
  let d := if rdB d p Reg.SCRUB.FIRST_HI 31 then d else d |> wr p Reg.SCRUB.FIRST_LO (wd a) |> wr p Reg.SCRUB.FIRST_HI hi
  d |> wr p Reg.SCRUB.LAST_LO (wd a) |> wr p Reg.SCRUB.LAST_HI hi

/-- The histogram's count of a bank, saturating at 255. -/
def scrubHist (n b : Nat) (d : Device) : Device :=
  let off := Reg.SCRUB.HIST (b / 4)
  wrF (pgScrub n) off (8 * (b % 4)) 8 (min 255 (rdF d (pgScrub n) off (8 * (b % 4)) 8 + 1)) d

/-- One word of a pass (R439, R440): read, decoded, counted, and in REPAIR mode written back. A word whose memory has lost its
power in the meantime is passed over. -/
def scrubWord (n : Nat) (s : Device × Memory) : Device × Memory :=
  match scrubRun s.1 n with
  | none => s
  | some p =>
    let g := pgScrub n
    let x := decodeWord s.2 p.word
    let ok := ramOk s.1 (8 * p.word)
    let d := s.1
    let d := if ok then bump g Reg.SCRUB.WORDS d else d
    let bank := (8 * p.word - p.base) / bankSize p.id
    let d := if ¬ ok then d else match x.outcome with
      | .clean => d
      | .corrected => d |> bump g Reg.SCRUB.CE |> scrubNote n (8 * p.word) |> scrubHist n bank
      | .poisoned => bump g Reg.SCRUB.POISONED d
      | .uncorrectable =>
        d |> bump g Reg.SCRUB.UE |> scrubNote n (8 * p.word) |> scrubHist n bank |> raiseIf (!p.ueSeen) g 1
    let m := if ok ∧ p.repair ∧ x.outcome ≠ .clean then storeWord p.word x.data x.bad s.2 else s.2
    let p' := { p with
      word := p.word + 1, left := p.left - 1, lastAt := s.1.time.now + 1
      ueSeen := p.ueSeen || (ok && decide (x.outcome = .uncorrectable)) }
    if p.left ≤ 1 then (scrubDone n d, m) else (setScrub n (some p') d, m)

/-- Writes of a SCRUB page. START on a page whose EN is 0 begins nothing. -/
def scrubWrite (n off : Nat) (w : Wr) (d : Device) : Device :=
  if off = Reg.SCRUB.CTL then
    if one w 0 ∧ (scrubRun d n).isSome then refuse (pgScrub n) 0x81 off w.who d
    else
      let d := storeReg (pgScrub n) off w.data d
      if one w 0 ∧ enabled d (pgScrub n) then scrubStart n w.who d else d
  else storeReg (pgScrub n) off w.data d

/-- A pass ends at a word boundary (R443). -/
def scrubAbort (n : Nat) (d : Device) : Device :=
  if (scrubRun d n).isSome then d |> setScrub n none |> wrB (pgScrub n) Reg.SCRUB.STAT 1 true else d

/-- SOFT_RST of MEMERR (R457): the counts and infos clear, and what BOOT set stays. -/
def memerrReset (d : Device) : Device :=
  forEach (List.range 128) (fun id d => d |> wr pgMemerr (Reg.MEMERR.CE_CNT id) 0#32 |> wr pgMemerr (Reg.MEMERR.CE_INFO id) 0#32
    |> wr pgMemerr (Reg.MEMERR.UE_CNT id) 0#32 |> wr pgMemerr (Reg.MEMERR.UE_INFO id) 0#32)
    (wr pgMemerr Reg.MEMERR.EVT_EN 0#32 d)

/-! ## Check values (R444 to R448) -/

/-- The n low bits of a number in reverse order. -/
def reflect (n v : Nat) : Nat := (List.range n).foldl (fun a i => 2 * a + v / 2 ^ i % 2) 0

/-- One bit of the computation. -/
def crcBit (w poly cv b : Nat) : Nat :=
  let fb := (cv / 2 ^ (w - 1) + b) % 2
  let s := 2 * cv % 2 ^ w
  if fb = 1 then s ^^^ poly % 2 ^ w else s

/-- One byte, most significant bit first. -/
def crcByte (w poly : Nat) (refin : Bool) (cv : Nat) (x : Byte) : Nat :=
  let v := if refin then reflect 8 x.toNat else x.toNat
  [7, 6, 5, 4, 3, 2, 1, 0].foldl (fun cv i => crcBit w poly cv (v / 2 ^ i % 2)) cv

def cvuRd64 (d : Device) (c lo hi : Nat) : Nat := (rd d (pgCvu c) lo).toNat + (rd d (pgCvu c) hi).toNat * 2 ^ 32
def cvuCfgB (d : Device) (c i : Nat) : Bool := rdB d (pgCvu c) Reg.CVU.CFG i

/-- Width (R444), mode with 3 acting as COMPUTE (R448), source, and bytes to feed. -/
def cvuWidth (d : Device) (c : Nat) : Nat := max 2 (rdF d (pgCvu c) Reg.CVU.CFG 8 6) + 1
def cvuMode (d : Device) (c : Nat) : Nat :=
  if rdF d (pgCvu c) Reg.CVU.CFG 0 2 = 3 then 0 else rdF d (pgCvu c) Reg.CVU.CFG 0 2
def cvuSrc (d : Device) (c : Nat) : Nat := (rd d (pgCvu c) Reg.CVU.SRC_LO).toNat + rdF d (pgCvu c) Reg.CVU.SRC_HI 0 16 * 2 ^ 32
def cvuLen (d : Device) (c : Nat) : Nat :=
  if (rd d (pgCvu c) Reg.CVU.LEN).toNat = 0 then 2 ^ 32 else (rd d (pgCvu c) Reg.CVU.LEN).toNat
/-- DEDUCED (log 79). -/
def cvuElem (d : Device) (c : Nat) : Nat := max 1 (min 4096 (rdF d (pgCvu c) Reg.CVU.ELEM 0 13))
def cvuStride (d : Device) (c : Nat) : Nat := (rd d (pgCvu c) Reg.CVU.STRIDE).toNat

/-- The four fold bytes (R447). -/
def cvuFold (d : Device) (c : Nat) : List Byte :=
  if cvuCfgB d c 4 then
    bytesBE 4 (if cvuCfgB d c 5 then (rd d (pgCvu c) Reg.CVU.SRC_LO).toNat else (rd d (pgCvu c) Reg.CVU.FOLD_VAL).toNat)
  else []

/-- The check value of fed bytes under the settings of CVU c (R444). -/
def cvuValue (d : Device) (c : Nat) (fed : List Byte) : Nat :=
  let w := cvuWidth d c
  let poly := cvuRd64 d c Reg.CVU.POLY_LO Reg.CVU.POLY_HI % 2 ^ w
  let cv := fed.foldl (crcByte w poly (cvuCfgB d c 2)) (cvuRd64 d c Reg.CVU.INIT_LO Reg.CVU.INIT_HI % 2 ^ w)
  let cv := if cvuCfgB d c 3 then reflect w cv else cv
  (cv ^^^ cvuRd64 d c Reg.CVU.XOROUT_LO Reg.CVU.XOROUT_HI) % 2 ^ w

/-- The pieces of the range scanned: fabric address and length (R446, R449). -/
def cvuPieces (d : Device) (c : Nat) : List (Nat × Nat) :=
  let src := cvuSrc d c
  let len := cvuLen d c
  let el := cvuElem d c
  let st := cvuStride d c
  if cvuMode d c = 2 ∨ st ≤ el then [(src, len)]
  else (List.range ((len + el - 1) / el)).map (fun e => ((src + e * st) % 2 ^ 48, min el (len - e * el)))

/-- A piece of the range reaches the 16 MiB of register pages (R21, R23). -/
def pieceOnPages (x : Nat × Nat) : Bool := decide (x.1 % 2 ^ 36 < pageBase + 0x1000000) && decide (pageBase < x.1 % 2 ^ 36 + x.2)

/-- The target of the scan is register pages, of one element at least. -/
def cvuOnPages (d : Device) (c : Nat) : Bool := (cvuPieces d c).any pieceOnPages

/-- The fields of a message: check field and counter field, offset and length (R449). -/
def cvuChk (d : Device) (c : Nat) : Nat × Nat := (rdF d (pgCvu c) Reg.CVU.MSG_CFG 16 12, (cvuWidth d c + 7) / 8)
def cvuCtr (d : Device) (c : Nat) : Nat × Nat := (rdF d (pgCvu c) Reg.CVU.MSG_CFG 0 12, if cvuCfgB d c 17 then 2 else 1)

/-- A range refused at START (R446, R449). -/
def cvuBadRange (d : Device) (c : Nat) : Bool :=
  let len := cvuLen d c
  let k := cvuChk d c
  let t := cvuCtr d c
  (cvuOnPages d c && (decide (cvuSrc d c % 4 ≠ 0) || decide (len % 4 ≠ 0) ||
      (decide (cvuMode d c ≠ 2) && (decide (cvuElem d c % 4 ≠ 0) || decide (cvuStride d c % 4 ≠ 0))))) ||
    (decide (cvuMode d c = 2) && (decide (len < 4) || decide (4096 < len) || decide (len < k.1 + k.2) ||
      decide (len < t.1 + t.2) || (decide (k.1 < t.1 + t.2) && decide (t.1 < k.1 + k.2))))

/-- What a scan brings back: the bytes, or the fault that ended it, with the fabric address of its word (R453): 1 POISON, 2 DECODE,
3 ROUTING. -/
inductive ScanOut where
  | bytes (bs : List Byte)
  | fault (cause addr : Nat)
  deriving DecidableEq, Repr

/-- A number in a message field, big-endian or little-endian (R449). -/
def cvuField (d : Device) (c : Nat) (bs : List Byte) (f : Nat × Nat) : Nat :=
  let x := slice bs f.1 f.2
  if cvuCfgB d c 18 then numLE x else numBE x

/-- STAT of a completed operation. -/
def cvuStat (outcome skip : Nat) (first : Bool) : Word := wd (skip * 2 ^ 16 + 64 * b2n first + 4 * outcome + 1)

/-- The outcome of a message (R450): outcome, SKIP, FIRST. DEDUCED (log 79). -/
def cvuOutcome (d : Device) (c : Nat) (res : Nat) (bs : List Byte) : Nat × Nat × Bool :=
  let ctr := cvuField d c bs (cvuCtr d c)
  let last := rd d (pgCvu c) Reg.CVU.LAST_CTR
  let m := if cvuCfgB d c 17 then 65536 else 256
  let dlt := (ctr + m - fld last 0 16 % m) % m
  let mx := max 1 (rdF d (pgCvu c) Reg.CVU.MAXDELTA 0 16)
  if cvuField d c bs (cvuChk d c) ≠ res then (4, 0, false)
  else if ¬ bit last 31 then (0, 0, true)
  else if dlt = 1 then (0, 0, false)
  else if dlt = 0 then (1, 0, false)
  else if dlt ≤ mx then (2, dlt - 1, false)
  else (3, 0, false)

/-- The operation of CVU c ends with what its scan brought (R448 to R453). DEDUCED (log 79). -/
def cvuComplete (c : Nat) (o : ScanOut) (d : Device) : Device :=
  let p := pgCvu c
  let d := { d with cvuBusy := d.cvuBusy.filter (fun x => x ≠ c) }
  match o with
  | .fault cause addr =>
    d |> wr p Reg.CVU.STAT (wd (cause * 256 + 128)) |> wr p Reg.CVU.FAULT_ADDR_LO (wd addr)
      |> wr p Reg.CVU.FAULT_ADDR_HI (wd (addr / 2 ^ 32)) |> wr p Reg.CVU.RES_LO 0#32 |> wr p Reg.CVU.RES_HI 0#32 |> raise p 2
  | .bytes bs =>
    let msg := decide (cvuMode d c = 2)
    let k := cvuChk d c
    let fed := cvuFold d c ++ (if msg then bs.take k.1 ++ bs.drop (k.1 + k.2) else bs)
    let res := cvuValue d c fed
    let ctr := cvuField d c bs (cvuCtr d c)
    let r := if msg then cvuOutcome d c res bs
      else if cvuMode d c = 1 ∧ res ≠ cvuRd64 d c Reg.CVU.EXPECT_LO Reg.CVU.EXPECT_HI % 2 ^ cvuWidth d c then (4, 0, false)
      else (0, 0, false)
    let takes := msg && (decide (r.1 = 0) || decide (r.1 = 2))
    let oow := msg && decide (r.1 = 3) && cvuCfgB d c 19
    let d := d |> wr p Reg.CVU.RES_LO (wd res) |> wr p Reg.CVU.RES_HI (wd (res / 2 ^ 32))
      |> wr p Reg.CVU.STAT (cvuStat r.1 r.2.1 r.2.2)
    let d := if takes then wr p Reg.CVU.LAST_CTR (wd (2 ^ 31 + ctr)) d
      else if oow then wrF p Reg.CVU.LAST_CTR 0 16 ctr d else d
    let d := doIf msg (bump p Reg.CVU.MSG_CNT) d
    let bad := decide (r.1 ≠ 0)
    d |> doIf bad (bump p Reg.CVU.BAD_CNT) |> raise p 0 |> raiseIf bad p 1

def cvuBusyB (d : Device) (c : Nat) : Bool := d.cvuBusy.contains c

/-- CTL of a CVU that is not busy (R446, R449, R451, R454). START on a page whose EN is 0 begins nothing. DEDUCED (log 80). -/
def cvuCtl (c : Nat) (w : Wr) (d : Device) : Device :=
  let p := pgCvu c
  let d := if one w 1 then wrB p Reg.CVU.LAST_CTR 31 false d else d
  if ¬ (one w 0 ∧ enabled d p) then d
  else if cvuBadRange d c then recordErr p 0x81 w.who Reg.CVU.CTL (answer (.error (.refused 0x81)) d)
  else wrB p Reg.CVU.STAT 0 false { d with cvuBusy := d.cvuBusy ++ [c] }

/-- Writes of a CVU page (R448, R454). -/
def cvuWrite (c off : Nat) (w : Wr) (d : Device) : Device :=
  if cvuBusyB d c then refuse (pgCvu c) 0x80 off w.who d
  else if off = Reg.CVU.CTL then cvuCtl c w d
  else
    let d := storeReg (pgCvu c) off w.data d
    note (decide (off = Reg.CVU.CFG) && decide (fld w.data 0 2 = 3)) (pgCvu c) 0x82 off w.who d

/-- A scan is stopped without a result (R455). DEDUCED (log 79). -/
def cvuAbort (c : Nat) (d : Device) : Device :=
  if cvuBusyB d c then
    { d with cvuBusy := d.cvuBusy.filter (fun x => x ≠ c) } |> wr (pgCvu c) Reg.CVU.RES_LO 0#32 |> wr (pgCvu c) Reg.CVU.RES_HI 0#32
  else d

end Sys2Proof.Machine
end

