-- ==== Sys2Proof/Machine/FabricOps.lean ====
section
/-! DEFINITION. The fabric (spec/15): the ends of the links (R515 to R525), Weevil's routing and fences (R532 to R536), messages
(R528 to R533), time-sync exchanges (R539), claims, IDs and tables (R544 to R547). -/

namespace Sys2Proof.Machine

def lkRd (d : Device) (l off : Nat) : Word := rd d (pgLink l) off

/-! ## Link-control flits and acknowledgement (R521 to R523) -/

/-- Credits that the far end gave for VC v (R525). -/
def creditOf (d : Device) (l v : Nat) : Nat := rdF d (pgLink l) Reg.LINK.CREDIT (8 * v) 8
def setCredit (l v n : Nat) (d : Device) : Device := wrF (pgLink l) Reg.LINK.CREDIT (8 * v) 8 n d

/-- The places of a receiver's buffers, by VC (R525). -/
def vcPlaces (v : Nat) : Nat := match v with | 0 => 96 | 1 => 32 | 2 => 96 | _ => 8

/-- A credit return arrives on link l (R523, R525). -/
def takeCredits (l vc n : Nat) (d : Device) : Device := setCredit l vc (min (vcPlaces vc) (creditOf d l vc + n)) d

/-- A place of VC v in the receive buffer of link l is free again (R525). -/
def oweCredit (l v : Nat) (d : Device) : Device :=
  let k := linkOf d l
  setLink l { k with owed := SMap.insert k.owed v (k.owed.get (fun _ => 0) v + 1) } d

/-- The number of the latest flit accepted (R522). -/
def lastAccepted (d : Device) (l : Nat) : Nat := (rdF d (pgLink l) Reg.LINK.RX_SEQ 0 12 + 4095) % 4096

/-- What is owed of a VC, in the portions that the 6 bits of CRET hold (R518). -/
def owedParts (k : Link) (v : Nat) : List (Nat × Nat) :=
  let n := k.owed.get (fun _ => 0) v
  if n = 0 then [] else if n ≤ 63 then [(v, n)] else [(v, 63), (v, n - 63)]

/-- Sends an LCTL; it returns credits of one VC, and a further ACK follows for each other portion that is owed (R523). DESIGN CHOICE (log 106). -/
def sendLctl (l kind number : Nat) (d : Device) : Device :=
  let k := linkOf d l
  let d := setLink l { k with owed := [], lctlSent := d.time.now } d
  match (List.range 4).flatMap (owedParts k) with
  | [] => emit (.lctl l kind number 0 0) d
  | c :: rest => forEach rest (fun c d => emit (.lctl l 0 (lastAccepted d l) c.1 c.2) d) (emit (.lctl l kind number c.1 c.2) d)

/-- An ACK of the latest accepted number (R522). -/
def sendAck (l : Nat) (d : Device) : Device :=
  sendLctl l 0 (lastAccepted d l) (setLink l { linkOf d l with accepted := 0, accAt := none } d)

/-- A NAK with the expected number (R522). DEDUCED (log 102). -/
def sendNak (l : Nat) (d : Device) : Device :=
  sendLctl l 1 (rdF d (pgLink l) Reg.LINK.RX_SEQ 0 12) (setLink l { linkOf d l with nakAt := some d.time.now } d)

/-- A sequenced flit with a good CRC arrives (R522): answers whether it is accepted. One that is accepted returns the credits that its CRET
names (R518). -/
def acceptSeq (l : Nat) (f : Flit) (d : Device) : Device × Bool :=
  let rx := rdF d (pgLink l) Reg.LINK.RX_SEQ 0 12
  if ¬ linkUp d l then (d, false)
  else if f.lseq = rx then
    let k := linkOf d l
    let d := wr (pgLink l) Reg.LINK.RX_SEQ (wd ((rx + 1) % 4096))
      (setLink l { k with accepted := k.accepted + 1, accAt := if k.accAt.isNone then some d.time.now else k.accAt, nakAt := none } d)
    let d := if f.cret % 64 = 0 then d else takeCredits l (f.cret / 64 % 4) (f.cret % 64) d
    (if 16 ≤ k.accepted + 1 then sendAck l d else d, true)
  else if (rx + 4096 - f.lseq) % 4096 ≤ 2047 then (sendAck l d, false)
  else if (linkOf d l).nakAt.isNone then (sendNak l d, false)
  else (d, false)

/-! ## States of a link (R516, R517) -/

/-- Enters a state. -/
def enterLink (l st : Nat) (d : Device) : Device :=
  let d := wrF (pgLink l) Reg.LINK.STAT 0 3 st d
  setLink l { linkOf d l with since := d.time.now, lctlAt := d.time.now, lctlSent := d.time.now, resumed := false } d

/-- The sequence state is discarded (R516, R517). -/
def dropSequence (l : Nat) (d : Device) : Device :=
  d |> wr (pgLink l) Reg.LINK.TX_SEQ 0#32 |> wr (pgLink l) Reg.LINK.RX_SEQ 0#32
    |> wr (pgLink l) Reg.LINK.CREDIT (wd (8 * 2 ^ 24 + 96 * 2 ^ 16 + 32 * 2 ^ 8 + 96))
    |> setLink l { linkOf d l with replay := [], accepted := 0, accAt := none, nakAt := none, owed := [], hasState := false, parts := [] }

/-- The link leaves UP (R69). -/
def leaveUp (l : Nat) (d : Device) : Device := d |> parentLink l false |> raise (pgLink l) 1

/-- RETRAIN is entered (R516, R523, R524). DEDUCED (log 102). -/
def enterRetrain (l : Nat) (d : Device) : Device :=
  if lstate d l = 2 then
    d |> leaveUp l |> enterLink l 3 |> bump (pgLink l) Reg.LINK.RETRAIN_CNT |> raise (pgLink l) 3
  else d

/-- FAILED is entered (R516). -/
def enterFailed (l : Nat) (d : Device) : Device :=
  let was := lstate d l
  d |> (fun d => if was = 2 then leaveUp l d else d) |> enterLink l 4 |> dropSequence l
    |> bump (pgLink l) Reg.LINK.FAIL_CNT |> raise (pgLink l) 2

/-- EN of a LINK page is cleared: OFF (R554). -/
def linkOff (l : Nat) (d : Device) : Device :=
  let was := lstate d l
  d |> (fun d => if was = 2 then leaveUp l d else d) |> enterLink l 0 |> dropSequence l

/-- The IDENT that the device sends (R517). -/
def sendIdent (l : Nat) (d : Device) : Device :=
  emit (.ident l (rdF d pgFab Reg.FAB.TGEN 0 16) (myId d) (Config.uidHi.toNat * 2 ^ 32 + Config.uidLo.toNat) (!(linkOf d l).hasState)) d

/-- The RESUME of a link in RETRAIN, whose lanes are locked again: the next number expected (R517). -/
def sendResume (l : Nat) (d : Device) : Device :=
  d |> wrF (pgLink l) Reg.LINK.STAT 12 4 15 |> setLink l { linkOf d l with resumed := true }
    |> sendLctl l 2 (rdF d (pgLink l) Reg.LINK.RX_SEQ 0 12)

/-- The lanes of a link in RETRAIN lock again at the present tick (R516). DESIGN CHOICE (log 150). -/
def relocks (d : Device) (l : Nat) : Bool :=
  decide (lstate d l = 3) && domainOn d (pgLink l) && !(linkOf d l).resumed && decide ((linkOf d l).since + Config.relockTicks l ≤ d.time.now)
def relockTick (d : Device) : Device := forEach ((List.range 8).filter (relocks d)) sendResume d

/-- TRAIN is entered (R516); an IDENT is sent. -/
def enterTrain (l : Nat) (d : Device) : Device := sendIdent l (enterLink l 1 d)

/-! ## Sending (R521, R525, R526) -/

/-- The flit can leave on link l now: a credit of its VC, and fewer than 256 flits unacknowledged. -/
def canSend (d : Device) (l v : Nat) : Bool :=
  linkUp d l && decide (0 < creditOf d l v) && decide ((linkOf d l).replay.length < 256)

/-- A sequenced flit leaves on link l. -/
def sendSeq (l : Nat) (f : Flit) (d : Device) : Device :=
  let n := rdF d (pgLink l) Reg.LINK.TX_SEQ 0 12
  let f := sealed { f with lseq := n }
  let d := setCredit l f.vc (creditOf d l f.vc - 1) (wr (pgLink l) Reg.LINK.TX_SEQ (wd ((n + 1) % 4096)) d)
  let k := linkOf d l
  sendUnit (.flit l f) (setLink l { k with replay := k.replay ++ [(f, 0)], hasState := true } d)

/-- A flit's number is n or lies after it, by the shorter way round. -/
def fromNo (n : Nat) (f : Flit) : Bool := decide ((f.lseq + 4096 - n % 4096) % 4096 < 2048)

/-- The unacknowledged flits from number n on are resent in order, and all stay until the peer acknowledges them; `counted` for a NAK, not
for a RESUME (R521, R522, R524). DEDUCED (log 102). -/
def resendFrom (l n : Nat) (counted : Bool) (d : Device) : Device :=
  let k := linkOf d l
  let again := k.replay.filter (fun e => fromNo n e.1)
  let d := setLink l { k with replay := k.replay.map (fun e => (e.1, if counted && fromNo n e.1 then e.2 + 1 else e.2)) } d
  forEach again (fun e d => bump (pgLink l) Reg.LINK.REPLAY_CNT (sendUnit (.flit l e.1) d)) d

/-- Flits up to number n are acknowledged (R522); a number that no kept flit has acknowledges nothing. -/
def ackUpTo (l n : Nat) (d : Device) : Device :=
  let k := linkOf d l
  if k.replay.any (fun e => decide (e.1.lseq = n % 4096)) then
    setLink l { k with replay := (k.replay.dropWhile (fun e => decide (e.1.lseq ≠ n % 4096))).drop 1 } d
  else d

/-! ## Routing (R534) -/

/-- The routing entry of a destination (R547). -/
def routeEntry (d : Device) (dest : Nat) : Nat :=
  rdF d (pgRoute (dest / 1024)) (0x800 + 4 * (dest % 1024 / 2)) (16 * (dest % 2)) 16

/-- The egress that the table gives a destination and VC (R534). -/
def egressOf (d : Device) (dest v : Nat) : Option Nat :=
  let e := routeEntry d dest
  let alt := e / 16 % 8
  let pri := e % 8
  let altUp := decide (e / 2 ^ 14 % 2 = 1) && linkUp d alt
  if e / 2 ^ 15 % 2 = 0 then none
  else if e / 2 ^ (10 + v) % 2 = 1 ∧ altUp then some alt
  else if linkUp d pri then some pri
  else if altUp then some alt
  else none

/-- HOPS of issued flits (R532). -/
def issueHops (d : Device) : Nat := max 1 (rdF d pgFab Reg.FAB.CTL 8 5)

/-- A RESP head with a status and no data (R528). -/
def respHead (d : Device) (dest vc tag op status extra len : Nat) (last : Bool) : Flit :=
  { typ := 2, vc := vc, dest := dest, src := myId d, tail := last, hops := issueHops d
    payload := bytesBE 2 tag ++ bytesBE 1 op ++ List.replicate 6 0#8 ++ bytesBE 3 len ++ bytesBE 2 status ++ [0#8, 0#8] ++
      bytesBE 4 extra }

/-- The last egress of a destination and VC, with the tick of its last flit (R535). -/
def routeKey (dest v : Nat) : Nat := dest * 4 + v
def lastEgress (d : Device) (dest v : Nat) : Option (Nat × Nat) := d.fab.last.find? (routeKey dest v)
def noteEgress (dest v l : Nat) (d : Device) : Device :=
  { d with fab := { d.fab with last := d.fab.last.insert (routeKey dest v) (l, d.time.now) } }

/-- DESIGN CHOICE (log 101). -/
def fenceOf (d : Device) (dest v : Nat) : Option Fence := d.fab.fences.find? (fun f => decide (f.dest = dest) && decide (f.vc = v))

/-- The fence queue holds 128 flits, shared by all fences (R535). -/
def fenceFull (d : Device) : Bool := decide (128 ≤ (d.fab.fences.flatMap (fun f => f.held)).length)

/-- A flit is to be held behind a fence, one that runs or one that its changed egress starts (R535). -/
def needsFence (d : Device) (f : Flit) : Bool :=
  (fenceOf d f.dest f.vc).isSome || (match egressOf d f.dest f.vc, lastEgress d f.dest f.vc with
    | some l, some e => decide (e.1 ≠ l)
    | _, _ => false)

/-- A flit has no place to wait but the device: it stays with its ingress (R525). -/
def park (w : WaitFlit) (d : Device) : Device := { d with fab := { d.fab with wait := d.fab.wait ++ [w] } }

/-- The place of a flit at its ingress, if it had one, is free (R525). -/
def creditBack (w : WaitFlit) (d : Device) : Device :=
  match w.ingress with
  | some i => oweCredit i w.flit.vc d
  | none => d

/-- A flit leaves for its egress. -/
def leaveOn (l : Nat) (w : WaitFlit) (d : Device) : Device :=
  creditBack w (noteEgress w.flit.dest w.flit.vc l (sendSeq l w.flit d))

/-- What became of a flit that was to be routed. -/
inductive Routed where
  | sent | kept | noRoute
  deriving DecidableEq, Repr

/-- A flit is this device's: it carries its ID (R25, R26, R534). DEDUCED (log 99). -/
def mine (d : Device) (f : Flit) : Bool := decide (f.dest = myId d) && decide (f.dest ≠ 0xFFF)

/-- A flit that waits tries to leave (R534, R535): it is delivered here, goes, joins a fence, stays, or has no route. Others of its
destination and VC that wait already go first. -/
def tryRoute (w : WaitFlit) (d : Device) : Device × Routed :=
  let f := w.flit
  match w.via with
  | some l => if canSend d l f.vc then (leaveOn l w d, .sent) else (d, .kept)
  | none =>
    if mine d f then (creditBack w { d with fab := { d.fab with loop := d.fab.loop ++ [f] } }, .sent)
    else if f.dest = 0xFFF then (d, .noRoute)
    else if needsFence d f && fenceFull d then (d, .kept) else
    match fenceOf d f.dest f.vc with
    | some _ =>
      let join := fun (x : Fence) =>
        if x.dest = f.dest ∧ x.vc = f.vc then { x with held := x.held ++ [{ w with ingress := none }] } else x
      (creditBack w { d with fab := { d.fab with fences := d.fab.fences.map join } }, .sent)
    | none =>
      match egressOf d f.dest f.vc with
      | none => (d, .noRoute)
      | some l =>
        match lastEgress d f.dest f.vc with
        | some (old, t) =>
          if old = l then (if canSend d l f.vc then (leaveOn l w d, .sent) else (d, .kept))
          else
            let up := linkUp d old
            let fen : Fence := { dest := f.dest, vc := f.vc, byTime := !up, since := if up then d.time.now else t
                                 held := [{ w with ingress := none }] }
            let d := bump pgFab Reg.FAB.FENCE_CNT { d with fab := { d.fab with fences := d.fab.fences ++ [fen] } }
            let d := creditBack w d
            let fl : Flit := { typ := 8, vc := f.vc, dest := f.dest, src := myId d, hops := issueHops d, payload := bytesBE 1 f.vc }
            (if up then (if canSend d old f.vc then sendSeq old fl d else park { flit := fl, ingress := none, via := some old } d) else d,
              .sent)
        | none => if canSend d l f.vc then (leaveOn l w d, .sent) else (d, .kept)

/-- A REQ head is answered with ROUTING (R532, R534): the answer waits to take its way back. -/
def answerRouting (f : Flit) (d : Device) : Device :=
  if f.typ = 1 then
    park { flit := respHead d f.src f.vc (numBE (slice f.payload 0 2)) (numBE (slice f.payload 2 1)) 0x0202 0 0 true
           ingress := none, via := none } d
  else d

/-- A flit has no route (R534): counted, an EVENT in EV_DROP too (R540), and a REQ head is answered with ROUTING. DEDUCED (log 103). -/
def unroutable (w : WaitFlit) (d : Device) : Device :=
  let d := creditBack w (raise pgFab 2 (bump pgFab Reg.FAB.ROUTE_ERR d))
  let d := if w.flit.typ = 6 then raise pgFab 6 (bump pgFab Reg.FAB.EV_DROP d) else d
  answerRouting w.flit d

/-- The VCs in the order in which an egress takes them (R526): VC1 first, then VC0, VC2 and VC3 by their weights. -/
def vcOrder (d : Device) (l : Nat) : List Nat :=
  let w := fun lo => max 1 (rdF d pgFab Reg.FAB.ARB lo 4)
  let cyc := List.replicate (w 0) 0 ++ List.replicate (w 4) 2 ++ List.replicate (w 8) 3
  let t := (linkOf d l).turn % cyc.length
  1 :: (cyc.drop t ++ cyc.take t)

/-- The egress that a waiting flit is bound for; none for one that leaves the queue otherwise: delivered here, discarded, or held by a fence. -/
def boundFor (d : Device) (w : WaitFlit) : Option Nat :=
  match w.via with
  | some l => some l
  | none => if mine d w.flit ∨ w.flit.dest = 0xFFF ∨ needsFence d w.flit then none else egressOf d w.flit.dest w.flit.vc

/-- The waiting flits that are not stalled: one that a full fence queue turns away stalls the others of its ingress and VC (R535). DESIGN
CHOICE (log 101). -/
def unstalled (d : Device) : List (Option Nat × Nat) → List WaitFlit → List WaitFlit
  | _, [] => []
  | stopped, w :: ws =>
    let key := (w.ingress, w.flit.vc)
    if w.via.isNone ∧ key ∈ stopped then unstalled d stopped ws
    else if w.via.isNone ∧ ¬ mine d w.flit ∧ w.flit.dest ≠ 0xFFF ∧ needsFence d w.flit ∧ fenceFull d then unstalled d (key :: stopped) ws
    else w :: unstalled d stopped ws

/-- The next flit for egress l (R526): the first that waits on the first VC, in the order of the egress, that has a credit. -/
def nextFor (d : Device) (ws : List WaitFlit) (l : Nat) : Option WaitFlit :=
  let bound := ws.filter (fun w => decide (boundFor d w = some l))
  (vcOrder d l).findSome? (fun v => if canSend d l v then bound.find? (fun w => decide (w.flit.vc = v)) else none)

/-- The next waiting flit that can leave: one that needs no egress, or the next of some egress. DESIGN CHOICE (log 101). -/
def pickWait (d : Device) : Option WaitFlit :=
  let ws := unstalled d [] d.fab.wait
  match ws.find? (fun w => (boundFor d w).isNone) with
  | some w => some w
  | none => (List.range 8).findSome? (nextFor d ws)

/-- The round robin of an egress moves past the VC that was served (R526). -/
def turnPast (l v : Nat) (d : Device) : Device :=
  if v = 1 then d
  else
    let i := ((vcOrder d l).drop 1).findIdx (fun x => decide (x = v))
    setLink l { linkOf d l with turn := (linkOf d l).turn + i + 1 } d

/-- One waiting flit leaves. -/
def pumpOne (d : Device) : Option Device :=
  (pickWait d).map (fun w =>
    let d := { d with fab := { d.fab with wait := d.fab.wait.erase w } }
    let d := match boundFor d w with
      | some l => turnPast l w.flit.vc d
      | none => d
    let r := tryRoute w d
    match r.2 with
    | .sent => r.1
    | .kept => park w r.1
    | .noRoute => unroutable w r.1)

/-- Waiting flits leave while any can. -/
def pump : Nat → Device → Device
  | 0, d => d
  | n + 1, d => match pumpOne d with
    | some d => pump n d
    | none => d
def pumpAll (d : Device) : Device := pump (2 * d.fab.wait.length + 2 * (d.fab.fences.flatMap (fun f => f.held)).length) d

/-- Flits of one message are routed, in order, behind those that wait (R520, R534). -/
def routeFlits (ingress : Option Nat) (fs : List Flit) (d : Device) : Device :=
  pumpAll { d with fab := { d.fab with wait := d.fab.wait ++ fs.map (fun f => { flit := f, ingress := ingress, via := none }) } }

/-- A flit that is to be forwarded (R532, R534). -/
def forwardFlits (l : Nat) (fs : List Flit) (d : Device) : Device :=
  match fs with
  | [] => d
  | f :: _ =>
    if f.dest = 0xFFF then forEach fs (fun g d => oweCredit l g.vc (raise pgFab 2 (bump pgFab Reg.FAB.ROUTE_ERR d))) d
    else if f.hops = 0 then
      pumpAll (answerRouting f (forEach fs (fun g d => oweCredit l g.vc (raise pgFab 3 (bump pgFab Reg.FAB.HOP_DROP d))) d))
    else routeFlits (some l) (fs.map (fun g => { g with hops := g.hops - 1 })) d

/-! ## Fences (R535) -/

/-- The held flits of a fence are released. -/
def releaseFence (dest v : Nat) (d : Device) : Device :=
  match fenceOf d dest v with
  | none => d
  | some f =>
    pumpAll { d with fab := { d.fab with
      fences := d.fab.fences.filter (fun x => !(decide (x.dest = dest) && decide (x.vc = v)))
      last := d.fab.last.erase (routeKey dest v), wait := f.held ++ d.fab.wait } }

def fenceTicks (d : Device) : Nat := rdF d pgFab Reg.FAB.FENCE_TO 0 16 * 1280

/-- A fence whose time is over (R535). -/
def fenceOver (d : Device) : Option Fence := d.fab.fences.find? (fun f => decide (f.since + fenceTicks d ≤ d.time.now))

/-- Its flits are released; one that waited for an answer counts as a timeout. -/
def fenceTimeout (d : Device) : Device :=
  match fenceOver d with
  | none => d
  | some f =>
    let d := if f.byTime then d else raise pgFab 1 (bump pgFab Reg.FAB.FENCE_TMO d)
    releaseFence f.dest f.vc d

/-! ## Messages (R528 to R531) -/

/-- The words of data flits, 6 to a flit, with their poison marks (R529, R530); `w0` is the first. -/
def dataFlits (d : Device) (dest vc : Nat) : Nat → List (Nat × Bool) → List Flit
  | 0, _ => []
  | _, [] => []
  | n + 1, ws =>
    let now := ws.take 6
    let rest := ws.drop 6
    { typ := 3, vc := vc, dest := dest, src := myId d, tail := decide (rest = []), hops := issueHops d
      pmap := (now.zipIdx.map (fun e => if e.1.2 then 2 ^ e.2 else 0)).foldl (· + ·) 0
      payload := now.flatMap (fun e => bytesBE 8 e.1) } :: dataFlits d dest vc n rest

/-- The data words of flits. -/
def flitWords (fs : List Flit) : List (Nat × Bool) :=
  fs.flatMap (fun f => (List.range 6).map (fun i => (numBE (slice f.payload (8 * i) 8), decide (f.pmap / 2 ^ i % 2 = 1))))

/-- Bytes placed in the aligned words that they touch (R529). -/
def wordsFor (a : Nat) (bytes : List Byte) (bad : List Bool) : List (Nat × Bool) :=
  let all := List.replicate (a % 8) 0#8 ++ bytes
  (wordsOf a bytes.length).zipIdx.map (fun e => (numLE (slice all (8 * e.2) 8), bad.getD e.2 false))

/-- The bytes of an addressed range out of its words. -/
def bytesFrom (a n : Nat) (ws : List (Nat × Bool)) : ReadOut :=
  { bytes := slice (ws.flatMap (fun e => bytesLE 8 e.1)) (a % 8) n, bad := (ws.map (fun e => e.2)).take (wordsOf a n).length }

/-- The number of a requester's kind (R33). -/
def kindNo : ReqKind → Nat
  | .core => 1 | .session => 2 | .master => 3

/-- A REQ head (R528). -/
def reqHead (d : Device) (dest vc tag op : Nat) (who : Requester) (addr len mask : Nat) (last : Bool) : Flit :=
  { typ := 1, vc := vc, dest := dest, src := myId d, tail := last, hops := issueHops d
    payload := bytesBE 2 tag ++ bytesBE 1 op ++ bytesBE 1 (kindNo who.kind * 64 + who.index.val) ++ bytesBE 5 addr ++ bytesBE 3 len ++
      bytesBE 4 mask ++ bytesBE 4 Config.uidHi.toNat ++ bytesBE 4 Config.uidLo.toNat }

/-- A request leaves the device, or completes at once with ROUTING: no ID of its own, or no route (R534). Answers whether it left,
and its TAG. DEDUCED (log 103). DESIGN CHOICE (log 104). -/
def issueReq (src : ReqSource) (who : Requester) (dest vc op addr len mask : Nat) (data : List (Nat × Bool)) (d : Device) :
    Device × Option Nat :=
  let tag := d.fab.tag
  let flits := reqHead d dest vc tag op who addr len mask (decide (data = [])) :: dataFlits d dest vc (data.length + 1) data
  if myId d = 0xFFF then (d, none)
  else if dest = 0xFFF ∨ ((egressOf d dest vc).isNone ∧ (fenceOf d dest vc).isNone) then
    (forEach flits (fun _ d => raise pgFab 2 (bump pgFab Reg.FAB.ROUTE_ERR d)) d, none)
  else
    let d := { d with fab := { d.fab with
      tag := (tag + 1) % 65536
      out := d.fab.out ++ [{ tag := tag, dest := dest, op := op, addr := addr, len := len, sentAt := d.time.now, src := src }] } }
    (routeFlits none flits d, some tag)

/-- The request that a response answers is taken from those outstanding (R533). DEDUCED (log 103). DESIGN CHOICE (log 104). -/
def takeOut (tag src : Nat) (d : Device) : Device × Option OutReq :=
  match d.fab.out.find? (fun o => decide (o.tag = tag) && decide (o.dest = src)) with
  | some o => ({ d with fab := { d.fab with out := d.fab.out.erase o } }, some o)
  | none => (bump pgFab Reg.FAB.LATE_RESP d, none)

/-! ## A link comes up (R516, R517) -/

/-- What an IDENT says of the peer. -/
def notePeer (l : Nat) (uid : BitVec 64) (id : BitVec 12) (link : Nat) (d : Device) : Device :=
  d |> wr (pgLink l) Reg.LINK.PEER_UID_LO (lo32 uid.toNat) |> wr (pgLink l) Reg.LINK.PEER_UID_HI (hi32 uid.toNat)
    |> wrF (pgLink l) Reg.LINK.STAT 20 12 id.toNat |> wrF (pgLink l) Reg.LINK.STAT 16 3 link

/-- A link enters UP (R516): the cause, the parent link (R69), trip flits of latched zones (R537), and flits that waited. -/
def enterUp (l : Nat) (d : Device) : Device :=
  let d := enterLink l 2 d
  let d := setLink l { linkOf d l with hasState := true } d
  d |> raise (pgLink l) 0 |> parentLink l true |> tripOn [l] |> pumpAll

/-- Credits start full (R525). -/
def fullCredits (l : Nat) (d : Device) : Device := forEach (List.range 4) (fun v => setCredit l v (vcPlaces v)) d

/-- An IDENT arrives (R517): in TRAIN training completes; FRESH discards sequence state held here. -/
def identArrives (l : Nat) (uid : BitVec 64) (id : BitVec 12) (link : Nat) (fresh : Bool) (rxInv : BitVec 4) (reversed : Bool)
    (d : Device) : Device :=
  let st := lstate d l
  if st = 0 ∨ st = 4 ∨ ¬ domainOn d (pgLink l) then d
  else
    let d := if fresh ∧ (linkOf d l).hasState then dropSequence l d else d
    let d := notePeer l uid id link d
    if st = 1 then
      d |> wrF (pgLink l) Reg.LINK.STAT 8 4 rxInv.toNat |> wrF (pgLink l) Reg.LINK.STAT 12 4 15
        |> wrB (pgLink l) Reg.LINK.STAT 7 reversed |> fullCredits l |> enterUp l
    else d

/-! ## Time-sync exchanges (R539) -/

/-- The payload of a TSYNC flit: 1 request or 2 response, the exchange number, t2 and t3. DESIGN CHOICE (log 22). -/
def tsyncPayload (kind n t2 t3 : Nat) : List Byte := bytesBE 1 kind ++ bytesBE 4 n ++ [0#8, 0#8, 0#8] ++ bytesBE 8 t2 ++ bytesBE 8 t3

/-- An exchange of link l is due at the present tick. -/
def exchangeDue (d : Device) (l : Nat) : Bool :=
  linkUp d l && decide (d.time.tl.toNat % 2 ^ 20 = 4096 * l) &&
    (match d.time.exch.find? l with | some e => decide (e.sentAt ≠ d.time.now) | none => true)

/-- The number of an exchange: the count of such instants on the time line. -/
def exchangeNo (d : Device) : Nat := d.time.tl.toNat / 2 ^ 20 % 2 ^ 32

/-- A request is sent at a fine of the present tick. -/
def exchangeStart (l fine : Nat) (d : Device) : Device :=
  let t1 := (d.time.tl.toNat * 64 + fine) % 2 ^ 64
  sendLocal l 5 (tsyncPayload 1 (exchangeNo d) 0 0) { d with time := { d.time with
    exch := d.time.exch.insert l { t1 := t1, sentAt := d.time.now } } }

/-- An exchange whose response has not come in 2^16 ticks is void. -/
def exchangeOver (d : Device) (l : Nat) : Bool :=
  match d.time.exch.find? l with
  | some e => decide (e.sentAt + 65536 ≤ d.time.now)
  | none => false
def exchangeVoid (l : Nat) (d : Device) : Device :=
  { d with time := { d.time with exch := d.time.exch.erase l } } |> bump (pgLink l) Reg.LINK.TS_BAD |> raise (pgLink l) 5

/-! ## Membership (R544 to R547) -/

/-- The identity of a claim: home UID (high, low), kind and index. -/
structure ClaimId where
  hi : Word
  lo : Word
  kind : Nat
  index : Nat
  deriving DecidableEq, Repr

/-- The claimant on record. -/
def claimant (d : Device) : Option ClaimId :=
  let r := rd d pgFab Reg.FAB.CLAIM_REQ
  if bit r 31 then
    some ⟨rd d pgFab Reg.FAB.CLAIM_UID_HI, rd d pgFab Reg.FAB.CLAIM_UID_LO, fld r 18 2, fld r 12 6⟩
  else none

/-- Who a requester of this device is, for a claim. -/
def claimOf (who : Requester) : ClaimId :=
  match who.uid with
  | some u => ⟨wd (u.toNat / 2 ^ 32), wd u.toNat, kindNo who.kind, who.index.val⟩
  | none => ⟨Config.uidHi, Config.uidLo, kindNo who.kind, who.index.val⟩

/-- A write that needs the claim is made without it (R544). -/
def notClaimant (d : Device) (id : ClaimId) : Bool :=
  match claimant d with
  | some c => decide (c ≠ id)
  | none => false

/-- A write of FAB.TGEN (R544). DEDUCED (log 108). -/
def writeTgen (who : Requester) (v : Nat) (d : Device) : Device :=
  let id := claimOf who
  let g := (v + 65536 - rdF d pgFab Reg.FAB.TGEN 0 16) % 65536
  if 1 ≤ g ∧ g ≤ 0x7FFF then
    let changed := decide (claimant d ≠ some id)
    d |> wr pgFab Reg.FAB.TGEN (wd (v % 65536)) |> wr pgFab Reg.FAB.CLAIM_UID_HI id.hi |> wr pgFab Reg.FAB.CLAIM_UID_LO id.lo
      |> wr pgFab Reg.FAB.CLAIM_REQ (wd (2 ^ 31 + id.kind * 2 ^ 18 + id.index * 2 ^ 12)) |> raiseIf changed pgFab 5
  else if g = 0 ∧ claimant d = some id then d
  else refuse pgFab 0x81 Reg.FAB.TGEN who d

/-- The claim is released. -/
def releaseClaim (d : Device) : Device :=
  let had := (claimant d).isSome
  d |> wr pgFab Reg.FAB.CLAIM_UID_HI 0#32 |> wr pgFab Reg.FAB.CLAIM_UID_LO 0#32 |> wr pgFab Reg.FAB.CLAIM_REQ 0#32
    |> raiseIf had pgFab 5

/-- A dimension-order entry (R546). -/
def dorEntry (pos dst : Nat) : Nat :=
  let x := pos % 4
  let y := pos / 4 % 4
  let dx := dst % 4
  let dy := dst / 4 % 4
  let lx := if x < dx then 0 else 1
  let ly := if y < dy then 2 else 3
  if dx = x ∧ dy = y then 0
  else if dx ≠ x ∧ dy ≠ y then 0x8000 + 0x4000 + ly * 16 + lx
  else if dx ≠ x then 0x8000 + lx
  else 0x8000 + ly

/-- Writes one routing entry. -/
def putRoute (dest v : Nat) (d : Device) : Device :=
  wrF (pgRoute (dest / 1024)) (0x800 + 4 * (dest % 1024 / 2)) (16 * (dest % 2)) 16 v d

/-- A write of FAB.ID (R545, R546). -/
def writeId (v : Nat) (d : Device) : Device :=
  let id := v % 4096
  let pos := d.sys.straps.posid.val
  let d := wrF pgFab Reg.FAB.ID 0 12 id d
  let d := if id ≠ 0xFFF ∧ id % 16 = pos ∧ rdB d pgFab Reg.FAB.CTL 0 then
      forEach (List.range 16) (fun i d => putRoute (id / 16 * 16 + i) (dorEntry pos i) d) d else d
  forEach (upLinks d) sendIdent d

/-! ## Pages -/

/-- Writes of the FAB page. MAINT requests are made elsewhere. -/
def fabWrite (off : Nat) (w : Wr) (d : Device) : Device :=
  if off = Reg.FAB.TGEN then writeTgen w.who (fld w.data 0 16) d
  else if (off = Reg.FAB.ID ∨ off = Reg.FAB.CTL ∨ off = Reg.FAB.BOARD) ∧ notClaimant d (claimOf w.who) then refuse pgFab 0x80 off w.who d
  else if off = Reg.FAB.ID then writeId (fld w.data 0 12) d
  else if off = Reg.FAB.CTL then
    let d := storeReg pgFab off w.data d
    if one w 1 ∧ claimant d = some (claimOf w.who) then releaseClaim d else d
  else storeReg pgFab off w.data d

/-- The straps as FAB.STRAPS shows them, whatever has happened to the page's power since they were sampled (R617). -/
def strapWord (x : Straps) : Word := wd (256 * b2n x.dawnEn + 128 * b2n x.root + 16 * x.bootsel.val + x.posid.val)

def fabView (off : Nat) (d : Device) : Word :=
  if off = Reg.FAB.STRAPS then strapWord d.sys.straps
  else if off = Reg.FAB.STAT then rd d pgFab off ||| wd (b2n (decide (d.fab.fences ≠ []))) else rd d pgFab off

end Sys2Proof.Machine
end

