-- ==== Sys2Proof/Machine/EthOps.lean ====
section
/-! DEFINITION. The Ethernet ports (spec/13, R461 to R474): what a port accepts, answers and passes on, MACsec, PTP stamps, priority
flow control, the frame rings, and the sending of frames. -/

namespace Sys2Proof.Machine

def ethOf (d : Device) (e : Nat) : EthPort := d.eth.get (fun _ => {}) e
def setEth (e : Nat) (x : EthPort) (d : Device) : Device := { d with eth := d.eth.set (fun _ => {}) e x }
def etRd (d : Device) (e off : Nat) : Word := rd d (pgEth e) off
def etCtl (d : Device) (e i : Nat) : Bool := rdB d (pgEth e) Reg.ETH.CTL i

/-- The modes in which a port is on (R464). BOOT with the host as image source keeps ETH0 on. -/
def ethMode (d : Device) (e : Nat) : Bool :=
  match d.sys.mode with
  | .configure => true
  | .run => true
  | .hold => true
  | .safe => true
  | .selftest => true
  | .boot => decide (e = 0) && d.sys.hostImage
  | .sleep => decide (e = 0) && etCtl d 0 16
  | .retain => false

/-- The port is up: EN, SPEED, mode, domain, and its link. -/
def ethOn (d : Device) (e : Nat) : Bool :=
  enabled d (pgEth e) && domainOn d (pgEth e) && ethMode d e &&
    (decide (rdF d (pgEth e) Reg.ETH.CTL 0 2 = 1) || decide (rdF d (pgEth e) Reg.ETH.CTL 0 2 = 2))
def ethUp (d : Device) (e : Nat) : Bool := ethOn d e && rdB d (pgEth e) Reg.ETH.STAT 0

/-! ## Addresses (R468) -/

def ethMac (d : Device) (e : Nat) : Nat := (etRd d e Reg.ETH.MAC_LO).toNat + rdF d (pgEth e) Reg.ETH.MAC_HI 0 16 * 2 ^ 32
def ethIp4 (d : Device) (e : Nat) : Nat := (etRd d e Reg.ETH.IPV4_ADDR).toNat
def ethIp6 (d : Device) (e : Nat) : Nat :=
  (List.range 4).foldl (fun a i => a * 2 ^ 32 + (etRd d e (Reg.ETH.IPV6_ADDR i)).toNat) 0

/-- The IPv6 link-local address: the modified EUI-64 of the MAC address. -/
def ethLinkLocal (d : Device) (e : Nat) : Nat :=
  let m := ethMac d e
  0xFE80 * 2 ^ 112 + (m / 2 ^ 24 ^^^ 0x020000) * 2 ^ 40 + 0xFFFE * 2 ^ 24 + m % 2 ^ 24

/-- The addresses on which the port answers. -/
def ownIp6 (d : Device) (e : Nat) : List Nat :=
  if etCtl d e 10 then ethLinkLocal d e :: (if ethIp6 d e = 0 then [] else [ethIp6 d e]) else []
def ownIp4 (d : Device) (e : Nat) : List Nat := if etCtl d e 9 ∧ ethIp4 d e ≠ 0 then [ethIp4 d e] else []

/-! ## Stamps (R471, R472) -/

/-- A stamp enters the FIFO, or is lost. DEDUCED (log 81). -/
def stampIn (e : Nat) (t : TsEntry) (d : Device) : Device :=
  let x := ethOf d e
  if x.ts.length < 64 then raise (pgEth e) 3 (setEth e { x with ts := x.ts ++ [t] } d)
  else
    let lost := rdF d (pgEth e) Reg.ETH.TS_STAT 16 16
    d |> wrF (pgEth e) Reg.ETH.TS_STAT 16 16 (min 0xFFFF (lost + 1)) |> wrB (pgEth e) Reg.ETH.TS_STAT 8 true |> raise (pgEth e) 4

/-- A read of TS_HEAD pops (R472). -/
def tsPop (e : Nat) (d : Device) : Device :=
  match (ethOf d e).ts with
  | [] => d
  | t :: ts => d |> setEth e { ethOf d e with ts := ts }
    |> wr (pgEth e) Reg.ETH.TS_POP_LO (wd t.fines)
    |> wr (pgEth e) Reg.ETH.TS_POP_HI (wd (t.domain % 256 * 2 ^ 24 + t.fines / 2 ^ 32 % 2 ^ 22))

def tsHead (d : Device) (e : Nat) : Word :=
  match (ethOf d e).ts with
  | [] => 0#32
  | t :: _ => wd (2 ^ 31 + 2 ^ 30 * b2n t.tx + t.kind % 16 * 2 ^ 24 + t.seqId % 65536)

/-- The stamp of a PTP message whose header begins at byte `o` of a frame; none unless it is an event message (R471). -/
def ptpEntry (tx : Bool) (fines : Nat) (fr : List Byte) (o : Nat) : Option TsEntry :=
  let kind := numBE (slice fr o 1) % 16
  if kind ≤ 3 ∧ o + 34 ≤ fr.length then
    some { tx := tx, kind := kind, seqId := numBE (slice fr (o + 30) 2), domain := numBE (slice fr (o + 4) 1), fines := fines }
  else none

/-! ## Sending (R466, R467, R470) -/

/-- Priority p is paused by the peer. DESIGN CHOICE (log 85). -/
def paused (d : Device) (e p : Nat) : Bool := rdB d (pgEth e) Reg.ETH.PFC_STAT p

/-- The transmit SA, and whether frames can be protected with it. -/
def txSa (d : Device) (e : Nat) : Nat := rdF d (pgEth e) Reg.ETH.MS_CFG 4 1
def saReady (d : Device) (e : Nat) : Bool :=
  !etCtl d e 4 || (rdB d (pgEth e) (Reg.ETH.ATTR (txSa d e)) 31 &&
    decide (etRd d e (Reg.ETH.PN (txSa d e)) ≠ 0xFFFFFFFF#32))

/-- A frame leaves the MAC. DEDUCED (log 82). -/
def putFrame (e : Nat) (f : Frame) (d : Device) : Device :=
  if etCtl d e 4 then
    let a := txSa d e
    let pn := etRd d e (Reg.ETH.PN a)
    let sci := (etRd d e Reg.ETH.MS_TX_SCI_HI).toNat * 2 ^ 32 + (etRd d e Reg.ETH.MS_TX_SCI_LO).toNat
    let d := d |> sendUnit (.frame e { f with macsec := some (a, sci, pn.toNat, rdB d (pgEth e) Reg.ETH.MS_CFG 1) })
      |> bump (pgEth e) Reg.ETH.CNT_TX |> wr (pgEth e) (Reg.ETH.PN a) (incW pn)
    raiseIf (decide (incW pn = 0xFFFFFFFF#32)) (pgEth e) 7 d
  else d |> sendUnit (.frame e f) |> bump (pgEth e) Reg.ETH.CNT_TX

/-- The tag of a frame of priority p (R466). -/
def tagFor (d : Device) (e p : Nat) : Option (Nat × Nat) :=
  if etCtl d e 8 then some (p, rdF d (pgEth e) Reg.ETH.VLAN 0 12) else none

/-- A frame is sent at priority p: at once, or when its priority is not paused and the SA has packet numbers. A port that is not
up sends nothing. -/
def sendFrame (e p : Nat) (body : FrameBody) (d : Device) : Device :=
  let f : Frame := { tag := tagFor d e p, macsec := none, body := body }
  if ¬ ethUp d e then d
  else if paused d e p ∨ ¬ saReady d e ∨ (ethOf d e).wait.any (fun x => decide (x.1 = p)) then
    setEth e { ethOf d e with wait := (ethOf d e).wait ++ [(p, f)] } d
  else putFrame e f d

/-- Frames that wait leave, in order within each priority, while they can. -/
def flushPort (e : Nat) : Nat → Device → Device
  | 0, d => d
  | n + 1, d =>
    if ¬ ethUp d e ∨ ¬ saReady d e then d
    else match (ethOf d e).wait.find? (fun x => !paused d e x.1) with
      | some x => flushPort e n (putFrame e x.2 (setEth e { ethOf d e with wait := (ethOf d e).wait.erase x } d))
      | none => d
def flushAll (e : Nat) (d : Device) : Device := flushPort e (ethOf d e).wait.length d

/-! ## Receiving -/

/-- The frame is counted as discarded. DESIGN CHOICE (log 84). -/
def ethDrop (e : Nat) (d : Device) : Device := bump (pgEth e) Reg.ETH.CNT_DROP d

/-- A PFC frame for one priority leaves: neither paused, nor tagged, nor protected (R467, R470). DEDUCED (log 81). -/
def pfcSend (e p quanta : Nat) (d : Device) : Device :=
  d |> sendUnit (.frame e { tag := none, macsec := none, body := .pfc p quanta }) |> bump (pgEth e) Reg.ETH.CNT_TX

/-- The port's receive buffer has passed three quarters full, or fallen below one quarter, for these priorities (R467). DEDUCED (log 81). -/
def bufferLevels (e : Nat) (high low : BitVec 8) (d : Device) : Device :=
  let en := rdF d (pgEth e) Reg.ETH.PFC_CFG 8 8
  let quanta := rdF d (pgEth e) Reg.ETH.PFC_CFG 16 16
  forEach ((List.range 8).filter (fun p => en.testBit p)) (fun p d =>
    let x := ethOf d e
    if high.getLsbD p ∧ ¬ x.stopped.getLsbD p then
      pfcSend e p quanta (setEth e { x with stopped := x.stopped ||| BitVec.ofNat 8 (2 ^ p) } d)
    else if low.getLsbD p ∧ x.stopped.getLsbD p then
      pfcSend e p 0 (setEth e { x with stopped := x.stopped &&& ~~~ (BitVec.ofNat 8 (2 ^ p)) } d)
    else d) d

/-- A received PFC frame (R467): the priorities it names with non-zero quanta pause, those with zero go on. DEDUCED (log 81). -/
def pfcReceive (e : Nat) (fr : List Byte) (d : Device) : Device :=
  let vec := numBE (slice fr 16 2)
  let en := rdF d (pgEth e) Reg.ETH.PFC_CFG 0 8
  let d := forEach ((List.range 8).filter (fun p => vec.testBit p && en.testBit p)) (fun p d =>
    wrB (pgEth e) Reg.ETH.PFC_STAT p (decide (numBE (slice fr (18 + 2 * p) 2) ≠ 0)) d) d
  flushAll e d

/-- The Layer 2 destinations of PTP (R471). -/
def ptpMac (dst : Nat) : Bool := decide (dst = 0x0180C200000E) || decide (dst = 0x011B19000000)

/-- Destination addresses that a port accepts (R465). -/
def macAccepted (d : Device) (e dst : Nat) : Bool :=
  decide (dst = ethMac d e) || decide (dst = 0xFFFFFFFFFFFF) ||
    (etCtl d e 5 && ptpMac dst) ||
    (rdB d (pgEth e) Reg.ETH.PTP_CFG 1 && (decide (dst = 0x01005E000181) || decide (dst = 0x01005E00006B))) ||
    (rdB d (pgEth e) Reg.ETH.PTP_CFG 2 && (decide (dst = 0x333300000181) || decide (dst = 0x33330000006B))) ||
    (ownIp6 d e).any (fun a => decide (dst = 0x3333FF000000 + a % 2 ^ 24))

/-- The destinations of ARP and neighbour discovery that are answered (R468): its own, the broadcast, a solicited-node address. -/
def answerMac (d : Device) (e dst : Nat) : Bool :=
  decide (dst = ethMac d e) || decide (dst = 0xFFFFFFFFFFFF) || (ownIp6 d e).any (fun a => decide (dst = 0x3333FF000000 + a % 2 ^ 24))

/-- MACsec on a received frame (R470): the plain frame, none where it is discarded. DESIGN CHOICE (log 84). -/
def macsecIn (e : Nat) (fr : List Byte) (d : Device) : Device × Option (List Byte) :=
  let strict := rdB d (pgEth e) Reg.ETH.MS_CFG 2
  let bad := fun (d : Device) =>
    if strict then (raise (pgEth e) 6 (bump (pgEth e) Reg.ETH.CNT_MS_DROP d), (none : Option (List Byte))) else (ethDrop e d, none)
  if ¬ etCtl d e 4 then (d, some fr)
  else if numBE (slice fr 12 2) ≠ 0x88E5 then (if strict then bad d else (d, some fr))
  else
    let an := numBE (slice fr 14 1) % 4
    let pn := numBE (slice fr 16 4)
    let sc := decide (numBE (slice fr 14 1) / 32 % 2 = 1)
    let sci := (etRd d e Reg.ETH.MS_RX_SCI_HI).toNat * 2 ^ 32 + (etRd d e Reg.ETH.MS_RX_SCI_LO).toNat
    match [2, 3].find? (fun a => bit (etRd d e (Reg.ETH.ATTR a)) 31 && decide (fld (etRd d e (Reg.ETH.ATTR a)) 0 2 = an)) with
    | none => bad d
    | some a =>
      let low := (etRd d e (Reg.ETH.PN a)).toNat
      if strict ∧ rdB d (pgEth e) Reg.ETH.MS_CFG 3 ∧ pn + (etRd d e Reg.ETH.MS_REPLAY_WIN).toNat < low then bad d
      else if sc ∧ numBE (slice fr 20 8) ≠ sci then bad d
      else match Config.macsecOpen ((List.range 8).map (fun i => etRd d e (Reg.ETH.KEY a i))) sci fr with
        | some p => (if low ≤ pn then wr (pgEth e) (Reg.ETH.PN a) (wd (min 0xFFFFFFFF (pn + 1))) d else d, some p)
        | none => bad d

/-- The ones' complement sum of bytes taken as 16-bit words, folded. -/
def onesSum (bs : List Byte) : Nat :=
  let s := numBE16 bs
  let s := s % 65536 + s / 65536
  s % 65536 + s / 65536
where
  numBE16 : List Byte → Nat
  | a :: b :: rest => a.toNat * 256 + b.toNat + numBE16 rest
  | [a] => a.toNat * 256
  | [] => 0

/-- The address length in bytes of an IP version. DEDUCED (log 83). -/
def ipLen (v6 : Bool) : Nat := if v6 then 16 else 4

/-- The UDP checksum of a datagram is 0 or right (R469). DEDUCED (log 83). -/
def udpOk (v6 : Bool) (src dst : Nat) (udp : List Byte) : Bool :=
  let pseudo := bytesBE (ipLen v6) src ++ bytesBE (ipLen v6) dst ++ bytesBE 2 17 ++ bytesBE 2 udp.length
  decide (numBE (slice udp 6 2) = 0) || decide (onesSum (pseudo ++ udp) = 0xFFFF)

/-- A ring slot's local address: 10 KiB each (R473). -/
def slotAddr (base i : Nat) : Nat := bulkBase + base + i * 10240
def ringSlots (w : Word) : Nat := min 64 (fld w 0 7)

/-- A frame for software goes to the receive ring (R473); `bad` names its poisoned words, and poisons the header word with them. -/
def ringIn (e : Nat) (fr : List Byte) (bad : List Bool) (stamped : Bool) (s : Device × Memory) : Device × Memory :=
  let d := s.1
  let n := ringSlots (etRd d e Reg.ETH.RAWRX_CFG)
  let wr' := rdF d (pgEth e) Reg.ETH.RAWRX_WR 0 6
  if n = 0 then (ethDrop e d, s.2)
  else if (wr' + 1) % n = rdF d (pgEth e) Reg.ETH.RAWRX_RD 0 6 then (raise (pgEth e) 5 (ethDrop e d), s.2)
  else
    let a := slotAddr (rdF d (pgEth e) Reg.ETH.RAWRX_BASE 12 14 * 4096) wr'
    let s := (writeMem a (bytesLE 4 (fr.length + 65536 * b2n stamped)) (fun _ => bad.any (fun b => b)) s).getD s
    let s := (writeMem (a + 16) fr (fun i => bad.getD i false) s).getD s
    (s.1 |> wr (pgEth e) Reg.ETH.RAWRX_WR (wd ((wr' + 1) % n)) |> raise (pgEth e) 1, s.2)

/-- What a received frame has for the Uandi control engine: a datagram from a peer. -/
structure RxUandi where
  peer : Peer
  payload : List Byte
  deriving DecidableEq, Repr

/-- A UDP datagram (R469, R471, R473): to the control engine, to software, or nowhere. `o` is where UDP begins in the frame. What the device
itself would act on is discarded where it is poisoned. DESIGN CHOICE (log 84). -/
def udpReceive (e : Nat) (fr : List Byte) (bad : List Bool) (o : Nat) (v6 : Bool) (src dst fines : Nat) (s : Device × Memory) :
    (Device × Memory) × Option RxUandi :=
  let d := s.1
  let udp := slice fr o (numBE (slice fr (o + 4) 2))
  let port := numBE (slice udp 2 2)
  let ptp := rdB d (pgEth e) Reg.ETH.PTP_CFG (if v6 then 2 else 1)
  if ¬ udpOk v6 src dst udp then ((ethDrop e d, s.2), none)
  else if (port = 319 ∨ port = 320) ∧ ptp then
    let t := if etCtl d e 5 ∧ port = 319 then ptpEntry false fines fr (o + 8) else none
    match t with
    | some t => (ringIn e fr bad (decide ((ethOf d e).ts.length < 64)) (stampIn e t d, s.2), none)
    | none => (ringIn e fr bad false s, none)
  else if bad.any (fun b => b) then ((ethDrop e d, s.2), none)
  else if port = rdF d (pgEth e) Reg.ETH.UDP_PORT 0 16 ∧ (if v6 then ownIp6 d e else ownIp4 d e).contains dst then
    (s, some { peer := { mac := numBE (slice fr 6 6), v6 := v6, ip := src, port := numBE (slice udp 0 2), own := dst }
               payload := udp.drop 8 })
  else ((ethDrop e d, s.2), none)

/-- The PTP groups (R471): 224.0.1.129 and 224.0.0.107, FF0E::181 and FF02::6B. -/
def group4 (ip : Nat) : Bool := decide (ip = 0xE0000181) || decide (ip = 0xE000006B)
def group6 (ip : Nat) : Bool := decide (ip = 0xFF0E * 2 ^ 112 + 0x181) || decide (ip = 0xFF02 * 2 ^ 112 + 0x6B)

/-- An IPv4 datagram whose header begins at byte `o` of the frame (R468, R469). DEDUCED (log 83). -/
def ip4Receive (e : Nat) (fr : List Byte) (bad : List Bool) (o fines : Nat) (s : Device × Memory) : (Device × Memory) × Option RxUandi :=
  let d := s.1
  let src := numBE (slice fr (o + 12) 4)
  let dst := numBE (slice fr (o + 16) 4)
  let drop := ((ethDrop e d, s.2), (none : Option RxUandi))
  let mine := (ownIp4 d e).contains dst && decide (numBE (slice fr 0 6) = ethMac d e)
  let group := rdB d (pgEth e) Reg.ETH.PTP_CFG 1 && group4 dst
  if numBE (slice fr o 1) ≠ 0x45 ∨ numBE (slice fr (o + 6) 2) % 0x4000 ≠ 0 ∨ ¬ (mine ∨ group) then drop
  else
    let len := numBE (slice fr (o + 2) 2)
    match numBE (slice fr (o + 9) 1) with
    | 17 => udpReceive e fr bad (o + 20) false src dst fines s
    | 1 =>
      if mine ∧ etCtl d e 11 ∧ numBE (slice fr (o + 20) 1) = 8 ∧ ¬ bad.any (fun b => b) then
        ((sendFrame e 0 (.echo { mac := numBE (slice fr 6 6), v6 := false, ip := src, port := 0, own := dst }
          (slice fr (o + 24) (len - 24))) d, s.2), none)
      else drop
    | _ => drop

/-- An IPv6 packet (R468, R469). -/
def ip6Receive (e : Nat) (fr : List Byte) (bad : List Bool) (o fines : Nat) (s : Device × Memory) : (Device × Memory) × Option RxUandi :=
  let d := s.1
  let src := numBE (slice fr (o + 8) 16)
  let dst := numBE (slice fr (o + 24) 16)
  let drop := ((ethDrop e d, s.2), (none : Option RxUandi))
  let mac := numBE (slice fr 6 6)
  let mine := (ownIp6 d e).contains dst && decide (numBE (slice fr 0 6) = ethMac d e)
  let group := rdB d (pgEth e) Reg.ETH.PTP_CFG 2 && group6 dst
  let target := numBE (slice fr (o + 48) 16)
  match numBE (slice fr (o + 6) 1) with
  | 17 => if mine ∨ group then udpReceive e fr bad (o + 40) true src dst fines s else drop
  | 58 =>
    match numBE (slice fr (o + 40) 1) with
    | 128 =>
      if mine ∧ etCtl d e 11 ∧ ¬ bad.any (fun b => b) then
        ((sendFrame e 0 (.echo { mac := mac, v6 := true, ip := src, port := 0, own := dst }
          (slice fr (o + 44) (numBE (slice fr (o + 4) 2) - 4))) d, s.2), none)
      else drop
    | 135 =>
      if (ownIp6 d e).contains target ∧ answerMac d e (numBE (slice fr 0 6)) ∧ ¬ bad.any (fun b => b) then
        ((sendFrame e 0 (.neighbour mac src target (decide (src ≠ 0))) d, s.2), none)
      else drop
    | _ => drop
  | _ => drop

/-- A frame past the filters, with its EtherType at byte `o - 2` (R465 to R473). -/
def etherReceive (e : Nat) (fr : List Byte) (bad : List Bool) (o fines : Nat) (s : Device × Memory) : (Device × Memory) × Option RxUandi :=
  let d := s.1
  let ty := numBE (slice fr (o - 2) 2)
  let own := rdF d (pgEth e) Reg.ETH.RAWRX_CFG 16 16
  if ty = 0x88F7 then
    match (if etCtl d e 5 ∧ ptpMac (numBE (slice fr 0 6)) then ptpEntry false fines fr o else none) with
    | some t => (ringIn e fr bad (decide ((ethOf d e).ts.length < 64)) (stampIn e t d, s.2), none)
    | none => (ringIn e fr bad false s, none)
  else if ty = 0x888E ∨ (own ≠ 0 ∧ ty = own) then (ringIn e fr bad false s, none)
  else if ty = 0x0806 then
    if numBE (slice fr (o + 6) 2) = 1 ∧ (ownIp4 d e).contains (numBE (slice fr (o + 24) 4)) ∧
        answerMac d e (numBE (slice fr 0 6)) ∧ ¬ bad.any (fun b => b) then
      ((sendFrame e 0 (.arpReply (numBE (slice fr 6 6)) (numBE (slice fr (o + 14) 4)) (numBE (slice fr (o + 24) 4))) d, s.2), none)
    else ((ethDrop e d, s.2), none)
  else if ty = 0x0800 ∧ etCtl d e 9 then ip4Receive e fr bad o fines s
  else if ty = 0x86DD ∧ etCtl d e 10 then ip6Receive e fr bad o fines s
  else ((ethDrop e d, s.2), none)

/-- A frame lies in the port's frame buffer, and its words are decoded as it is read (R421, R429, IDs 114 and 115): the bytes delivered, and
which words are poisoned. DESIGN CHOICE (log 149). -/
def bufferRead (e : Nat) (fr : List Byte) (damage : List (Nat × Nat)) (d : Device) : (List Byte × List Bool) × Device :=
  if damage = [] then ((fr, []), d)
  else
    let r := forEach (List.range ((fr.length + 7) / 8)) (fun w (x : (List Byte × List Bool) × Device) =>
      let e8 := (damage.find? (fun g => decide (g.1 = w))).elim 0 (fun g => g.2 % 2 ^ 88)
      let y := rsDecode (numLE (slice fr (8 * w) 8) ^^^ e8 % 2 ^ 64) { damage := e8 }
      ((x.1.1 ++ bytesLE 8 y.data, x.1.2 ++ [y.bad]), logOutcome (114 + e) w false y x.2)) (([], []), d)
    ((r.1.1.take fr.length, r.1.2), r.2)

/-- Codewords of the FEC are counted (R493). -/
def fecCount (e off n : Nat) (d : Device) : Device := if n = 0 then d else wr (pgEth e) off (etRd d e off + wd n) d

/-- The MAC takes a frame, from its destination address to the byte before its FCS (R465 to R467, R470, R493): counts, filters, flow control,
MACsec, the tag; answers the plain frame, with where its payload begins. DEDUCED (log 81). DESIGN CHOICE (log 84). -/
def macReceive (e : Nat) (fr : List Byte) (fcsOk : Bool) (line : RxLine) (d : Device) : Device × Option (List Byte × Nat) :=
  let p := pgEth e
  let d := d |> fecCount e Reg.ETH.CNT_FEC_CORR line.fecCorr |> fecCount e Reg.ETH.CNT_FEC_UNCORR line.fecUncorr
    |> doIf (decide (line.high ≠ 0#8 ∨ line.low ≠ 0#8)) (bufferLevels e line.high line.low)
  let dst := numBE (slice fr 0 6)
  if fr.length + 4 < 64 ∨ 9216 < fr.length + 4 then (ethDrop e d, none)
  else if ¬ fcsOk then (bump p Reg.ETH.CNT_FCS d, none)
  else
    let d := bump p Reg.ETH.CNT_RX d
    let pfc := decide (dst = 0x0180C2000001) && decide (numBE (slice fr 12 2) = 0x8808) && decide (numBE (slice fr 14 2) = 0x0101)
    if pfc then (pfcReceive e fr d, none)
    else if ¬ macAccepted d e dst ∨ numBE (slice fr 12 2) = 0x8808 then (ethDrop e d, none)
    else
      let r := macsecIn e fr d
      match r.2 with
      | none => (r.1, none)
      | some x =>
        let tagged := decide (numBE (slice x 12 2) = 0x8100)
        if ¬ tagged ∧ ¬ rdB d p Reg.ETH.VLAN 16 then (ethDrop e r.1, none)
        else (r.1, some (x, if tagged then 18 else 14))

/-- A frame arrives at a port that is up (R465 to R473). -/
def frameReceive (e : Nat) (fr : List Byte) (fcsOk : Bool) (fines : Nat) (line : RxLine) (s : Device × Memory) :
    (Device × Memory) × Option RxUandi :=
  if ¬ ethUp s.1 e then (s, none)
  else
    let r := macReceive e fr fcsOk line s.1
    match r.2 with
    | none => ((r.1, s.2), none)
    | some x =>
      let b := bufferRead e x.1 line.damage r.1
      etherReceive e b.1.1 b.1.2 x.2 fines (b.2, s.2)

/-- In SLEEP the MAC goes on and nothing behind it (R464): whether the frame is a Uandi frame for the device; other frames are discarded. -/
def frameListen (e : Nat) (fr : List Byte) (fcsOk : Bool) (line : RxLine) (s : Device × Memory) : Device × Bool :=
  if ¬ ethUp s.1 e then (s.1, false)
  else
    let r := macReceive e fr fcsOk line s.1
    match r.2 with
    | none => (r.1, false)
    | some x => if (etherReceive e x.1 [] x.2 0 (r.1, s.2)).2.isSome then (r.1, true) else (ethDrop e r.1, false)

/-! ## The transmit ring (R474) -/

/-- A slot is queued, and the port can send it. -/
def rawTxReady (d : Device) (e : Nat) : Bool :=
  ethUp d e && decide (ringSlots (etRd d e Reg.ETH.RAWTX_CFG) ≠ 0) &&
    decide (rdF d (pgEth e) Reg.ETH.RAWTX_RD 0 6 ≠ rdF d (pgEth e) Reg.ETH.RAWTX_WR 0 6) && !paused d e 7 && saReady d e

/-- Where a PTP header lies in a frame sent that is stamped (R471): at Layer 2 to a PTP address; over UDP port 319 where PTP_CFG enables it, to
a PTP group or the port's own address. DEDUCED (log 81). -/
def ptpAt (d : Device) (e : Nat) (fr : List Byte) : Option Nat :=
  let o := if numBE (slice fr 12 2) = 0x8100 then 18 else 14
  let ty := numBE (slice fr (o - 2) 2)
  let ip4 := numBE (slice fr (o + 16) 4)
  let ip6 := numBE (slice fr (o + 24) 16)
  if ty = 0x88F7 then (if ptpMac (numBE (slice fr 0 6)) then some o else none)
  else if ty = 0x0800 ∧ numBE (slice fr (o + 9) 1) = 17 ∧ numBE (slice fr (o + 22) 2) = 319 then
    (if rdB d (pgEth e) Reg.ETH.PTP_CFG 1 ∧ (group4 ip4 ∨ (ownIp4 d e).contains ip4) then some (o + 28) else none)
  else if ty = 0x86DD ∧ numBE (slice fr (o + 6) 1) = 17 ∧ numBE (slice fr (o + 42) 2) = 319 then
    (if rdB d (pgEth e) Reg.ETH.PTP_CFG 2 ∧ (group6 ip6 ∨ (ownIp6 d e).contains ip6) then some (o + 48) else none)
  else none

/-- The next slot leaves. -/
def rawTxSend (e fines : Nat) (s : Device × Memory) : Device × Memory :=
  let d := s.1
  let n := ringSlots (etRd d e Reg.ETH.RAWTX_CFG)
  let i := rdF d (pgEth e) Reg.ETH.RAWTX_RD 0 6
  let a := slotAddr (rdF d (pgEth e) Reg.ETH.RAWTX_BASE 12 14 * 4096) i
  let next := fun (d : Device) => wr (pgEth e) Reg.ETH.RAWTX_RD (wd ((i + 1) % n)) d
  match readMem a 4 s.2 d with
  | none => (next (ethDrop e d), s.2)
  | some h =>
    let head := numLE h.1.bytes
    let len := head % 2 ^ 14
    if len < 60 ∨ 9212 < len then (next (ethDrop e h.2), s.2)
    else match readMem (a + 16) len s.2 h.2 with
      | none => (next (ethDrop e h.2), s.2)
      | some b =>
        let d := b.2
        let t := if head / 65536 % 2 = 1 ∧ etCtl d e 5 then
            (match ptpAt d e b.1.bytes with | some o => ptpEntry true fines b.1.bytes o | none => none) else none
        let d := sendFrame e 7 (.raw b.1.bytes) d
        let d := match t with | some t => stampIn e t d | none => d
        (raise (pgEth e) 2 (next d), s.2)

/-! ## The pages -/

/-- The live bits of STAT become those of v; a change of LINK_UP is reported (R494). DEDUCED (log 81). -/
def linkChange (e : Nat) (v : Word) (d : Device) : Device :=
  let was := rdB d (pgEth e) Reg.ETH.STAT 0
  let d := wr (pgEth e) Reg.ETH.STAT (merge (rd d (pgEth e) Reg.ETH.STAT) v 0xF3D#32) d
  let d := if rdB d (pgEth e) Reg.ETH.STAT 0 = was then d
    else raise (pgEth e) 0 (setEth e { ethOf d e with linkAt := d.time.now } (wrB (pgEth e) Reg.ETH.STAT 6 true d))
  flushAll e d

/-- A write of an ETH page; SPEED 0 or 3 takes the port down (R493). -/
def ethWrite (e off : Nat) (w : Wr) (d : Device) : Device :=
  if off = Reg.ETH.TS_STAT then (if one w 8 then wrF (pgEth e) off 8 24 0 d else d)
  else if 0x100 ≤ off ∧ off < 0x200 ∧ off % 0x40 < 0x20 then wr (pgEth e) off w.data d
  else
    let d := storeReg (pgEth e) off w.data d
    if off = Reg.ETH.CTL ∧ ¬ (fld w.data 0 2 = 1 ∨ fld w.data 0 2 = 2) then linkChange e 0#32 d else flushAll e d

def ethView (e off : Nat) (d : Device) : Word :=
  if off = Reg.ETH.TS_HEAD then tsHead d e
  else if off = Reg.ETH.TS_STAT then setFld (rd d (pgEth e) off) 0 7 (ethOf d e).ts.length
  else if 0x100 ≤ off ∧ off < 0x200 ∧ off % 0x40 < 0x20 then 0#32
  else rd d (pgEth e) off

end Sys2Proof.Machine
end

