-- ==== Sys2Proof/Machine/EvaOps.lean ====
section
/-! DEFINITION. The event arbiter (spec/16, R559 to R566): grants, and the delivery of a record to interrupt controllers (R415),
session queues (R489), other devices (R540) and the log (R566); event frames (R489, R490). -/

namespace Sys2Proof.Machine

/-! ## Interrupt controllers (R415 to R417) -/

def coreOf (d : Device) (k : Nat) : Core := d.core.get (fun _ => {}) k
def setCore (k : Nat) (c : Core) (d : Device) : Device := { d with core := d.core.set (fun _ => {}) k c }

/-- The offsets of the PEND and EN words that hold line l. -/
def pendOff (l : Nat) : Nat := if l < 32 then Reg.ICU.PEND_LO else Reg.ICU.PEND_HI
def lineEnOff (l : Nat) : Nat := if l < 32 then Reg.ICU.EN_LO else Reg.ICU.EN_HI
def linePend (d : Device) (k l : Nat) : Bool := rdB d (pgIcu k) (pendOff l) (l % 32)
def lineEn (d : Device) (k l : Nat) : Bool := rdB d (pgIcu k) (lineEnOff l) (l % 32)

/-- A `wait` of core k ends when some line is pending and enabled (R417). DEDUCED (log 74). -/
def icuWake (k : Nat) (d : Device) : Device :=
  if (coreOf d k).waiting ∧ (List.range 64).any (fun l => linePend d k l && lineEn d k l) then
    setCore k { coreOf d k with waiting := false } d
  else d

/-- Line l of core k takes an event. -/
def linePost (k l : Nat) (d : Device) : Device :=
  if linePend d k l then bump (pgIcu k) Reg.ICU.MERGED d else icuWake k (wrB (pgIcu k) (pendOff l) (l % 32) true d)

/-- Every line that follows a source takes its event. -/
def icuDeliver (src : Nat) (d : Device) : Device :=
  forEach ((List.range 36).filter (fun k => domainOn d (pgIcu k))) (fun k d =>
    forEach ((List.range 64).filter (fun l => decide (rdF d (pgIcu k) (Reg.ICU.SRC l) 0 10 = src))) (fun l d => linePost k l d) d) d

/-! ## Records -/

/-- The flags of a record (R562). -/
def recFlags (r : EvRec) : Nat := b2n r.merged + 2 * b2n r.fwd + 4 * b2n r.makeup

/-- A record on the wire (R490). -/
def recBytes (r : EvRec) : List Byte :=
  bytesBE 6 r.stamp ++ bytesBE 4 r.seq ++ bytesBE 2 r.code ++ bytesBE 2 r.source ++ bytesBE 2 (recFlags r)

/-- A record from the wire. -/
def recOf (bs : List Byte) : EvRec :=
  let f := numBE (slice bs 14 2)
  { stamp := numBE (slice bs 0 6), seq := numBE (slice bs 6 4), code := numBE (slice bs 10 2), source := numBE (slice bs 12 2) % 1024
    merged := decide (f % 2 = 1), fwd := decide (f / 2 % 2 = 1), makeup := decide (f / 4 % 2 = 1) }

/-! ## Sessions: what is sent (R475, R489, R490) -/

def sessOf (d : Device) (s : Nat) : Session := d.sess.get (fun _ => {}) s
def setSess (s : Nat) (x : Session) (d : Device) : Device := { d with sess := d.sess.set (fun _ => {}) s x }

/-- The header of a message (R475). -/
def msgHeader (flags s op gen seq status len : Nat) : List Byte :=
  bytesBE 2 0x5544 ++ bytesBE 1 1 ++ bytesBE 1 flags ++ bytesBE 1 s ++ bytesBE 1 op ++ bytesBE 2 gen ++ bytesBE 4 seq ++
    bytesBE 2 status ++ bytesBE 2 len

/-- A message goes to a peer through a port at its control priority; bodies are padded to a multiple of 4 (R477). -/
def sendMsg (e : Nat) (peer : Peer) (flags s op gen seq status : Nat) (body : List Byte) (d : Device) : Device :=
  let b := padTo 4 body
  sendFrame e (rdF d (pgEth e) Reg.ETH.CTL 13 3)
    (.udp peer (rdF d (pgEth e) Reg.ETH.UDP_PORT 0 16) (msgHeader flags s op gen seq status b.length ++ b)) d

/-- The control engine works (R495). -/
def uandiOn (d : Device) : Bool := enabled d pgUandi && domainOn d pgUandi

/-- An event frame with up to 64 records leaves (R489, R490). -/
def eventFrame (s : Nat) (d : Device) : Device :=
  let x := sessOf d s
  match x.peer with
  | none => d
  | some p =>
    let now := x.events.take 64
    let body := bytesBE 2 now.length ++ bytesBE 2 (min 0xFFFF x.lost) ++ now.flatMap (fun e => recBytes e.1)
    let seq := (rd d pgUandi (Reg.UANDI.SESS_EVSEQ s)).toNat
    d |> setSess s { x with events := x.events.drop 64, lost := 0 } |> bump pgUandi (Reg.UANDI.SESS_EVSEQ s)
      |> sendMsg x.port p 0x10 s 0x80 x.gen seq 0 body

/-- A frame is due because 64 records are queued, or HOLD microseconds after the oldest was granted. -/
def eventsFull (d : Device) (s : Nat) : Bool := uandiOn d && decide (64 ≤ (sessOf d s).events.length)
def holdOver (d : Device) (s : Nat) : Bool :=
  uandiOn d && (sessOf d s).opened && (match (sessOf d s).events with
    | e :: _ => decide (e.2 + (sessOf d s).hold * 1280 ≤ d.time.now)
    | [] => false)

/-- The frames that are due because so many records are queued leave, when the engine works again (R495); 256 are the most. -/
def eventsGo (s : Nat) (d : Device) : Device := forEach (List.range 4) (fun _ d => doIf (eventsFull d s) (eventFrame s) d) d

/-- A record joins the queues of the sessions that subscribe its source. -/
def sessDeliver (r : EvRec) (d : Device) : Device :=
  forEach ((List.range 16).filter (fun s => (sessOf d s).opened && (sessOf d s).subs.getLsbD r.source)) (fun s d =>
    let x := sessOf d s
    if x.events.length < 256 then
      let d := setSess s { x with events := x.events ++ [(r, d.time.now)] } d
      doIf (eventsFull d s) (eventFrame s) d
    else
      setSess s { x with lost := x.lost + 1 } d |> bump pgUandi (Reg.UANDI.SESS_EVLOST s) |> raise pgUandi 3) d

/-! ## Forwarding (R540, R564) -/

/-- An EVENT flit brings a record of another device (R564). -/
def eventArrives (payload : List Byte) (d : Device) : Device :=
  let r := recOf payload
  let origin := numBE (slice payload 16 2) % 4096
  let hit := fun i =>
    let w := rd d pgEva (Reg.EVA.FWD_IN i)
    bit w 31 && decide (fld w 16 12 = origin) && decide (fld w 0 10 = r.source)
  match (List.range 16).find? hit with
  | some i => request { r with source := 1000 + i, fwd := true } d
  | none =>
    request { r with source := 1016, fwd := true } (wr pgEva Reg.EVA.FWD_LAST (wd (origin * 2 ^ 16 + r.source)) d)

/-- A record is sent as an EVENT flit, which Weevil routes as any other (R534, R540). DEDUCED (log 110). -/
def eventSend (dest : Nat) (r : EvRec) (d : Device) : Device :=
  routeFlits none [{ typ := 6, vc := 1, dest := dest, src := myId d, hops := issueHops d, payload := recBytes r ++ bytesBE 2 (myId d) }] d

/-- The EVFWD entries that select a source forward its record (R540). DEDUCED (log 110). -/
def fwdDeliver (r : EvRec) (d : Device) : Device :=
  forEach ((List.range 16).filter (fun i =>
      bit (rd d pgFab (Reg.FAB.EVFWD i)) 31 && decide (rdF d pgFab (Reg.FAB.EVFWD i) 0 10 = r.source)))
    (fun i d => eventSend (rdF d pgFab (Reg.FAB.EVFWD i) 16 12) r d) d

/-! ## The log (R566) -/

/-- DEDUCED (log 110). -/
def logDeliver (r : EvRec) (d : Device) : Device :=
  if ¬ (rdB d pgEva Reg.EVA.CTL 0 ∧ rdB d pgEva (Reg.EVA.LOG_MASK (r.source / 32)) (r.source % 32)) then d
  else if d.eva.log.length < 256 then
    let first := decide (d.eva.log = [])
    raiseIf first pgEva 0 { d with eva := { d.eva with log := d.eva.log ++ [r] } }
  else
    let lost := rdF d pgEva Reg.EVA.LOG_STAT 16 16
    d |> wrF pgEva Reg.EVA.LOG_STAT 16 16 (min 0xFFFF (lost + 1)) |> wrB pgEva Reg.EVA.LOG_STAT 12 true |> raise pgEva 1

/-- A read of LOG_HEAD pops. -/
def logPop (d : Device) : Device :=
  match d.eva.log with
  | [] => wrB pgEva Reg.EVA.LOG_POP_INFO 31 false d
  | r :: rs => { d with eva := { d.eva with log := rs } }
    |> wr pgEva Reg.EVA.LOG_POP_INFO (wd (2 ^ 31 + recFlags r % 8 * 2 ^ 28 + r.source * 2 ^ 16 + r.stamp / 2 ^ 32))
    |> wr pgEva Reg.EVA.LOG_POP_STAMP (wd r.stamp) |> wr pgEva Reg.EVA.LOG_POP_CODE (wd r.code)

/-! ## Grants (R561) -/

/-- The stamp of a request relative to now, by the shorter way round (R58). -/
def stampAge (d : Device) (s : Nat) : Int := signed 48 ((s + 2 ^ 48 - stampNow d) % 2 ^ 48)

/-- MIDNIGHT: TB, cause 4 (R57, R82). -/
def isMidnight (r : EvRec) : Bool := decide (r.source = 0) && decide (r.code = 4) && decide (r.stamp = 0)

/-- Request `a` is granted before `b`: by widened stamp, source, code; MIDNIGHT goes before any other of its stamp (R57). -/
def grantsBefore (d : Device) (a b : EvRec) : Bool :=
  let x := stampAge d a.stamp
  let y := stampAge d b.stamp
  if x = y ∧ (isMidnight a ∨ isMidnight b) then isMidnight a else
  decide (x < y) || (decide (x = y) && (decide (a.source < b.source) || (decide (a.source = b.source) && decide (a.code < b.code))))

def grantInsert (d : Device) (r : EvRec) : List EvRec → List EvRec
  | [] => [r]
  | e :: es => if grantsBefore d r e then r :: e :: es else e :: grantInsert d r es

/-- Requests in the order of R561. -/
def grantSort (d : Device) (rs : List EvRec) : List EvRec := rs.foldl (fun acc r => grantInsert d r acc) []

/-- One record takes its arbiter sequence number and goes to every destination (R565). -/
def grantOne (r : EvRec) (d : Device) : Device :=
  let r := { r with seq := (rd d pgEva Reg.EVA.SEQ_NEXT).toNat }
  d |> bump pgEva Reg.EVA.SEQ_NEXT |> icuDeliver r.source |> sessDeliver r |> fwdDeliver r |> logDeliver r

/-- A grant step: up to 32 requests. -/
def grantStep (d : Device) : Device :=
  let rs := grantSort d d.eva.pending
  forEach (rs.take 32) grantOne { d with eva := { d.eva with pending := rs.drop 32 } }

/-! ## The EVA page (R577) -/

def evaWrite (off : Nat) (w : Wr) (d : Device) : Device :=
  if off = Reg.EVA.LOG_STAT then
    (if one w 12 then d |> wrF pgEva off 16 16 0 |> wrB pgEva off 12 false else d)
  else storeReg pgEva off w.data d

/-- DEDUCED (log 109). -/
def evaView (off : Nat) (d : Device) : Word :=
  if off = Reg.EVA.LOG_STAT then setFld (rd d pgEva off) 0 9 d.eva.log.length
  else if off = Reg.EVA.LOG_HEAD then (match d.eva.log with | r :: _ => wd r.seq | [] => 0#32)
  else rd d pgEva off

/-! ## ICU pages (R420) -/

def icuWrite (k off : Nat) (w : Wr) (d : Device) : Device :=
  if off = Reg.ICU.SET_LO then icuWake k (wr (pgIcu k) Reg.ICU.PEND_LO (rd d (pgIcu k) Reg.ICU.PEND_LO ||| w.data) d)
  else if off = Reg.ICU.SET_HI then icuWake k (wr (pgIcu k) Reg.ICU.PEND_HI (rd d (pgIcu k) Reg.ICU.PEND_HI ||| w.data) d)
  else icuWake k (storeReg (pgIcu k) off w.data d)

end Sys2Proof.Machine
end

