-- ==== Sys2Proof/Machine/StreamTxOps.lean ====
section
/-! DEFINITION. Streams on the wire (spec/14, R499 to R513): frames, credits, failover, configuration checks, the abort and the
registers of the STREAM page. -/

namespace Sys2Proof.Machine

/-! ## Records on the wire (R500, R503) -/

/-- The owner session of a stream (R496), and whether it may have frames sent. -/
def streamOwner (d : Device) (s : Nat) : Nat := fld (stRd d s Reg.STREAM.CFG) 24 4
def streamOwned (d : Device) (s : Nat) : Bool :=
  (sessOf d (streamOwner d s)).opened && rdB d pgUandi (Reg.UANDI.SESS_CFG (streamOwner d s)) 2

/-- Unsent records in the order in which they leave (R507). -/
def streamQueue (d : Device) (s : Nat) : List StreamRec := (streamOf d s).staged ++ (streamOf d s).hold

/-- The payload of one entry of each kind at its largest (R497), and of the largest record (R504). -/
def entrySize (d : Device) (s : Nat) : Nat :=
  let a := stRd d s Reg.STREAM.SRC_A
  let chans := fld a 16 8 + 1 - fld a 0 8
  let picked := ((List.range 128).filter (srcMask d s)).length
  match streamKind d s with
  | 1 => 2 * chans
  | 2 => 4 * chans
  | 3 => 16
  | 4 => 8
  | 5 => (picked + 31) / 32 * 8
  | 6 => 8 * (bitsOf a 32).length
  | 7 => (stRd d s Reg.STREAM.SRC_B).toNat
  | _ => 0
def largestPayload (d : Device) (s : Nat) : Nat := entrySize d s * streamBlk d s

/-- The poison map of a region of n bytes (R502). -/
def mapSize (n : Nat) : Nat := (n + 511) / 512 * 8

/-- The largest record that the configuration can produce and a frame has room for (R502, R504). DESIGN CHOICE (log 92). -/
def largestRecord (d : Device) (s : Nat) : Nat :=
  let n := largestPayload d s
  min frameRoom (16 + (n + 7) / 8 * 8 + (if streamKind d s = 7 then mapSize n else 0))

/-- Whole records up to a total size. -/
def packRecords : Nat → List StreamRec → List StreamRec
  | _, [] => []
  | room, r :: rs => if recSize r ≤ room then r :: packRecords (room - recSize r) rs else []
def frameRecords (d : Device) (s : Nat) : List StreamRec := packRecords frameRoom (streamQueue d s)

/-- A frame has no room for another record; or FLUSH ticks have passed since its first record closed (R504). -/
def frameFull (d : Device) (s : Nat) : Bool :=
  decide (frameRecords d s ≠ []) && decide (frameRoom < recsSize (frameRecords d s) + largestRecord d s)
def frameFlush (d : Device) (s : Nat) : Bool :=
  match streamQueue d s with
  | r :: _ => decide (r.closed + streamFlush d s ≤ d.time.now)
  | [] => false

/-- The frame becomes ready by its age (R504). -/
def flushExpires (s : Nat) (d : Device) : Device := if frameFlush d s then setStream s { streamOf d s with ready := true } d else d

/-- Credit units that b bytes use (R505). -/
def creditUnits (b : Nat) : Nat := (b + 4095) / 4096

/-- Credit allows a frame of p bytes (R505). -/
def creditFor (d : Device) (s p : Nat) : Bool :=
  decide (((stRd d s Reg.STREAM.LIMIT).toNat + 2 ^ 32 - creditUnits ((streamOf d s).sentBytes + p) % 2 ^ 32) % 2 ^ 32 < 2 ^ 31)

/-- The port of a stream, and its priority there (R504, R510). -/
def streamPort (d : Device) (s : Nat) : Nat := if (streamOf d s).onEth0 then 0 else 1
def streamPcp (d : Device) (s : Nat) : Nat := if (streamOf d s).onEth0 then rdF d pgStream Reg.STREAM.CTL 8 3 else 6

/-- The port takes a frame of the priority at once. -/
def portIdle (d : Device) (e p : Nat) : Bool :=
  ethUp d e && !paused d e p && saReady d e && !(ethOf d e).wait.any (fun x => decide (x.1 = p))

/-- UDP payload bytes of the next frame. -/
def frameSize (d : Device) (s : Nat) : Nat := 16 + recsSize (frameRecords d s)

/-- The next frame of a stream can leave now (R496, R504, R505, R511). DESIGN CHOICE (log 96). -/
def frameReady (d : Device) (s : Nat) : Bool :=
  domainOn d pgStream && (frameFull d s || (streamOf d s).ready) && streamOwned d s && (streamOf d s).fence.isNone &&
    creditFor d s (frameSize d s) && portIdle d (streamPort d s) (streamPcp d s)

/-- The stream whose turn it is, in ascending round robin (R504). DESIGN CHOICE (log 96). -/
def nextStream (d : Device) : Option Nat :=
  ((List.range 16).map (fun i => (d.streamTurn + i) % 16)).find? (frameReady d)

/-- The frame of a stream leaves (R503 to R505, R511). -/
def sendStream (s : Nat) (d : Device) : Device :=
  let x := streamOf d s
  let rs := frameRecords d s
  let o := sessOf d (streamOwner d s)
  let size := frameSize d s
  let flags := 128 * b2n x.onEth0 + 64 * b2n (rs.any (fun r => decide (r.flags % 2 = 1)))
  let head := bytesBE 2 0x5553 ++ bytesBE 1 1 ++ bytesBE 1 flags ++ bytesBE 1 s ++ bytesBE 1 (streamOwner d s) ++ bytesBE 2 o.gen ++
    bytesBE 4 (stRd d s Reg.STREAM.FSEQ).toNat ++ bytesBE 2 rs.length ++ bytesBE 2 (size - 16)
  match o.peer with
  | none => d
  | some p =>
    let e := streamPort d s
    let own := match p.v6 with | true => (if ethIp6 d e = 0 then ethLinkLocal d e else ethIp6 d e) | false => ethIp4 d e
    let n := x.staged.length
    let d := { setStream s { x with
        staged := x.staged.drop rs.length, hold := x.hold.drop (rs.length - n), ready := false, sentBytes := x.sentBytes + size
        emptied := if (streamQueue d s).length = rs.length then some d.time.now else x.emptied } d with
          streamTurn := (s + 1) % 16 }
    d |> bump pgStream (Reg.STREAM.FSEQ s) |> bump pgStream (Reg.STREAM.FRM_CNT s)
      |> wr pgStream (Reg.STREAM.USED s) (wd (creditUnits (x.sentBytes + size)))
      |> sendFrame e (streamPcp d s) (.udp { p with own := own } (rdF d (pgEth e) Reg.ETH.UDP_PORT 0 16)
          (head ++ rs.flatMap (recordBytes s)))

/-- A record's time to close has come (R501). -/
def recordFlushDue (d : Device) (s : Nat) : Bool :=
  match (streamOf d s).cur with
  | some o => decide (o.tick + streamFlush d s ≤ d.time.now)
  | none => false

/-! ## Credit and generations (R505, R506) -/

/-- A CREDIT names a stream. -/
def grantCredit (s limit : Nat) (d : Device) : Device :=
  let g := (limit + 2 ^ 32 - (stRd d s Reg.STREAM.LIMIT).toNat) % 2 ^ 32
  if 1 ≤ g ∧ g < 2 ^ 31 then wr pgStream (Reg.STREAM.LIMIT s) (wd limit) d else d

/-- A new generation of a session begins. -/
def streamsReopen (sess : Nat) (d : Device) : Device :=
  forEach ((List.range 16).filter (fun s => decide (streamOwner d s = sess))) (fun s d =>
    d |> wr pgStream (Reg.STREAM.LIMIT s) 0#32 |> wr pgStream (Reg.STREAM.USED s) 0#32 |> wr pgStream (Reg.STREAM.FSEQ s) 0#32
      |> setStream s { streamOf d s with sentBytes := 0 }) d

/-! ## Failover (R510, R511) -/

def foDelay (d : Device) : Nat := rdF d pgStream Reg.STREAM.FO_DELAY 0 16 * 1280
def foFence (d : Device) : Nat := rdF d pgStream Reg.STREAM.CTL 16 16 * 1280

/-- LINK_UP of ETH1 has kept its level for FO_DELAY. -/
def linkSteady (d : Device) (up : Bool) : Bool :=
  decide (rdB d (pgEth 1) Reg.ETH.STAT 0 = up) && decide ((ethOf d 1).linkAt + foDelay d ≤ d.time.now)

def failoverDue (d : Device) (s : Nat) : Bool :=
  domainOn d pgStream && bit (stRd d s Reg.STREAM.CFG) 30 && !(streamOf d s).onEth0 && linkSteady d false
def failbackDue (d : Device) (s : Nat) : Bool :=
  domainOn d pgStream && (streamOf d s).onEth0 && linkSteady d true

/-- A stream moves to the other port. -/
def streamMove (s : Nat) (d : Device) : Device :=
  let x := streamOf d s
  setStream s { x with onEth0 := !x.onEth0, fence := some d.time.now } d |> raise pgStream (if x.onEth0 then 3 else 2)

def foFenceOver (d : Device) (s : Nat) : Bool :=
  match (streamOf d s).fence with
  | some t => decide (t + foFence d ≤ d.time.now)
  | none => false
def foFenceEnd (s : Nat) (d : Device) : Device := setStream s { streamOf d s with fence := none } d

/-! ## Configuration (R499) -/

/-- FAST channels share their output boundaries (R498). -/
def fastAgree (d : Device) (s : Nat) : Bool :=
  let a := stRd d s Reg.STREAM.SRC_A
  let first := fld a 0 8
  let last := fld a 16 8
  let chs := (List.range 160).filter (fun c => decide (first ≤ c) && decide (c ≤ last))
  let same := chs.all (fun c => decide (fastRatio d c = fastRatio d first))
  decide (last < 160) && same && (decide (last < 96) || (decide (96 ≤ first) &&
    chs.all (fun c => decide (rdF d pgXbs (Reg.XBS.XCFG (c - 96)) 4 4 = rdF d pgXbs (Reg.XBS.XCFG (first - 96)) 4 4))))

/-- A configuration that is refused. DEDUCED (log 95). -/
def badStream (d : Device) (s : Nat) : Bool :=
  let k := streamKind d s
  let off := fld (stRd d s Reg.STREAM.SRC_A) 0 26
  let len := (stRd d s Reg.STREAM.SRC_B).toNat
  ((decide (k = 1) || decide (k = 2)) && !fastAgree d s) ||
    (decide (k = 7) && (decide (off % 8 ≠ 0) || decide (len % 8 ≠ 0) || decide (len = 0) || decide (bulkSize < off + len))) ||
    decide (9112 < largestPayload d s)

/-- The stream whose block holds an offset. DEDUCED (log 95). -/
def streamBlock (off : Nat) : Option Nat := if 0x100 ≤ off ∧ off < 0x500 then some ((off - 0x100) / 64) else none

/-- Writes of the STREAM page. -/
def streamWrite (off : Nat) (w : Wr) (d : Device) : Device :=
  match streamBlock off with
  | none => storeReg pgStream off w.data d
  | some s =>
    let cfg := Reg.STREAM.CFG s
    let on := rdB d pgStream cfg 31
    if off = cfg then
      let new := storedValue d pgStream cfg w.data
      if on ∧ setBit new 31 true ≠ rd d pgStream cfg then refuse pgStream 0x81 off w.who d
      else
        let d' := wr pgStream cfg new d
        if ¬ on ∧ bit new 31 ∧ badStream d' s then refuse pgStream 0x80 off w.who d else d'
    else if on then refuse pgStream 0x81 off w.who d
    else
      let d := storeReg pgStream off w.data d
      note (decide (off = Reg.STREAM.TRIG s) && selBad (fld w.data 0 16)) pgStream 0x82 off w.who d

def streamView (off : Nat) (d : Device) : Word :=
  if off = Reg.STREAM.STAT then streamStat d
  else match streamBlock off with
    | some s => if off = Reg.STREAM.UNSENT s then wd (streamUnsent d s) else rd d pgStream off
    | none => rd d pgStream off

/-! ## Abort and soft reset (R512) -/

/-- DESIGN CHOICE (log 97). -/
def streamBusy (d : Device) : Bool := (List.range 16).any (fun s => decide (streamUnsent d s ≠ 0))

/-- Adds a discarded record to the run of losses; a GAP record's own run joins it (R509). -/
def discardOne (g : Option StreamGap) (r : StreamRec) : StreamGap :=
  let n := if r.kind = 15 then numBE (slice r.payload 0 4) else 1
  let last := if r.kind = 15 then numBE (slice r.payload 4 6) else r.stamp
  let reason := 8 ||| (if r.kind = 15 then numBE (slice r.payload 10 2) else 0)
  match g with
  | none => { rseq := r.rseq, stamp := r.stamp, count := n, last := last, reason := reason, flags := r.flags / 8 % 2 * 8 }
  | some g => { g with count := g.count + n, last := last, reason := g.reason ||| reason }

/-- The last unsent record has left at the present tick (R512). -/
def streamsEmptied (d : Device) : Bool := !streamBusy d && (List.range 16).any (fun s => decide ((streamOf d s).emptied = some d.time.now))

/-- The unsent records of a stream are discarded; GAP is raised unless it has been for the run that they join. DESIGN CHOICE (log 97). -/
def discardStream (s : Nat) (d : Device) : Device :=
  let x := streamOf d s
  let q := streamQueue d s
  match q.foldl (fun g r => some (discardOne g r)) (none : Option StreamGap) with
  | none => d
  | some g =>
    let g := match x.gap with
      | some t => { g with count := g.count + t.count, last := t.last, reason := g.reason ||| t.reason }
      | none => g
    let lost := (q.filter (fun r => r.kind ≠ 15)).length
    let d := setStream s { x with staged := [], hold := [], ready := false, gap := some g } d
      |> wr pgStream (Reg.STREAM.GAP_CNT s) (wd ((stRd d s Reg.STREAM.GAP_CNT).toNat + lost))
    if x.gap.isSome then d else raise pgStream 0 d

/-- DESIGN CHOICE (log 97). -/
def discardStreams (d : Device) : Device := forEach (List.range 16) discardStream d

end Sys2Proof.Machine
end

