-- ==== Sys2Proof/Machine/UandiOps.lean ====
section
/-! DEFINITION. Sessions of the Uandi control engine (spec/13, R475 to R489, R495): messages and their parsing, responses and the
replay cache, opening and closing, access lists, and the UANDI page. -/

namespace Sys2Proof.Machine

/-! ## Messages (R475, R476) -/

/-- A received message: session, whether it carries poison, opcode, generation, sequence number, body. -/
structure Msg where
  sess : Nat
  poison : Bool
  opcode : Nat
  gen : Nat
  seq : Nat
  body : List Byte
  deriving DecidableEq, Repr

/-- A payload that is a request; none where R476 discards it. -/
def parseMsg (p : List Byte) : Option Msg :=
  let flags := numBE (slice p 3 1)
  let sess := numBE (slice p 4 1)
  if p.length < 16 ∨ numBE (slice p 0 2) ≠ 0x5544 ∨ numBE (slice p 2 1) ≠ 1 ∨ 128 ≤ flags ∨ flags / 16 % 2 = 1 ∨ flags % 16 ≠ 0 ∨
      16 ≤ sess ∨ numBE (slice p 14 2) ≠ p.length - 16 then none
  else some { sess := sess, poison := decide (flags / 64 % 2 = 1), opcode := numBE (slice p 5 1), gen := numBE (slice p 6 2)
              seq := numBE (slice p 8 4), body := p.drop 16 }

/-- A message is discarded without response (R476, R484, R495). -/
def discardMsg (d : Device) : Device := raise pgUandi 2 (bump pgUandi Reg.UANDI.DISC_CNT d)

/-! ## Responses (R475, R481 to R483) -/

/-- A response leaves for the peer of a request. DEDUCED (log 82). -/
def sendResponse (s : Nat) (q : SessReq) (dup : Bool) (status : Nat) (poison : Bool) (body : List Byte) (d : Device) : Device :=
  sendMsg q.port q.peer (128 + 64 * b2n poison + 32 * b2n dup) s q.opcode q.gen q.seq status body d

/-- The response of a sequenced request is kept in the replay cache, which holds those of the last 64 (R481, R482). -/
def cacheResponse (s : Nat) (q : SessReq) (status : Nat) (poison : Bool) (body : List Byte) (d : Device) : Device :=
  let x := sessOf d s
  let long := decide (256 < (padTo 4 body).length)
  let r : SessRsp := { seq := q.seq, opcode := q.opcode, status := status, poison := poison, long := long
                       body := if long then [] else body }
  let keep := x.cache.filter (fun e => decide (e.seq ≠ q.seq) && decide ((x.next + 2 ^ 32 - e.seq) % 2 ^ 32 ≤ 64))
  setSess s { x with cache := keep ++ [r] } d

/-- A request has been performed: its response leaves and is cached. -/
def respond (s : Nat) (q : SessReq) (status : Nat) (poison : Bool) (body : List Byte) (d : Device) : Device :=
  sendResponse s q false status poison body (cacheResponse s q status poison body d)

/-- A duplicate is answered from the cache (R481, R482). DEDUCED (log 82). -/
def respondAgain (s : Nat) (q : SessReq) (r : SessRsp) (d : Device) : Device :=
  let d := bump pgUandi (Reg.UANDI.SESS_DUP s) d
  let q := { q with opcode := r.opcode }
  if r.long then sendResponse s q true 0x0309 false [] d else sendResponse s q true r.status r.poison r.body d

/-! ## Opening and closing (R484, R485) -/

/-- A session closes: G is kept, its binding, subscriptions and event queue go. Requests in progress elsewhere run on. DEDUCED (log 87). -/
def closeSession (s : Nat) (d : Device) : Device :=
  let x := sessOf d s
  if x.opened then
    setSess s { x with opened := false, closing := false, peer := none, slots := [], cache := [], subs := 0#1024
                       events := [], lost := 0 } d |> raise pgUandi 1
  else d

/-- ENABLE is cleared on an open session: it closes after the requests in progress, and buffered ones are discarded. DEDUCED (log 87). -/
def disableSession (s : Nat) (d : Device) : Device :=
  let x := sessOf d s
  if ¬ x.opened then d
  else if x.fly = [] then closeSession s d
  else setSess s { x with slots := [], opening := none, closing := true } d

/-- The LAST_DONE and other fields of an OPEN's response. -/
def openBody (d : Device) (x : Session) : List Byte :=
  bytesBE 2 x.gen ++ bytesBE 1 (b2n x.ever) ++ [0#8] ++ bytesBE 4 (if x.ever then (x.next + 2 ^ 32 - 1) % 2 ^ 32 else 0) ++
    bytesBE 2 x.slots.length ++ bytesBE 2 (myId d)

/-- An accepted OPEN is performed: the session's old requests in progress have ended (R484, R506, R571). -/
def openSession (s : Nat) (q : SessReq) (d : Device) : Device :=
  let x := sessOf d s
  let body := openBody d x
  let y : Session := { opened := true, ever := true, gen := q.gen, next := (q.seq + 1) % 2 ^ 32
                       peer := some q.peer, port := q.port }
  d |> setSess s y |> wr pgUandi (Reg.UANDI.SESS_EVSEQ s) 0#32 |> streamsReopen s |> respond s q 0 false body |> raise pgUandi 0

/-! ## Access lists (R486) -/

/-- Entry e of session s allows an access at a fabric address, of rights r and w. -/
def aclEntry (d : Device) (s e dest page : Nat) (r w : Bool) : Bool :=
  let a := rd d pgUandi (Reg.UANDI.ACL_ATTR s e)
  let own := fun x => if x = 0xFFF then myId d else x
  bit a 31 && (bit a 30 || decide (own (fld a 0 12) = own dest)) &&
    decide (rdF d pgUandi (Reg.UANDI.ACL_FIRST s e) 0 24 ≤ page) && decide (page ≤ rdF d pgUandi (Reg.UANDI.ACL_LAST s e) 0 24) &&
    (!r || bit a 29) && (!w || bit a 28)

/-- The whole range of n bytes at a fabric address is allowed: each 4 KiB page of it by some entry. -/
def aclAllows (d : Device) (s addr n : Nat) (r w : Bool) : Bool :=
  let dest := addr / 2 ^ 36
  let first := addr % 2 ^ 36 / 4096
  let last := (addr % 2 ^ 36 + (n - 1)) / 4096
  (List.range (last - first + 1)).all (fun i => (List.range 8).any (fun e => aclEntry d s e dest (first + i) r w))

/-- The session holds a right of SESS_CFG: 1 EVENTS, 2 STREAM, 3 IMAGE. -/
def sessRight (d : Device) (s i : Nat) : Bool := rdB d pgUandi (Reg.UANDI.SESS_CFG s) i

/-! ## CREDIT and subscriptions (R488, R489) -/

/-- CREDIT: never answered, and accepted from any source. -/
def creditMsg (m : Msg) (d : Device) : Device :=
  let x := sessOf d m.sess
  let s := numBE (slice m.body 0 1)
  if x.opened ∧ m.gen = x.gen ∧ sessRight d m.sess 2 ∧ m.body.length = 8 ∧ s < 16 ∧ numBE (slice m.body 1 3) = 0 then
    grantCredit s (numBE (slice m.body 4 4)) d
  else d

/-- The sources of a map: source n is bit n mod 8 of byte n / 8. -/
def sourceMap (bs : List Byte) : BitVec 1024 := BitVec.ofNat 1024 (numLE bs)

/-- How many bits of a map are set. -/
def countBits (m : BitVec 1024) : Nat := ((List.range 1024).filter (fun i => m.getLsbD i)).length

/-! ## The UANDI page (R495) -/

def uandiWrite (off : Nat) (w : Wr) (d : Device) : Device :=
  let d := storeReg pgUandi off w.data d
  match (List.range 16).find? (fun s => decide (off = Reg.UANDI.SESS_CFG s)) with
  | some s => if rdB d pgUandi off 0 then d else disableSession s d
  | none => d

def uandiView (off : Nat) (d : Device) : Word :=
  if off = Reg.UANDI.STAT then wd (((List.range 16).map (fun s => 2 ^ s * b2n (sessOf d s).opened)).foldl (· + ·) 0)
  else if 0x100 ≤ off ∧ off < 0x300 then
    let x := sessOf d ((off - 0x100) / 32)
    match (off - 0x100) % 32 with
    | 0x04 => wd (65536 * b2n x.opened + x.gen)
    | 0x08 => wd x.next
    | 0x10 => match x.peer with
      | some p => wd (p.port * 65536 + (if p.v6 then 2 else 1))
      | none => 0#32
    | _ => rd d pgUandi off
  else rd d pgUandi off

/-- EN is cleared: buffered requests are discarded (R495). -/
def uandiStop (d : Device) : Device :=
  forEach (List.range 16) (fun s d => setSess s { sessOf d s with slots := [] } d) d

end Sys2Proof.Machine
end

