-- ==== Sys2Proof/Machine/ModeOps.lean ====
section
/-! DEFINITION. Operating modes and Dawn (spec/17, R583 to R589 and R598 to R602): entering a mode, requests and their refusals, the
completion of Dusk, the self-test of the analogue parts, and the MODE and DAWN pages. -/

namespace Sys2Proof.Machine

/-! ## Entering a mode (R584, R585) -/

/-- A Dusk cause that waited for the mode after SAFE starts Dusk now (R587, R589). -/
def lateDusk (d : Device) : Device :=
  match d.sys.late with
  | some c =>
    let d := { d with sys := { d.sys with late := none } }
    if duskMode d.sys.mode then refreshLegs (recordDusk c { d with sys := { d.sys with dusk := true } }) else d
  | none => d

/-- Leaving SAFE returns every band engine to OFF (R588). -/
def bandsOff (d : Device) : Device := forEach ((List.range 128).filter (beOn d)) bandFall d

/-- The mode becomes `m`: the legs follow (R126, R585), Firefly instances that RUN blocks say so (R576). -/
def setMode (m : Mode) (d : Device) : Device :=
  let was := d.sys.mode
  let blocked := (List.range 10).filter (ffBlocked d)
  let d := { d with sys := { d.sys with prev := was, mode := m, transit := none } }
  let d := if was = .safe then bandsOff d else d
  let d := refreshLegs d
  let d := if was = .safe then lateDusk d else d
  forEach ((List.range 10).filter (fun i => ffBlocked d i && !blocked.contains i)) (fun i d => raise (pgFirefly i) 2 d) d

/-- A transition ends: the mode, and MODE_CHG (R584). -/
def modeChange (m : Mode) (d : Device) : Device := raise pgMode 0 (setMode m d)

/-! ## What blocks RUN (R585) -/

/-- A zone that starts Dusk is latched. -/
def duskZone (d : Device) : Bool :=
  (List.range 8).any (fun z => zoneLatched d z && rdB d pgLegsys (Reg.LEGSYS.TZ_CFG z) 0)

/-- MODE.STAT.BLOCK, lowest bit first. -/
def runBlocks (d : Device) : List Bool :=
  [d.legs.safeNLow, duskZone d, unusable d pgTb, (parentOf d).isSome && decide (syncState d ≠ 2), d.sys.dusk]
def runBlocked (d : Device) : Bool := (runBlocks d).any (fun b => b)

/-- A transition is in progress: STAT.TRANSIT (R584, R590, R600). -/
def inTransit (d : Device) : Bool := d.sys.transit.isSome || d.sys.sleepReq.isSome || d.sys.dawn.isSome

def modeStat (d : Device) : Word :=
  let bl := ((runBlocks d).zipIdx.map (fun e => 2 ^ (16 + e.2) * b2n e.1)).foldl (· + ·) 0
  wd (bl + 256 * b2n (inTransit d) + 16 * modeCode d.sys.prev + modeCode d.sys.mode)

/-! ## Dusk completes (R588) -/

/-- Band engines and OLUs have stopped; the mode is SAFE. -/
def duskComplete (d : Device) : Device :=
  let d := forEach ((List.range 128).filter (fun n => (bandOf d n).wait.isSome)) (fun n d => setBand n { bandOf d n with wait := none } d) d
  let d := forEach (List.range 32) (fun u d => setOlu u { oluOf d u with run := none, trig := none } d) d
  let d := { d with sys := { d.sys with dusk := false } }
  d |> modeChange .safe |> raise pgMode 1

/-! ## Dawn (R598 to R600) -/

/-- Step kinds that DAWN.CFG.SKIP omits: 0 REF, 1 DL, 2 MOD, 3 SERDES, 4 GATE, 5 RX. -/
def dawnSkips (d : Device) (k : Nat) : Bool := rdB d pgDawn Reg.DAWN.CFG k

/-- The kind of a step. -/
def stepKind (n : Nat) : Nat := if n ≤ 1 then 0 else if n ≤ 3 then 1 else if n ≤ 16 then 2 else n - 14

/-- Both sets together. -/
def dawnJoin (a b : DawnSet) : DawnSet :=
  { ref := a.ref ||| b.ref, dl := a.dl ||| b.dl, slice := a.slice ||| b.slice, eth := a.eth ||| b.eth, bl := a.bl ||| b.bl
    gate := a.gate ||| b.gate, rx := a.rx ||| b.rx }

/-- No part has failed. -/
def dawnNone (a : DawnSet) : Bool := decide (a = {})

/-- The slices of one step, as bits in the order of R598, as parts. -/
def stepParts (n : Nat) (bits : BitVec 64) : DawnSet :=
  let b := bits.toNat
  if n = 1 then { ref := BitVec.ofNat 9 b }
  else if n = 2 then { dl := BitVec.ofNat 32 (b % 65536) }
  else if n = 3 then { dl := BitVec.ofNat 32 (b % 65536 * 65536) }
  else if 4 ≤ n ∧ n ≤ 16 then
    { slice := BitVec.ofNat 128 (((List.range 8).filter (fun q => b.testBit q)).foldl (fun a q => a + 2 ^ (13 * q + (n - 4))) 0) }
  else if n = 17 then { eth := BitVec.ofNat 8 b, bl := BitVec.ofNat 32 (b / 256) }
  else if n = 18 then { gate := BitVec.ofNat 16 b }
  else if n = 19 then { rx := BitVec.ofNat 4 b }
  else {}

/-- Ports whose lanes a run does not test, because they are up (R598): bits 0 and 1 for ETH0 and ETH1, 2 + l for BLl. -/
def portsUp (d : Device) : List Nat :=
  (List.range 2).filter (ethUp d) ++ (upLinks d).map (fun l => 2 + l)

/-- Step `n` was run: its kind is not one of the omitted, and the run did not end before it. -/
def ranStep (last : Nat) (skipped : List Nat) (n : Nat) : Bool := !skipped.contains (stepKind n) && decide (n ≤ last)
/-- The steps of a kind. -/
def kindSteps (k : Nat) : List Nat := (List.range 20).filter (fun n => decide (1 ≤ n) && decide (stepKind n = k))
/-- Every step of a kind was run. -/
def ranKind (last : Nat) (skipped : List Nat) (k : Nat) : Bool := (kindSteps k).all (ranStep last skipped)
/-- The slices whose step was run: step 4 + s tests local slice s of every group (R598). -/
def ranSlices (last : Nat) (skipped : List Nat) : Nat :=
  ((List.range 13).filter (fun s => ranStep last skipped (4 + s))).foldl (fun a s => a + 2 ^ s) 0
/-- The groups whose delay line was swept: step 2 those of LG0 to LG15, step 3 those of LG16 to LG31 (R598). -/
def ranLine (last : Nat) (skipped : List Nat) (g : Nat) : Bool := ranStep last skipped (if g < 16 then 2 else 3)

/-- The failures that count: those of kinds that were run and of lanes that were tested. -/
def dawnTested (last : Nat) (skipped up : List Nat) (f : DawnSet) : DawnSet :=
  let lanes := ranKind last skipped 3
  let bits := fun (n : Nat) (p : Nat → Bool) => ((List.range n).filter p).foldl (fun a i => a + 2 ^ i) 0
  { ref := if ranKind last skipped 0 then f.ref else 0#9
    dl := BitVec.ofNat 32 (bits 32 (fun g => f.dl.getLsbD g && ranLine last skipped g))
    slice := BitVec.ofNat 128 (bits 104 (fun i => f.slice.getLsbD i && (ranSlices last skipped).testBit (i % 13)))
    eth := if lanes then BitVec.ofNat 8 (((List.range 8).filter (fun i => f.eth.getLsbD i && !up.contains (i / 4))).foldl
      (fun a i => a + 2 ^ i) 0) else 0#8
    bl := if lanes then BitVec.ofNat 32 (((List.range 32).filter (fun i => f.bl.getLsbD i && !up.contains (2 + i / 4))).foldl
      (fun a i => a + 2 ^ i) 0) else 0#32
    gate := if ranKind last skipped 4 then f.gate else 0#16
    rx := if ranKind last skipped 5 then f.rx else 0#4 }

/-- What Dawn says of a page (R599): whether this run tested all that bears on it, and whether a part of it failed. DESIGN CHOICE (log 121). -/
def dawnVerdict (last : Nat) (skipped up : List Nat) (f : DawnSet) (p : Nat) : Bool × Bool :=
  let i := instOf p
  let lanes := fun (x : Nat) => ranKind last skipped 3 && !up.contains x
  match classOf p with
  | 0 => (ranKind last skipped 0, f.ref.getLsbD 8)
  | 5 => (ranKind last skipped 0, f.ref.getLsbD i)
  | 3 => (ranLine last skipped i && ranKind last skipped 4, f.dl.getLsbD i || f.gate.getLsbD (i / 2))
  | 20 => (lanes i, (List.range 4).any (fun k => f.eth.getLsbD (4 * i + k)))
  | 24 => (lanes (2 + i), (List.range 4).any (fun k => f.bl.getLsbD (4 * i + k)))
  | 13 => (ranKind last skipped 5, f.rx.getLsbD (i / 16))
  | 6 => (ranKind last skipped 5, f.rx.getLsbD 2 || f.rx.getLsbD 3)
  | _ => (false, false)

/-- The pages that Dawn can mark. -/
def dawnPages : List Nat :=
  pgTb :: pgXbs :: (List.range 8).map pgModg ++ (List.range 32).map pgLg ++ (List.range 2).map pgEth ++ (List.range 8).map pgLink ++
    (List.range 32).map pgPos

/-- UNUSABLE of a page from its three sources (R33, R46, R437, R599). -/
def markPage (p : Nat) (d : Device) : Device :=
  setUnusable p (d.forced.contains p || d.dawnBad.contains p || d.testBad.contains p) d

/-- The pages of a domain. -/
def domainPages (k : Nat) : List Nat := allPages.filter (fun p => decide (pageDomain p = some k))

/-- Domain k comes on: its registers stand at reset values, and marks of Dawn and the self-test show again (R33, R582). DEDUCED (log 115). -/
def domainUp (k : Nat) (d : Device) : Device :=
  let d := { d with sys := { d.sys with pd := d.sys.pd ||| BitVec.ofNat 64 (2 ^ k) } }
  let d := forEach ((domainPages k).filter (fun p => d.dawnBad.contains p || d.testBad.contains p)) markPage d
  refreshLegs d

/-- Every domain comes on, as SELFTEST has it (R583); one that PD_OFF keeps off goes off again after it. -/
def powerAll (d : Device) : Device :=
  forEach ((List.range 64).filter (fun k => !d.sys.pd.getLsbD k)) (fun k d => raise pgPwr 0 (domainUp k d)) d

/-- Marks the pages as the run found them (R599). DESIGN CHOICE (log 121). -/
def dawnMark (last : Nat) (skipped up : List Nat) (f : DawnSet) (d : Device) : Device :=
  let bad := dawnPages.filter (fun p =>
    let v := dawnVerdict last skipped up f p
    v.2 || (!v.1 && d.dawnBad.contains p))
  forEach (dawnPages.filter (domainOn d)) markPage { d with dawnBad := bad }

/-- Slices that failed are retired, slices that passed are not, and the good ones placed (R191, R192); a slice whose step the run did
not reach stays as it was. -/
def dawnSlices (last : Nat) (skipped : List Nat) (f : DawnSet) (d : Device) : Device :=
  let ran := wd (ranSlices last skipped)
  if ran = 0#32 then d else
    forEach ((List.range 8).filter (fun q => domainOn d (pgModg q))) (fun q d =>
      let failed := wd (f.slice.toNat / 2 ^ (13 * q) % 2 ^ 13)
      placeSlices q (wr (pgModg q) Reg.MODG.SLICE_BAD ((rd d (pgModg q) Reg.MODG.SLICE_BAD &&& ~~~ ran) ||| failed) d)) d

/-- The registers of the DAWN page after a run. DESIGN CHOICE (log 121). -/
def dawnReport (last : Nat) (skipped up : List Nat) (f : DawnSet) (ticks : Nat) (d : Device) : Device :=
  let nt := (((List.range 6).filter (fun k => !ranKind last skipped k)).map (fun k => 2 ^ (10 + k))).foldl (· + ·) 0 +
    ((if ranKind last skipped 3 then up else List.range 10).map (fun i => 2 ^ i)).foldl (· + ·) 0
  let d := forEach (List.range 4) (fun i => wr pgDawn (Reg.DAWN.F_MOD i) (wd (f.slice.toNat / 2 ^ (32 * i)))) d
  d |> wr pgDawn Reg.DAWN.STAT (wd (2 ^ 31 + 2 ^ 30 * b2n (!(dawnNone f)) + 2 ^ 29 * b2n (decide (nt ≠ 0))))
    |> wr pgDawn Reg.DAWN.TIME (wd (ticks / 1280)) |> wr pgDawn Reg.DAWN.F_REF (wd f.ref.toNat)
    |> wr pgDawn Reg.DAWN.F_LG f.dl |> wr pgDawn Reg.DAWN.F_ETH (wd f.eth.toNat) |> wr pgDawn Reg.DAWN.F_BL f.bl
    |> wr pgDawn Reg.DAWN.F_GATE (wd f.gate.toNat) |> wr pgDawn Reg.DAWN.F_RX (wd f.rx.toNat) |> wr pgDawn Reg.DAWN.NT (wd nt)

/-- What a run found takes effect, and its causes are raised. DESIGN CHOICE (log 121). -/
def dawnEffect (last : Nat) (skipped up : List Nat) (f : DawnSet) (ticks : Nat) (d : Device) : Device :=
  let f := dawnTested last skipped up f
  d |> dawnMark last skipped up f |> dawnSlices last skipped f |> dawnReport last skipped up f ticks
    |> raise pgDawn 0 |> raiseIf (!(dawnNone f)) pgDawn 1

/-- The kinds of SKIP. -/
def dawnSkipList (d : Device) : List Nat := (List.range 6).filter (dawnSkips d)

/-- The step that a run begins after step n: the next whose kind is not omitted; 20 where none is left (R598). -/
def nextStep (d : Device) (n : Nat) : Nat :=
  ((List.range 20).find? (fun k => decide (n < k) && !dawnSkips d (stepKind k))).getD 20

/-- The run's present step is n from now on; STAT.STEP names it. -/
def dawnStep (n : Nat) (d : Device) : Device :=
  match d.sys.dawn with
  | none => d
  | some r =>
    let d := { d with sys := { d.sys with dawn := some { r with step := n, stepAt := d.time.now } } }
    if n = 20 then d else wrF pgDawn Reg.DAWN.STAT 0 5 n d

/-- A run begins from the present mode, with every domain on (R583, R600). Steps of a rotation in progress end, and running conversions
carry INVALID. DESIGN CHOICE (log 121). -/
def dawnStart (d : Device) : Device :=
  let back := d.sys.mode
  let d := powerAll (setMode .selftest d)
  let d := forEach (List.range 8) (fun q d => dropHeld q (cancelStep q 3 d)) d
  let d := invRuns (fun ch => decide (ch < 96)) d
  { d with sys := { d.sys with dawn := some { back := back, start := d.time.now } } }
    |> wr pgDawn Reg.DAWN.CTL 1#32 |> wr pgDawn Reg.DAWN.STAT 0#32 |> fun d => dawnStep (nextStep d 0) d

/-- What a run that has just begun will find, as the analogue parts have it. DESIGN CHOICE (log 128). -/
def dawnWillFind (found : DawnSet) (was d : Device) : Device :=
  match was.sys.dawn, d.sys.dawn with
  | none, some r => { d with sys := { d.sys with dawn := some { r with failed := dawnJoin r.failed found } } }
  | _, _ => d

/-- A step ends by itself once its slices have passed or failed, within 2 ms (R598). DESIGN CHOICE (log 121). -/
def dawnTick (d : Device) : Device :=
  match d.sys.dawn with
  | none => d
  | some r =>
    if r.step < 20 ∧ r.stepAt + min 2560000 (Config.dawnTicks r.step) < d.time.now then dawnStep (nextStep d r.step) d else d

/-- A run ends: what it found, and the mode it left (R599, R600). `last` is the last step it ran. DESIGN CHOICE (log 121). -/
def dawnFinish (last : Nat) (found : DawnSet) (d : Device) : Device :=
  match d.sys.dawn with
  | none => d
  | some r =>
    let d := dawnEffect last (dawnSkipList d) (portsUp d) (dawnJoin found r.failed) (d.time.now - r.start) d
    modeChange r.back (wr pgDawn Reg.DAWN.CTL 0#32 { d with sys := { d.sys with dawn := none } })

/-- Every step of the run has ended. -/
def dawnOver (d : Device) : Bool :=
  match d.sys.dawn with
  | some r => decide (r.step = 20)
  | none => false

/-- Slices of the present step have not passed in 2 ms: they fail, and the step ends (R598). DESIGN CHOICE (log 121). -/
def dawnSliceTimeout (step : Nat) (bits : BitVec 64) (d : Device) : Device :=
  match d.sys.dawn with
  | none => d
  | some r =>
    if step = r.step ∧ r.stepAt + 2560000 ≤ d.time.now then
      dawnStep (nextStep d step)
        { d with sys := { d.sys with dawn := some { r with failed := dawnJoin r.failed (stepParts step bits) } } }
    else d

/-- A write of the DAWN page (R600). -/
def dawnWrite (off : Nat) (w : Wr) (d : Device) : Device :=
  if off = Reg.DAWN.CTL then
    if ¬ one w 0 then d
    else if ¬ enabled d pgDawn then refuse pgDawn 0x80 off w.who d
    else if inTransit d ∨ d.sys.dusk then d
    else match d.sys.mode with
      | .configure => dawnStart d
      | .hold => dawnStart d
      | .safe => dawnStart d
      | _ => d
  else storeReg pgDawn off w.data d

/-! ## Requests (R584 to R590, R600) -/

/-- A request for SELFTEST powers PD63 and enables the DAWN page (R600). -/
def selftestRequest (d : Device) : Device :=
  let was := d.sys.pd.getLsbD 63
  let d := if was then d else
    raise pgPwr 0
      (wrB pgPwr Reg.PWR.PD_OFF_HI 31 false { d with sys := { d.sys with pd := d.sys.pd ||| BitVec.ofNat 64 (2 ^ 63) } })
  dawnStart (wrB pgDawn hPAGE_CTL 0 true d)

/-- What a request asks for, of those that exist (R584). -/
inductive ModeMove where
  | go (m : Mode)
  | dusk
  | selftest
  | sleep
  deriving DecidableEq, Repr

/-- The transitions of R584 that a request can start. -/
def modeMove (m : Mode) (code : Nat) : Option ModeMove :=
  match m, code with
  | .configure, 5 => some (.go .run)
  | .hold, 5 => some (.go .run)
  | .run, 6 => some (.go .hold)
  | .run, 4 => some (.go .configure)
  | .configure, 6 => some (.go .hold)
  | .hold, 4 => some (.go .configure)
  | .safe, 4 => some (.go .configure)
  | .safe, 6 => some (.go .hold)
  | .configure, 7 => some .dusk
  | .run, 7 => some .dusk
  | .hold, 7 => some .dusk
  | .configure, 3 => some .selftest
  | .hold, 3 => some .selftest
  | .safe, 3 => some .selftest
  | .configure, 1 => some .sleep
  | .run, 1 => some .sleep
  | .hold, 1 => some .sleep
  | .configure, 0 => some (.go .retain)
  | .hold, 0 => some (.go .retain)
  | _, _ => none

/-- Whether a requester is a session: the host (R589). -/
def isSession (who : Requester) : Bool := decide (who.kind = .session)

/-- The refusal code of a request, in the order of R584; none where it is accepted. DESIGN CHOICE (log 112). -/
def modeRefusal (d : Device) (who : Requester) (code : Nat) : Option Nat :=
  if inTransit d ∨ d.sys.dusk then some 0x84
  else match modeMove d.sys.mode code with
    | none => some 0x80
    | some mv =>
      let leaves := decide (d.sys.mode = .safe) && decide (mv ≠ .selftest)
      if leaves ∧ ¬ isSession who then some 0x81
      else if leaves ∧ (d.legs.safeNLow ∨ duskZone d) then some 0x83
      else if mv = .go .run ∧ runBlocked d then some 0x83
      else none

/-- A write of MODE.REQ. DESIGN CHOICE (log 112). -/
def modeRequest (w : Wr) (d : Device) : Device :=
  let code := fld w.data 0 4
  match modeRefusal d w.who code, modeMove d.sys.mode code with
  | some c, _ => raise pgMode 2 (refuse pgMode c Reg.MODE.REQ w.who d)
  | none, none => d
  | none, some mv =>
    let d := wr pgMode Reg.MODE.REQ (wd code) { d with sys := { d.sys with asker := w.who, reqWas := rd d pgMode Reg.MODE.REQ } }
    match mv with
    | .go m => refreshLegs { d with sys := { d.sys with transit := some m } }
    | .dusk => duskCause 4 0 d
    | .selftest => selftestRequest d
    | .sleep => { d with sys := { d.sys with sleepReq := some (d.time.now, w.who) } }

/-- Registers that live in AON (R592). -/
def modeWrite (off : Nat) (w : Wr) (d : Device) : Device :=
  if off = Reg.MODE.REQ then modeRequest w d else storeReg pgMode off w.data d

def modeView (off : Nat) (d : Device) : Word := if off = Reg.MODE.STAT then modeStat d else rd d pgMode off

end Sys2Proof.Machine
end

