-- ==== Sys2Proof/Machine/PageLife.lean ====
section
/-! DEFINITION. The life of a register page's function (spec/01, R38 to R46, with the chapters' own rules): what busy means,
abort, soft reset, enabling, and the loss of power of a domain (R581, R582). -/

namespace Sys2Proof.Machine

/-! ## Busy (R33, R43) -/

/-- PAGE_STAT.BUSY: R194, R232, R282, R312, R443, R455, R512, R552, R602. Other pages hold no work. -/
def pageBusy (d : Device) (p : Nat) : Bool :=
  let i := instOf p
  match classOf p with
  | 5 => (modOf d i).rot.isSome
  | 8 => (pfeOf d i).run.isSome || decide ((pfeOf d i).queue ≠ [])
  | 12 => (oluOf d i).run.isSome || (oluOf d i).trig.isSome
  | 13 => (posOf d i).ssi.isSome
  | 17 => (scrubRun d i).isSome
  | 18 => cvuBusyB d i
  | 22 => streamBusy d
  | 23 => d.fab.maint.isSome
  | 29 => d.sys.dawn.isSome
  | _ => false

/-- Requests of this device whose source no longer waits: a late response finds none of them (R455, R533). -/
def dropOut (f : ReqSource → Bool) (d : Device) : Device :=
  { d with fab := { d.fab with out := d.fab.out.filter (fun o => !f o.src) } }

/-- A request of CVU c. -/
def srcIsCvu (c : Nat) (s : ReqSource) : Bool := decide (s = .cvu c)

/-- CVU c waits on a read of another device (R455). -/
def cvuRemote (d : Device) (c : Nat) : Bool := d.fab.out.any (fun o => srcIsCvu c o.src)

/-- A scan and what it has read are dropped. -/
def cvuStop (c : Nat) (d : Device) : Device :=
  dropOut (srcIsCvu c) { cvuAbort c d with cvuScan := d.cvuScan.erase c }

/-- A MAINT request ends with a status (R543): DONE, GO reads 0, MAINT_DONE. -/
def maintEnd (status : Nat) (d : Device) : Device :=
  { d with fab := { d.fab with maint := none } } |> wr pgFab Reg.FAB.MSTAT (wd (2 ^ 31 + status))
    |> wrB pgFab Reg.FAB.MCTL 31 false |> raise pgFab 0

/-- The work of a page's function is cancelled (R41 and the chapters). DEDUCED (log 28). -/
def cancelWork (p : Nat) (d : Device) : Device :=
  let i := instOf p
  match classOf p with
  | 5 => cancelStep i 3 d
  | 8 => setPfe i { pfeOf d i with queue := [], run := none } d
  | 12 => setOlu i { oluOf d i with run := none, trig := none } d
  | 13 => ssiStop i (if (posOf d i).ssi.isSome then ssiError i 3 d else d)
  | 17 => scrubAbort i d
  | 18 => cvuStop i d
  | 22 => discardStreams d
  | 23 => if d.fab.maint.isSome then maintEnd 0x0203 d else d
  | 29 => dawnFinish (rdF d pgDawn Reg.DAWN.STAT 0 5) {} d
  | _ => d

/-! ## Abort (R41 to R46) -/

/-- An abort is in progress on the page. -/
def aborting (d : Device) (p : Nat) : Bool := (d.aborts.find? p).isSome

/-- A running item has just completed: a rotation step whose switch has taken place, while the old slice is not released or the tick has
not ended (R194); an SSI frame of the present tick (R312); the last unsent frame of the streams (R512). -/
def justDone (d : Device) (p : Nat) : Bool :=
  let m := modOf d (instOf p)
  match classOf p with
  | 5 => m.held.isSome || (match m.last with | some l => decide (l.1 = d.time.now) | none => false)
  | 13 => decide ((posOf d (instOf p)).ssiAt = some d.time.now)
  | 22 => streamsEmptied d
  | _ => false

/-- The work of a function that an abort stops at once: queued requests of a precision filter engine (R232), an SSI frame that does not
complete at this tick (R312), unsent records of the streams (R512). -/
def queuedWork (d : Device) (p : Nat) : Bool :=
  match classOf p with
  | 8 => decide ((pfeOf d (instOf p)).queue ≠ [])
  | 13 => (posOf d (instOf p)).ssi.isSome && !ssiDone d (instOf p)
  | 22 => streamBusy d
  | _ => false

/-- It is cancelled (R41). -/
def cutQueue (p : Nat) (d : Device) : Device :=
  match classOf p with
  | 8 => setPfe (instOf p) { pfeOf d (instOf p) with queue := [] } d
  | 13 => cancelWork p d
  | 22 => discardStreams d
  | _ => d

/-- A write of ABORT (R41, R43, R44). Queued work goes at once; a running item goes at the end of the abort, unless it completes
first (R232). -/
def abortStart (p : Nat) (d : Device) : Device :=
  if aborting d p then d
  else
    let live := enabled d p && (pageBusy d p || justDone d p)
    let r : AbortRec := { idle := !live, cut := live && queuedWork d p, at_ := d.time.now }
    let d := if r.cut then cutQueue p d else d
    d |> wrB p hPAGE_CTL 2 true |> wrB p hPAGE_STAT 1 false |> fun d => { d with aborts := d.aborts.insert p r }

/-- The abort event (R42, R562 class 2). -/
def abortEvent (p outcome : Nat) (d : Device) : Device :=
  if domainOn d p then request { source := pageSource p, code := 0x2000 + outcome, stamp := stampNow d } d else d

/-- ABORT_DONE sets with an outcome, PAGE_CTL.ABORT reads 0 and the event is raised (R42). DEDUCED (log 28). DEDUCED (log 90). -/
def abortWrite (p outcome : Nat) (d : Device) : Device :=
  { d with aborts := d.aborts.erase p } |> wrB p hPAGE_CTL 2 false |> wrF p hPAGE_STAT 1 3 (1 + 2 * outcome) |> abortEvent p outcome

/-- A CVU that waits on another device cannot quiesce (R455). -/
def cannotQuiesce (d : Device) (p : Nat) : Bool := decide (classOf p = 18) && cvuRemote d (instOf p)

/-- An abort finishes (R42, R43); records of streams that closed after the ABORT write are no part of it (R41); what it found running and is
running still is cancelled now. DESIGN CHOICE (log 27). -/
def abortFinish (p : Nat) (d : Device) : Device :=
  match d.aborts.find? p with
  | none => d
  | some r =>
    if r.idle then abortWrite p 0 d
    else if pageBusy d p ∧ classOf p ≠ 22 then abortWrite p 1 (cancelWork p d)
    else abortWrite p (if r.cut then 1 else 2) d

/-- The 4.0 µs of an abort have run out (R42, R46). DESIGN CHOICE (log 27). -/
def abortOver (d : Device) (p : Nat) : Bool :=
  match d.aborts.find? p with
  | some r => (cannotQuiesce d p || !r.idle) && decide (r.at_ + 5120 ≤ d.time.now)
  | none => false

/-! ## Registers to reset values -/

/-- The block registers of a page, but those kept, and their shadows return to reset values (R39). -/
def clearRegs (p : Nat) (keep : List Nat) (d : Device) : Device :=
  let inPage := fun (k : Nat) => decide (rkey p 0x040 ≤ k) && decide (k < rkey p 0x1000)
  { d with
    regs := d.regs.filter (fun e => !inPage e.1 || keep.contains (e.1 - rkey p 0))
    shadow := d.shadow.filter (fun e => !inPage e.1) }

/-- Every register of a page, its header included, returns to its reset value (R582, R591). -/
def dropPage (p : Nat) (d : Device) : Device :=
  let inPage := fun (k : Nat) => decide (rkey p 0 ≤ k) && decide (k < rkey p 0x1000)
  { d with
    regs := d.regs.filter (fun e => !inPage e.1), shadow := d.shadow.filter (fun e => !inPage e.1)
    aborts := d.aborts.erase p, held := d.held.filter (fun h => h.page ≠ p), soon := d.soon.filter (fun e => e.page ≠ p), forced := d.forced.filter (fun x => x ≠ p) }

/-! ## The state behind a page -/

/-- A request of core k. -/
def srcIsCore (k : Nat) (s : ReqSource) : Bool :=
  match s with
  | .core j => decide (j = k)
  | .store j _ => decide (j = k)
  | _ => false

/-- Core k stands as after RESET_N; its stores are gone. -/
def dropCore (k : Nat) (d : Device) : Device := dropOut (srcIsCore k) (setCore k {} d)

/-- The state behind a page returns to its reset value. Levels at pins stay as they are. -/
def clearState (p : Nat) (d : Device) : Device :=
  let i := instOf p
  match classOf p with
  | 3 => lgReset i d
  | 4 => setTimer i {} { d with tmrs := { d.tmrs with
      late := d.tmrs.late.filter (fun l => l.1 ≠ i), next := d.tmrs.next.filter (fun l => l.1 ≠ i) } }
  | 6 => { d with mclk := [] }
  | 7 => forEach (List.range 16) (fun j => fastStop (16 * i + j)) d
  | 8 => setPfe i {} d
  | 10 => bandReset i d
  | 11 => bandReset (64 + i) d
  | 12 => setOlu i {} d
  | 13 => setPos i (pinsOf (posOf d i)) d
  | 14 => dropCore i d
  | 17 => setScrub i none d
  | 18 => cvuStop i d
  | 19 => { d with eva := { d.eva with log := [] } }
  | 20 => setEth i { ethOf d i with ts := [], wait := [], stopped := 0#8 } d
  | 21 => { forEach (List.range 16) closeSession d with sess := [] }
  | 22 => forEach (List.range 16) (fun s => setStream s {}) d
  | 23 =>
    let held := d.fab.fences.flatMap (fun f => f.held)
    { d with fab := { d.fab with maint := none, fences := [], last := [], wait := d.fab.wait ++ held } }
  | 26 => ffRelease i d
  | 29 => dawnFinish (rdF d pgDawn Reg.DAWN.STAT 0 5) {} d
  | _ => d

/-! ## Soft reset (R39) -/

/-- What stays of the MODG page: which silicon serves each channel (R195), so which slice is the spare and that there is none (R191), and
what the reference monitor shows (R173); an INIT that runs ends without a result. DEDUCED (log 141). DEDUCED (log 148). -/
def modgReset (q : Nat) (d : Device) : Device :=
  let p := pgModg q
  let keep := (List.range 12).map Reg.MODG.MAP ++ (List.range 13).map Reg.MODG.OFFS ++ (List.range 13).map Reg.MODG.GAIN ++
    [Reg.MODG.SLICE_BAD, Reg.MODG.STAT, Reg.MODG.REF_STAT]
  let m := modOf d q
  let d := setMod q { m with rot := none, initAt := none, prevTarget := none, retry := false, last := none } (clearRegs p keep d)
  wr p Reg.MODG.STAT (rd d p Reg.MODG.STAT &&& 0x0FFF1F0F#32) d

/-- Stores still buffered are lost and counted (R345). -/
def coreDropStores (k : Nat) (d : Device) : Device :=
  let n := (coreOf d k).sb.length
  if n = 0 then d
  else raise (pgCore k) 2 (wr (pgCore k) Reg.CORE.SB_DROP (rd d (pgCore k) Reg.CORE.SB_DROP + wd n) d)

/-- A soft reset of a LINK page: through FAILED to TRAIN (R554). DEDUCED (log 107). -/
def linkReset (l : Nat) (d : Device) : Device :=
  let p := pgLink l
  let d := clearRegs p [] (enterFailed l d)
  if enabled d p then enterTrain l d else enterLink l 0 d

/-- ETH: every register returns to its reset value, so the link is down until LINK_CHG says otherwise, and the addresses come from the fuse
map (R39, R493). DEDUCED (log 81). -/
def ethReset (e : Nat) (d : Device) : Device :=
  let p := pgEth e
  let up := rdB d p Reg.ETH.STAT 0
  let d := clearRegs p [] (clearState p d)
  if up then setEth e { ethOf d e with linkAt := d.time.now } d else d

/-- Streams keep what is open and restart their numbers (R512). -/
def streamReset (d : Device) : Device :=
  let eth0 := (List.range 16).filter (fun s => (streamOf d s).onEth0)
  forEach (List.range 16) (fun s => setStream s { restart := true, onEth0 := eth0.contains s }) (clearRegs pgStream [] d)

/-- The block registers and the state of a page return to reset values, and IRQ_RAW clears (R39). -/
def resetPage (p : Nat) (d : Device) : Device :=
  let i := instOf p
  let d := match classOf p with
    | 0 => latchSourced (tbReset d)
    | 1 => latchSourced (legsysReset d)
    | 2 => refreshLegs (clearRegs p [] d)
    | 3 => refreshLegs (clearRegs p [] (clearState p d))
    | 5 => modgReset i d
    | 6 => xbsCheck (clearRegs p [] (clearState p d))
    | 14 => clearRegs p [] (clearState p (coreDropStores i d))
    | 16 => memerrReset d
    | 19 => clearRegs p [Reg.EVA.SEQ_NEXT, Reg.EVA.MERGE_CNT] (clearState p d)
    | 20 => ethReset i d
    | 22 => streamReset d
    | 23 => clearRegs p [Reg.FAB.ID, Reg.FAB.TGEN, Reg.FAB.CLAIM_UID_LO, Reg.FAB.CLAIM_UID_HI, Reg.FAB.CLAIM_REQ, Reg.FAB.BOARD]
        (clearState p d)
    | 24 => linkReset i d
    | 26 =>
      let permit := rdB d p Reg.FIREFLY.CTL 16
      wrB p Reg.FIREFLY.CTL 16 permit (clearRegs p [] (clearState p d))
    | 27 =>
      forEach [Reg.MODE.DUSK_CFG, Reg.MODE.SLEEP_CFG, Reg.MODE.WAKE_TMR_LO, Reg.MODE.WAKE_TMR_HI, Reg.MODE.RET_MASK_LO,
        Reg.MODE.RET_MASK_HI] (fun off d => wr p off (resetVal p off) d) d
    | 28 => wr p Reg.PWR.EVT_EN 0#32 d
    | _ => clearRegs p [] (clearState p d)
  wr p hIRQ_RAW 0#32 d

/-- The core of a CORE page has stopped, and has drained, or its 2 µs of draining are over (R345). DEDUCED (log 30). -/
def coreQuiet (d : Device) (k : Nat) : Bool :=
  match (coreOf d k).rstAt with
  | some t => decide ((coreOf d k).sb = []) || decide (t + 2560 ≤ d.time.now)
  | none => false

/-- Every session has ended its requests in progress (R485, R495). -/
def sessQuiet (d : Device) : Bool := (List.range 16).all (fun s => decide ((sessOf d s).fly = []))

/-- The soft reset of a page can complete. DEDUCED (log 30). -/
def softRstReady (d : Device) (p : Nat) : Bool :=
  rdB d p hPAGE_CTL 1 && !aborting d p && (decide (classOf p ≠ 14) || coreQuiet d (instOf p)) &&
    (decide (classOf p ≠ 21) || sessQuiet d)

/-- Time-domain registers that a soft reset leaves: EN (R39), TZ_CFG (R133), OFFS and GAIN (R195). -/
def resetKeeps (cls off : Nat) : Bool :=
  decide (off = hPAGE_CTL) || (decide (cls = 1) && decide (Reg.LEGSYS.TZ_CFG 0 ≤ off) && decide (off ≤ Reg.LEGSYS.TZ_CFG 7)) ||
    (decide (cls = 5) && decide (0x0C0 ≤ off) && decide (off < 0x128))

/-- Written values that are not usable yet are lost where the soft reset returns their register to its reset value. -/
def dropSoon (p : Nat) (d : Device) : Device :=
  { d with soon := d.soon.filter (fun e => decide (e.page ≠ p) || resetKeeps (classOf p) e.off) }

/-- A soft reset completes: SOFT_RST reads 0. DEDUCED (log 30). -/
def softRstDone (p : Nat) (d : Device) : Device :=
  if softRstReady d p then wrB p hPAGE_CTL 1 false (resetPage p (dropSoon p d)) else d

/-- A write of SOFT_RST (R39): preceded by an abort if the function is busy. A core is to stop first (R345), and the sessions close, each after
its requests in progress (R485, R495). -/
def softRstStart (p : Nat) (d : Device) : Device :=
  let d := if pageBusy d p then abortStart p d else d
  let d := wrB p hPAGE_CTL 1 true d
  if classOf p = 14 then setCore (instOf p) { coreOf d (instOf p) with rstReq := true } d
  else if classOf p = 21 then forEach (List.range 16) disableSession d
  else d

/-! ## Forced abort (R46, R455) -/

/-- The reset island of a page is reset: EN clears, UNUSABLE sets. DESIGN CHOICE (log 27). -/
def forceAbort (p : Nat) (d : Device) : Device :=
  if abortOver d p then
    let d := clearRegs p [] (clearState p (cancelWork p d))
    let d := { d with forced := p :: d.forced }
    abortWrite p 3 (markPage p (wrB p hPAGE_CTL 0 false d))
  else d

/-! ## Enable (R38, R46) -/

/-- What follows a change of EN; `was` is the device before it. -/
def enableHook (p : Nat) (on : Bool) (was : Device) (d : Device) : Device :=
  let i := instOf p
  match classOf p with
  | 3 => lgEnable i on (running was i) d
  | 4 => if on ∧ tmrRuns d i then startTimer i d else d
  | 5 => if on then setMod i { modOf d i with nextOrigin := d.time.now, prevTarget := none, retry := false } d else d
  | 6 => xbsCheck d
  | 7 => forEach ((List.range 16).filter (fun j => rdB d p (Reg.FF.CFG j) 8))
      (fun j => if on then fastRestart (16 * i + j) else fastStop (16 * i + j)) d
  | 10 => bandFall i d
  | 11 => bandFall (64 + i) d
  | 12 => if on then d else cancelWork p d
  | 13 => if on then posRestart i d else ssiStop i d
  | 17 => if on then d else cancelWork p d
  | 18 => if on then d else cancelWork p d
  | 20 => if on then d else linkChange i 0#32 d
  | 21 => if on then forEach (List.range 16) eventsGo d else uandiStop d
  | 24 => if on then enterTrain i d else linkOff i d
  | 26 => if on then raiseIf (ffBlocked d i) p 2 d else ffRelease i d
  | _ => d

/-- UNUSABLE of a forced abort clears (R46). -/
def unforce (p : Nat) (d : Device) : Device :=
  if d.forced.contains p then markPage p { d with forced := d.forced.filter (fun x => x ≠ p) } else d

/-- EN is written. From 0 to 1 it clears UNUSABLE where a forced abort set it (R46). Clearing EN of a precision filter engine
aborts first (R233), and of a MODG page where a step is in progress (R196). DEDUCED (log 28). -/
def writeEnable (p : Nat) (on : Bool) (d : Device) : Device :=
  if enFixed (classOf p) ∨ rdB d p hPAGE_CTL 0 = on then d
  else
    let was := d
    let d := if ¬ on ∧ (classOf p = 8 ∨ (classOf p = 5 ∧ pageBusy d p)) then abortStart p d else d
    let d := wrB p hPAGE_CTL 0 on d
    let d := if on then unforce p d else d
    enableHook p on was d

/-! ## Power (R581, R582) -/

/-- What lies behind the pages of a domain and is lost with its power. -/
def powerState (p : Nat) (d : Device) : Device :=
  let i := instOf p
  match classOf p with
  | 5 => invRuns (inGroup i) (setMod i { needInit := true } d)
  | 6 => xbsCheck (clearState p d)
  | 7 => forEach (List.range 16) (fun j => fastStop (16 * i + j)) d
  | 12 => clearState p { d with latest := [] }
  | 20 => setEth i {} d
  | 22 => { d with stream := [], streamSpent := 0 }
  | 23 => { d with fab := { d.fab with
      wait := [], last := [], fences := [], tag := 0, out := [], loop := [], maint := none, aborts := [], later := [] } }
  | 24 =>
    let d := if lstate d i = 2 then parentLink i false d else d
    setLink i {} d
  | 26 => setFirefly i {} d
  | 29 => { d with sys := { d.sys with dawn := none } }
  | _ => clearState p d

/-- Domain k goes off: busy functions are aborted (R41), then power is removed. Its legs show the safe pattern. -/
def domainOff (k : Nat) (d : Device) : Device :=
  let ps := domainPages k
  let d := forEach ps (fun p d => if enabled d p ∧ pageBusy d p then abortWrite p 1 (cancelWork p d) else d) d
  let d := { d with sys := { d.sys with pd := d.sys.pd &&& ~~~ (BitVec.ofNat 64 (2 ^ k)) } }
  let d := forEach ps (fun p d => dropPage p (powerState p d)) d
  refreshLegs d

end Sys2Proof.Machine
end

