-- ==== Sys2Proof/Machine/TimeOps.lean ====
section
/-! DEFINITION. The time base (spec/02): lock, loss and relock of the reference, Midnight, delay-line calibration, compares, alignment by
SYNC words, fabric time sync, PTP commits, and make-up after sleep (with spec/04, R159 to R161, and spec/08, R311). -/

namespace Sys2Proof.Machine

/-! ## The reference (R49 to R51) -/

/-- The reference locks for the first time (R49); after a RETAIN wake the time line goes on from its stopped value (R591). -/
def refLockDone (d : Device) : Device :=
  if d.time.everLocked ∨ asleep d then d
  else
    let tl := if d.sys.wakeBoot then d.time.stopTl else 0#64
    wrB pgTb Reg.TB.REF_STAT 0 true { d with time := { d.time with everLocked := true, lockNow := d.time.now, tl := tl } }

/-- Loss of REFIN is declared (R50). Before the first lock, asleep, and while it is lost already, nothing is declared. DESIGN CHOICE
(log 151). -/
def refLost (d : Device) : Device :=
  if ¬ d.time.everLocked ∨ asleep d ∨ ¬ d.time.refinOk then { d with time := { d.time with refinOk := false } }
  else
    let d := { d with time := { d.time with refinOk := false } }
    d |> wrB pgTb Reg.TB.REF_STAT 1 true |> wrB pgTb Reg.TB.REF_STAT 0 false |> wrB pgTb Reg.TB.REF_STAT 2 true
      |> raise pgTb 0 |> latchSourced

/-- REFIN toggles within range again (R51). -/
def refinBack (d : Device) : Device := { d with time := { d.time with refinOk := true } }

/-- Relock completes: the one that RELOCK asked for, or the one of a wake from SLEEP (R51, R75). -/
def relocked (d : Device) : Device :=
  let asked := rdB d pgTb Reg.TB.REF_STAT 1 && d.time.relock && d.time.refinOk && !asleep d
  let woken := decide (d.sys.mode = .sleep) && d.time.wakeAt.isSome && d.time.refinOk
  if asked ∨ woken then
    { d with time := { d.time with relock := false } } |> wrB pgTb Reg.TB.REF_STAT 0 true |> wrB pgTb Reg.TB.REF_STAT 1 false
      |> wrB pgTb Reg.TB.REF_CTL 0 false
  else d

/-! ## Midnight (R57) -/

/-- A Midnight has passed and has not been raised. DEDUCED (log 21). -/
def midnightRaise (d : Device) : Device :=
  if d.time.midnight then raiseAt pgTb 4 0 0 false { d with time := { d.time with midnight := false } } else d

/-! ## Delay lines (R55, R56) -/

/-- DL_WORST: the largest of the groups' latest errors, of calibrations within the last 65,536 ticks. DEDUCED (log 16). -/
def dlWorst (d : Device) : Word :=
  let live := d.time.dlErr.filter (fun e => decide (d.time.now < e.2.2 + 65536))
  let w := live.foldl (fun (a : Nat × Nat) e => if a.2 < e.2.1 then (e.1, e.2.1) else a) (0, 0)
  wd (w.1 * 256 + min 255 w.2)

/-- A calibration of group g has measured an error in fines. DEDUCED (log 16). -/
def dlCalibrate (g err : Nat) (d : Device) : Device :=
  let m : BitVec 32 := BitVec.ofNat 32 (2 ^ g)
  let d := { d with time := { d.time with dlErr := d.time.dlErr.insert g (err, d.time.now) } }
  let d := wr pgTb Reg.TB.DL_WORST (dlWorst d) d
  if 4 < err then
    raise pgTb 1 (wrB pgTb Reg.TB.DL_OK g false
      { d with time := { d.time with dlBad := d.time.dlBad ||| m, dlGood := d.time.dlGood &&& ~~~ m } })
  else if err ≤ 2 then
    { d with time := { d.time with dlGood := d.time.dlGood ||| m, dlBad := d.time.dlBad &&& ~~~ m } }
  else d

/-! ## Compares (R60, R61, R71) -/

/-- Compare c is due. -/
def compareDue (d : Device) (c : Nat) : Bool :=
  d.time.cmpArmed.getLsbD c && rdB d pgTb Reg.TB.TLCMP_CTL c &&
    (match d.time.cmpVal.find? c with
     | some v => decide (v ≤ d.time.tl.toNat)
     | none => false)

/-- No event of a carrier, a compare of a leg or a compare of the time line is left at this tick. -/
def netQuiet (d : Device) : Bool := legsQuiet d && !(tlRuns d && (List.range 8).any (compareDue d))

/-- The global sync's source is compare c (R636). -/
def gsyncBy (d : Device) (c : Nat) : Bool := decide (gsyncKind d = 3) && decide (gsyncIndex d = c)

/-- Compare c fires: its bit, its event, its trigger, and the global sync if it is the source and the tick has not brought that already
(R636). -/
def compareFire (c : Nat) (makeup : Bool) (d : Device) : Device :=
  let d := { d with time := { d.time with cmpArmed := d.time.cmpArmed &&& ~~~ (BitVec.ofNat 8 (2 ^ c)) } }
  let d := d |> wrB pgTb Reg.TB.TLCMP_FIRED c true |> raiseAt pgTb (8 + c) 0 (stampNow d) makeup |> netEvents [sel 8 c]
  if gsyncBy d c ∧ d.legs.gsyncAt ≠ d.time.now + 1 then gsyncNow d else d

/-! ## SYNC words (R62 to R66) -/

/-- A word is to be sent: by the ROOT at 2^18, by another device at the timing edge of the word that it sends on (R63). -/
def syncSendDue (d : Device) : Bool :=
  tlRuns d && (if d.sys.straps.root then decide (d.time.tl.toNat = 262144) && !rdB d pgTb Reg.TB.SYNC_STAT 2
    else match d.time.syncFwd with
      | some h => decide (262144 + 4096 * h ≤ d.time.tl.toNat)
      | none => false)
def syncSend (d : Device) : Device :=
  if d.sys.straps.root then emit (.syncWord 0) (wrB pgTb Reg.TB.SYNC_STAT 2 true d)
  else match d.time.syncFwd with
    | some h => emit (.syncWord h) { d with time := { d.time with syncFwd := none } }
    | none => d

/-- The start bit of a word came before the first lock (R65); `edge` fines have passed since its timing edge (R62). -/
def syncEarly (edge : Nat) (d : Device) : Bool := !d.time.everLocked || decide (d.time.now * 64 < d.time.lockNow * 64 + edge)

/-- A word has arrived with hop count h (R63, R65); `edge` fines have passed since its timing edge. The first valid word aligns the time
line whenever it comes, after SYNC_TIMEOUT too, but loads nothing in RUN (R54). DESIGN CHOICE (log 130). -/
def syncWord (h : Nat) (stop : Bool) (edge : Nat) (d : Device) : Device :=
  if d.sys.straps.root ∨ asleep d then d
  else if syncEarly edge d then wrB pgTb Reg.TB.SYNC_STAT 5 true d
  else if h = 255 ∨ ¬ stop ∨ d.time.syncSeen ∨ d.sys.mode = .run then wrB pgTb Reg.TB.SYNC_STAT 4 true d
  else
    let fines := (262144 + 4096 * h) * 64 + rdF d pgTb Reg.TB.SYNC_COMP 0 12 + edge
    let d := { d with time := { d.time with syncSeen := true, tl := BitVec.ofNat 64 (fines / 64), syncFwd := some (h + 1) } }
    d |> wrF pgTb Reg.TB.SYNC_STAT 16 8 h |> wrB pgTb Reg.TB.SYNC_STAT 2 true

/-- No valid word has come within 2^20 ticks after lock (R65). -/
def syncTimeoutDue (d : Device) : Bool :=
  !d.sys.straps.root && tlRuns d && !d.time.syncSeen && decide (d.time.lockNow + 1048576 ≤ d.time.now) &&
    !rdB d pgTb Reg.TB.SYNC_STAT 3

/-! ## Fabric time sync (R67 to R71, R539) -/

/-- A half of a number of fines; where it lies between two, either may result. DESIGN CHOICE (log 7). -/
def halfFines (x : Int) (d : Device) : Int × Device :=
  if x % 2 = 0 then (x / 2, d)
  else
    let r := freeNext d
    (x / 2 + (if bit r.1 0 then 1 else 0), r.2)

/-- A step is permitted (R70). -/
def stepPermitted (d : Device) : Bool :=
  decide (syncState d = 1) && rdB d pgTb Reg.TB.SYNC_CTL 1 &&
    (match d.sys.mode with
     | .boot => true
     | .configure => true
     | .hold => true
     | .safe => true
     | _ => false)

/-- The time line steps by −offset, in whole ticks; the rest is slewed (R69, R71). A step over a Midnight, or a SYNC word's load, raises no
MIDNIGHT: R57 speaks of the bits passing at a tick. DESIGN CHOICE (log 146). -/
def timeStep (off : Int) (d : Device) : Device :=
  let ticks := Int.tdiv off 64
  let tl := d.time.tl - BitVec.ofInt 64 ticks
  { d with time := { d.time with tl := tl, slew := -(off - 64 * ticks) } } |> bump pgTb Reg.TB.STEP_CNT |> raise pgTb 3

/-- The time base takes the parent link's exchange (R67, R69); SYNC_OFFSET and SYNC_DELAY show the low 32 bits. DESIGN CHOICE (log 20). -/
def syncApply (off : Int) (delay : Word) (d : Device) : Device :=
  let d := d |> wr pgTb Reg.TB.SYNC_OFFSET (wdI off) |> wr pgTb Reg.TB.SYNC_DELAY delay
  match syncState d with
  | 1 =>
    let d := if 64 < off.natAbs ∧ stepPermitted d then timeStep off d else { d with time := { d.time with slew := -off } }
    if off.natAbs ≤ 16 then
      if 4 ≤ d.time.goodExchanges + 1 then enterSync 2 d
      else { d with time := { d.time with goodExchanges := d.time.goodExchanges + 1 } }
    else { d with time := { d.time with goodExchanges := 0 } }
  | 2 =>
    let far := decide (4096 < off.natAbs)
    let d := raiseIf (far && !d.time.farNow) pgTb 2 d
    { d with time := { d.time with farNow := far, slew := -off } }
  | _ => d

/-- A TSYNC request arrives at t2; the response leaves at t3 (R539). -/
def tsyncAnswer (l n : Nat) (t2 t3 : BitVec 64) (d : Device) : Device :=
  if linkUp d l then sendLocal l 5 (tsyncPayload 2 n t2.toNat t3.toNat) d else d

/-- A TSYNC response arrives at t4 (R67, R539). A response to no exchange in progress is ignored. -/
def tsyncTake (l n : Nat) (t2 t3 t4 : BitVec 64) (d : Device) : Device :=
  match d.time.exch.find? l with
  | none => d
  | some e =>
    if ¬ linkUp d l ∨ n % 2 ^ 32 ≠ e.t1 / 64 / 2 ^ 20 % 2 ^ 32 then d
    else
      let t1 := BitVec.ofNat 64 e.t1
      let out := (t2 - t1).toInt
      let back := (t4 - t3).toInt
      let o := halfFines (back - out) { d with time := { d.time with exch := d.time.exch.erase l } }
      let y := halfFines (out + back) o.2
      let d := y.2 |> wr (pgLink l) Reg.LINK.TS_OFFSET (wdI o.1) |> wr (pgLink l) Reg.LINK.TS_DELAY (wdI y.1)
      if parentOf d = some l then syncApply o.1 (wdI y.1) d else d

/-! ## PTP commits (R74) -/

/-- A commit boundary has come. -/
def ptpReached (d : Device) : Bool := d.time.ptpDue.any (fun t => decide (t ≤ d.time.now))

/-- A commit boundary: what stands in the shadow becomes active; PENDING goes with the last one. -/
def ptpBoundary (d : Device) : Device :=
  let rest := d.time.ptpDue.filter (fun t => decide (d.time.now < t))
  let d := forEach ptpRegs (takeShadow pgTb) { d with time := { d.time with ptpDue := rest } }
  wrB pgTb Reg.TB.PTP_CTL 1 (decide (rest ≠ [])) d

/-! ## Make-up (R75 to R78) -/

/-- WAKE_CNT, and the ticks that it stands for. -/
def wakeCount (d : Device) : Nat := (rd d pgTb Reg.TB.WAKE_CNT_LO).toNat + rdF d pgTb Reg.TB.WAKE_CNT_HI 0 16 * 2 ^ 32
def wakeTicks (d : Device) : Nat := wakeCount d * 1280

/-- k slow periods pass (R75): WAKE_CNT saturates with SAT. -/
def slowTicks (k : Nat) (d : Device) : Device :=
  let n := wakeCount d + k
  let m := min n (2 ^ 48 - 1)
  d |> wr pgTb Reg.TB.WAKE_CNT_LO (wd m) |> wrF pgTb Reg.TB.WAKE_CNT_HI 0 16 (m / 2 ^ 32)
    |> doIf (decide (m < n)) (wrB pgTb Reg.TB.WAKE_CNT_HI 16 true)

/-- One slow period passes, and AON samples the pins that can wake it (R75, R592). DESIGN CHOICE (log 15). -/
def slowTick (d : Device) : Device :=
  slowTicks 1 { d with tmrs := { d.tmrs with aon := (tioPins d :: d.tmrs.aon).take 3 } }

/-- How often a number congruent to v modulo p lies among c + 1 to t. -/
def hitsBetween (p v c t : Nat) : Nat := ((((t : Int) - v) / (p : Int)) - (((c : Int) - v) / (p : Int))).toNat

/-- What a timer's advance contained: overflows, matches 0 and 1. -/
structure Advance where
  timer : Nat
  ovf : Nat
  m0 : Nat
  m1 : Nat

/-- Timer n takes k count steps at make-up (R159 to R161). -/
def advanceTimer (n k : Nat) (d : Device) : Device × Advance :=
  let top := (tmrRd d n Reg.TMR.TOP).toNat
  let c := min (tmrRd d n Reg.TMR.COUNT).toNat top
  let p := top + 1
  let one := rdB d (pgTmr n) Reg.TMR.CTL 1
  let k := if one then min k (p - c) else k
  let t := c + k
  let hits := fun (v : Nat) => if v ≤ top then hitsBetween p v c t else 0
  let a : Advance := { timer := n, ovf := t / p, m0 := hits (tmrRd d n Reg.TMR.MATCH0).toNat, m1 := hits (tmrRd d n Reg.TMR.MATCH1).toNat }
  let d := if k = 0 then d else wr (pgTmr n) Reg.TMR.COUNT (wd (t % p)) d
  let d := if one ∧ a.ovf ≠ 0 then wrB (pgTmr n) Reg.TMR.CTL 0 false d else d
  let set := (if a.m0 = 0 then 0 else 1) + (if a.m1 = 0 then 0 else 2) + (if a.ovf = 0 then 0 else 4)
  let d := if set = 0 then d
    else raiseAt (pgTmr n) 3 0 (stampNow d) true (setIrqRaw (pgTmr n) (rd d (pgTmr n) hIRQ_RAW ||| wd set) d)
  (d, a)

/-- The occurrences of a selector's event in the advances made so far; none where its timer was not advanced. -/
def occurrences (as : List Advance) (s : Nat) : Option Nat :=
  match selTimer s with
  | none => none
  | some m => (as.find? (fun a => decide (a.timer = m))).map (fun a =>
      match selKind s with | 1 => a.m0 | 2 => a.m1 | _ => a.ovf)

/-- Make-up of timer n, given the advances of the lower timers. DEDUCED (log 47). -/
def makeupTimer (ticks : Nat) (st : Device × List Advance) (n : Nat) : Device × List Advance :=
  let d := st.1
  let mode := slvMode d n
  if ¬ tmrRuns d n ∨ dbgStopped d n then st
  else if mode = 3 then
    match occurrences st.2 (slvSrc d n) with
    | some k => let r := advanceTimer n k d; (r.1, st.2 ++ [r.2])
    | none => st
  else if tmrSrc d n = 0 ∧ mode ≠ 1 then
    let per := prescOf d n + 1
    let x := (timerOf d n).presc + ticks
    let r := advanceTimer n (x / per) (setTimer n { timerOf d n with presc := x % per } d)
    (r.1, st.2 ++ [r.2])
  else st

/-- A carrier's count and direction after k ticks under one PER, as `nextCount` would count them (R76); a down half longer than PER runs
to its end (R94). -/
def advanceCarrier (ud : Bool) (per k : Nat) (c : Carrier) : Nat × Bool :=
  let up := fun (x : Nat) => if x % (2 * per) < per then (x % (2 * per), false) else (2 * per - x % (2 * per), true)
  if k = 0 then (c.count, c.down)
  else if ud then
    if c.down then (if k ≤ c.count then (c.count - k, decide (k < c.count)) else up (k - c.count))
    else up ((if per < c.count then per - 1 else c.count) + k)
  else (((if c.wrap then per else min c.count per) + k) % (per + 1), false)

/-- Make-up of carrier g: advanced, its events marked as raised, and pending loads of ZERO, PERIOD and BOTH performed once. -/
def makeupCarrier (ticks g : Nat) (d : Device) : Device :=
  let r := advanceCarrier (upDown d g) (perEff d g) ticks (carrierOf d g)
  let d := setCarrier g { count := r.1, down := r.2, zeroDone := true, perDone := true } d
  let d := forEach (followers d g) (fun n d =>
    let l := legOf d n
    let d := setLeg n { l with cmpA := { done := true }, cmpB := { done := true } } d
    if legLoadSel d n ≤ 2 then takeLegSet n d else d) d
  if pload d g ≤ 2 then
    let new := (shadowOf d (pgLg g) Reg.LG.PER).isSome
    let old := perEff d g
    let d := takeGroupSet g d
    if new then shorten g true old d else d
  else d

/-- A line whose level is taken as it stands, as the channel's recognised level. -/
def takeLine (no : Nat) (level : Bool) (l : PinLine) : PinLine := { l with samp := level, since := no }

/-- Position channels at make-up (R311): the levels at the pins are the recognised ones from here on, and the motion of the gap counts
nothing. DESIGN CHOICE (log 63). -/
def makeupPos (n : Nat) (d : Device) : Device :=
  let p := posOf d n
  let a := posaLevel d n
  let d := setPos n { p with
    a := a, b := p.lb.pin, z := p.lz.pin, stepsValid := 0, winSkip := true
    la := takeLine d.posNo a p.la, lb := takeLine d.posNo p.lb.pin p.lb, lz := takeLine d.posNo p.lz.pin p.lz } d
  if posOn d n ∧ 1 ≤ posMode d n ∧ posMode d n ≤ 3 then
    raiseAt (pgPos n) 5 0 (stampNow d) true (wrB (pgPos n) Reg.POS.STAT 16 true d)
  else d

/-- What follows the make-up of a wake from SLEEP: links train, a device with a parent acquires, and the mode goes to WAKE_TO. -/
def makeupLeave (d : Device) : Device :=
  if d.sys.mode = .sleep then
    let d := if (parentOf d).isSome then enterSync 1 d else d
    let d := forEach ((List.range 8).filter (fun l => enabled d (pgLink l) && domainOn d (pgLink l))) enterTrain d
    { d with sys := { d.sys with transit := some (if rdB d pgMode Reg.MODE.SLEEP_CFG 0 then .hold else .configure) } }
  else d

/-- Make-up can take place: the device has woken and the reference has relocked (R75, R591). -/
def makeupReady (d : Device) : Bool :=
  d.time.wakeAt.isSome && rdB d pgTb Reg.TB.REF_STAT 0 && decide (d.sys.mode ≠ .retain)

/-- Make-up at the restarting tick. DEDUCED (log 21). -/
def makeUp (d : Device) : Device :=
  let ticks := wakeTicks d
  let old := d.time.tl.toNat
  let tl := d.time.tl + BitVec.ofNat 64 ticks
  let d := { d with time := { d.time with tl := tl, wakeAt := none }, mclk := d.mclk.map (fun e => (e.1, { e.2 with edge := none })) }
  let d := d |> wr pgTb Reg.TB.WAKE_STAMP_LO (lo32 tl.toNat) |> wr pgTb Reg.TB.WAKE_STAMP_HI (hi32 tl.toNat)
    |> wr pgTb Reg.TB.WAKE_ERR (wd (min 0xFFFFFFFF (1280 + (ticks + 4095) / 4096))) |> raise pgTb 5
  let d := ((List.range 64).foldl (makeupTimer ticks) (d, [])).1
  let d := forEach ((List.range 32).filter (running d)) (makeupCarrier ticks) d
  let d := forEach ((List.range 128).filter (fun n => decide (beRd d n Reg.BE.TBL_INC ≠ 0#32) && domainOn d (pgBe n)))
    (fun n => advancePhase n ticks) d
  let d := if (old + ticks) / 2 ^ 48 = old / 2 ^ 48 then d else raiseAt pgTb 4 0 0 true d
  let d := forEach ((List.range 8).filter (compareDue d)) (fun c => compareFire c true) d
  makeupLeave (forEach (List.range 32) makeupPos (tioMakeup d))

end Sys2Proof.Machine
end

