-- ==== Sys2Proof/Machine/PowerOps.lean ====
section
/-! DEFINITION. Power (spec/17): switching domains (R581, R582), SLEEP and RETAIN with their wakes (R590 to R592), the reset of the
device (R617 to R619), and the PWR and BOOT pages. -/

namespace Sys2Proof.Machine

/-! ## The PWR page (R581, R602) -/

/-- Modes in which domains are switched. -/
def switchMode (m : Mode) : Bool :=
  match m with
  | .configure => true
  | .run => true
  | .hold => true
  | .safe => true
  | _ => false

/-- Domains that cannot be switched. -/
def fixedDomain (k : Nat) : Bool := decide (k = 0) || decide (k = 57) || decide (k = 58)

/-- The bit of PD_OFF for domain k. -/
def pdOffReg (k : Nat) : Nat := if k < 32 then Reg.PWR.PD_OFF_LO else Reg.PWR.PD_OFF_HI
def pdOff (d : Device) (k : Nat) : Bool := rdB d pgPwr (pdOffReg k) (k % 32)

/-- The domain holds a core with RUN = 1. -/
def domainRuns (d : Device) (k : Nat) : Bool :=
  (List.range 36).any (fun c => decide (coreDomain c = k) && rdB d (pgCore c) Reg.CORE.CTL 0)

/-- The domain holds a page with LOCK set or an owner (R36). -/
def domainHeld (d : Device) (k : Nat) : Bool :=
  (allPages.filter (fun p => decide (pageDomain p = some k))).any (fun p => rdB d p hLOCK 0 || decide (rd d p hOWNER ≠ 0#32))

/-- A write of PD_OFF_LO (`base` 0) or PD_OFF_HI (`base` 32): refused, or stored; the domains follow (R581). -/
def pdOffWrite (base : Nat) (w : Wr) (d : Device) : Device :=
  let off := if base = 0 then Reg.PWR.PD_OFF_LO else Reg.PWR.PD_OFF_HI
  let named := (bitsOf w.data 32).map (fun i => base + i)
  let going := named.filter (fun k => d.sys.pd.getLsbD k)
  if ¬ switchMode d.sys.mode then d
  else if named.any fixedDomain then raise pgPwr 1 (refuse pgPwr 0x80 off w.who d)
  else if going.any (domainRuns d) then raise pgPwr 1 (refuse pgPwr 0x81 off w.who d)
  else if going.any (domainHeld d) then raise pgPwr 1 (refuse pgPwr 0x82 off w.who d)
  else wr pgPwr off w.data d

def pwrWrite (off : Nat) (w : Wr) (d : Device) : Device :=
  if off = Reg.PWR.PD_OFF_LO then pdOffWrite 0 w d
  else if off = Reg.PWR.PD_OFF_HI then pdOffWrite 32 w d
  else storeReg pgPwr off w.data d

def pwrView (off : Nat) (d : Device) : Word :=
  if off = Reg.PWR.PD_ON_LO then wd d.sys.pd.toNat
  else if off = Reg.PWR.PD_ON_HI then wd (d.sys.pd.toNat / 2 ^ 32)
  else rd d pgPwr off

/-- Domain k has not reached what PD_OFF says, and can: one that holds a locked or owned page stays on (R36), and in BOOT and SELFTEST all
are on (R583). DEDUCED (log 29). -/
def domainDue (d : Device) (k : Nat) : Bool :=
  decide (d.sys.mode ≠ .retain) && (d.sys.pd.getLsbD k == pdOff d k) &&
    !(pdOff d k && (domainHeld d k || decide (d.sys.mode = .selftest) || decide (d.sys.mode = .boot)))

/-- Domain k reaches OFF or ON (R581, R582). DEDUCED (log 29). -/
def domainReached (k : Nat) (d : Device) : Device :=
  if domainDue d k then raise pgPwr 0 (if pdOff d k then domainOff k d else domainUp k d) else d

/-! ## SLEEP (R590) -/

/-- Every core with RUN = 1 is WAITING or HALTED. -/
def coresIdle (d : Device) : Bool :=
  (List.range 36).all (fun k => !(domainOn d (pgCore k) && rdB d (pgCore k) Reg.CORE.CTL 0) || (coreOf d k).waiting || coreHalted d k)

def sleepReady (d : Device) : Bool := d.sys.sleepReq.isSome && coresIdle d

/-- Ports and links that SLEEP turns off (R464, R583). -/
def portsOff (d : Device) : Device :=
  let d := linkChange 1 0#32 d
  let d := if etCtl d 0 16 then d else linkChange 0 0#32 d
  forEach ((List.range 8).filter (fun l => enabled d (pgLink l) && domainOn d (pgLink l))) linkOff d

/-- Values written to SAFEPAT and not usable yet become so as the ticks stop: AON, which holds them, goes on. DEDUCED (log 114). -/
def safepatSoon (d : Device) : Device :=
  let mine := fun (e : SoonWrite) => decide (e.page = pgSafepat)
  forEach (d.soon.filter mine) (fun e d => safepatWrite e.off e.w d) { d with soon := d.soon.filter (fun e => !mine e) }

/-- SLEEP is entered: functions are aborted, the slow oscillator is trimmed, the time line stops. DESIGN CHOICE (log 7). -/
def sleepEnter (d : Device) : Device :=
  let d := { d with sys := { d.sys with sleepReq := none } }
  let d := forEach (allPages.filter (fun p => domainOn d p && enabled d p && pageBusy d p))
    (fun p d => abortWrite p 1 (cancelWork p d)) d
  let d := modeChange .sleep (safepatSoon (portsOff d))
  let d := { d with tmrs := { d.tmrs with aon := [] } }
  let r := freeNext d
  { r.2 with time := { r.2.time with exch := [], wakeAt := none } } |> wr pgTb Reg.TB.SLOW_TRIM (r.1 &&& 0xFF#32)
    |> wr pgTb Reg.TB.WAKE_CNT_LO 0#32 |> wr pgTb Reg.TB.WAKE_CNT_HI 0#32 |> wrB pgTb Reg.TB.REF_STAT 0 false

/-- A SLEEP request whose cores have not become idle in 50 µs. -/
def sleepLate (d : Device) : Bool :=
  match d.sys.sleepReq with
  | some r => decide (r.1 + 64000 ≤ d.time.now) && !coresIdle d
  | none => false
/-- It is refused, and nothing else has changed (R590). -/
def sleepRefuse (d : Device) : Device :=
  match d.sys.sleepReq with
  | none => d
  | some r =>
    { d with sys := { d.sys with sleepReq := none } } |> wr pgMode Reg.MODE.REQ d.sys.reqWas |> recordErr pgMode 0x82 r.2 Reg.MODE.REQ
      |> raise pgMode 2

/-! ## RETAIN (R591, R592) -/

/-- AON registers that the MODE page shows. -/
def aonMode : List Nat :=
  [Reg.MODE.SLEEP_CFG, Reg.MODE.WAKE_TMR_LO, Reg.MODE.WAKE_TMR_HI, Reg.MODE.RET_MASK_LO, Reg.MODE.RET_MASK_HI, Reg.MODE.WAKE_SRC]

/-- What is outside the device, or fixed in it: levels at its pins, what it has sent, the straps, the fuses. A page's UNUSABLE mark of
Dawn is not kept: the next boot runs Dawn again, or starts from the header's reset value (R33, R46). DEDUCED (log 114). DESIGN CHOICE (log 135). -/
def outside (d : Device) : Device :=
  let p := forEach (List.range 32) (fun n (m : SMap Pos) =>
    let q := pinsOf (posOf d n)
    let line := fun (l : PinLine) => { l with since := 0 }
    m.set (fun _ => {}) n { q with la := line q.la, lb := line q.lb, lz := line q.lz, lp := line q.lp, sampled := 0, prbAt := none }) []
  { time := { refinOk := d.time.refinOk }
    legs := { safeNLow := d.legs.safeNLow, trip := d.legs.trip }
    tmrs := { tio := d.tmrs.tio, ext := d.tmrs.ext, inA := d.tmrs.inA, inB := d.tmrs.inB, samp := d.tmrs.samp }
    pos := p
    sys := { straps := d.sys.straps, rbFuse := d.sys.rbFuse }
    sent := d.sent, free := d.free }

/-- The gate outputs as AON holds them while the rest loses power: their levels (R122, R583). -/
def heldSide (s : Side) : Side := { on := s.on }
def heldLegs (d : Device) : SMap Leg :=
  (List.range 128).foldl (fun m n =>
    m.set (fun _ => {}) n { high := heldSide (legOf d n).high, low := heldSide (legOf d n).low }) []

/-- RETAIN is entered from CONFIGURE or HOLD: all but AON loses power; the safe pattern stays. The time line is kept in AON. DEDUCED (log 114). -/
def retainEnter (d : Device) : Device :=
  let d := safepatSoon d
  let x := outside d
  let kept := d.regs.filter (fun e => (aonMode.map (rkey pgMode)).contains e.1 ||
    (decide (rkey pgSafepat 0 ≤ e.1) && decide (e.1 < rkey pgSafepat 0x1000)))
  let x := { x with
    regs := kept.foldl (fun m e => m.insert e.1 e.2) x.regs
    time := { x.time with stopTl := d.time.tl }
    legs := { x.legs with leg := heldLegs d }
    sys := { x.sys with mode := .retain, prev := d.sys.mode, pd := 0#64 } }
  refreshLegs x

/-- A wake from RETAIN: BOOT begins, and every page but the AON registers of MODE and the safe pattern (R135) starts from reset values
(R591). The loss of power in RETAIN is no switching off of a domain (R178): no group asks for an INIT. DEDUCED (log 114). -/
def retainWake (d : Device) : Device :=
  let x := outside d
  let kept := d.regs.filter (fun e =>
    ([Reg.TB.WAKE_CNT_LO, Reg.TB.WAKE_CNT_HI].map (rkey pgTb) ++ aonMode.map (rkey pgMode)).contains e.1 ||
      (decide (rkey pgSafepat 0x040 ≤ e.1) && decide (e.1 < rkey pgSafepat 0x1000)))
  let x := { x with
    regs := kept.foldl (fun m e => m.insert e.1 e.2) x.regs
    time := { x.time with stopTl := d.time.stopTl, wakeAt := d.time.wakeAt }
    legs := { x.legs with leg := heldLegs d }
    tmrs := { x.tmrs with aon := d.tmrs.aon }
    sys := { x.sys with mode := .boot, prev := .retain, wakeBoot := true } }
  refreshLegs x

/-! ## Wakes (R590, R592) -/

/-- A wake source fires: 1 TIO, 2 ETH0, 3 timer. Of two in one slow period WAKE_SRC records the lower. -/
def wake (src pin : Nat) (d : Device) : Device :=
  let word := wd (src + pin * 16)
  match d.time.wakeAt with
  | some t =>
    if t = wakeCount d ∧ src < rdF d pgMode Reg.MODE.WAKE_SRC 0 3 then wr pgMode Reg.MODE.WAKE_SRC word d else d
  | none =>
    let d := wr pgMode Reg.MODE.WAKE_SRC word { d with time := { d.time with wakeAt := some (wakeCount d) } }
    if d.sys.mode = .retain then retainWake d else d

/-- The device sleeps, or a RETAIN wake's first slow period has not ended. DEDUCED (log 113). -/
def wakeable (d : Device) : Bool := asleep d || (d.sys.wakeBoot && d.time.wakeAt.isSome)

/-- AON has found 0 at TIO pin, and 1 in the next two samples (R592). -/
def aonEdge (d : Device) (pin : Nat) : Bool :=
  match d.tmrs.aon with
  | a :: b :: c :: _ => a.getLsbD pin && b.getLsbD pin && !c.getLsbD pin
  | _ => false

/-- A rising edge that AON recognises at TIO pin wakes, where that is enabled. -/
def tioWakes (d : Device) (pin : Nat) : Bool := wakeable d && aonEdge d pin && rdB d pgMode Reg.MODE.SLEEP_CFG (4 + pin)
def wakeTio (pin : Nat) (d : Device) : Device := if tioWakes d pin then wake 1 pin d else d

/-- A Uandi frame on ETH0 in SLEEP wakes and is discarded (R464). -/
def wakeEth (d : Device) : Device :=
  if d.sys.mode = .sleep ∧ ethUp d 0 then
    let d := ethDrop 0 d
    if rdB d pgMode Reg.MODE.SLEEP_CFG 9 then wake 2 0 d else d
  else d

/-- The wake timer fires at the end of this slow period. -/
def wakeTimerDue (d : Device) : Bool :=
  asleep d && d.time.wakeAt.isNone && rdB d pgMode Reg.MODE.SLEEP_CFG 10 &&
    decide (wakeCount d = max 1 ((rd d pgMode Reg.MODE.WAKE_TMR_LO).toNat + rdF d pgMode Reg.MODE.WAKE_TMR_HI 0 16 * 2 ^ 32))
def wakeTimer (d : Device) : Device := if wakeTimerDue d then wake 3 0 d else d

/-! ## A transition completes (R584) -/

/-- MODE_CHG: the mode of the transition in progress is entered. -/
def transitionDone (d : Device) : Device :=
  match d.sys.transit with
  | none => d
  | some .retain => retainEnter d
  | some m => modeChange m d

/-! ## Reset (R619) -/

/-- A low pulse on RESET_N: everything but the outside world and the fuses stands as at reset. DEDUCED (log 115). DEDUCED (log 116). -/
def resetPulse (d : Device) : Device := refreshLegs (outside d)

/-- FAULT_N is driven low (R618). DESIGN CHOICE (log 127). -/
def faultLow (d : Device) : Bool :=
  !asleep d && (!d.sys.configured || d.sys.dusk || decide (d.sys.mode = .safe))

/-! ## The BOOT page (R594, R597, R602) -/

/-- The rollback level: the fuse map's, or what RB_ADV made of it. -/
def rbLevel (d : Device) : Nat := match d.sys.rbFuse with | some v => v | none => Config.rbLevel.toNat % 64

/-- The writer is a session of this device with the IMAGE right. -/
def imageRight (d : Device) (who : Requester) : Bool :=
  decide (who.kind = .session) && who.uid.isNone && decide (who.index.val < 16) && sessRight d who.index.val 3

/-- RB_ADV is written (R597). DEDUCED (log 122). -/
def rbAdvance (who : Requester) (d : Device) : Device :=
  if ¬ imageRight d who then refuse pgBoot 0x81 Reg.BOOT.CTL who d
  else if d.sys.mode ≠ .configure then refuse pgBoot 0x80 Reg.BOOT.CTL who d
  else { d with sys := { d.sys with rbFuse := some (max (rbLevel d) (rdF d pgBoot Reg.BOOT.IMG_INFO 8 6)) } }

/-- VERIFY is written: a neighbour's image is to be verified where BOOT waits for one (R594). DEDUCED (log 117). -/
def verifyWrite (d : Device) : Device :=
  if d.sys.mode = .boot ∧ d.sys.bootAt.isSome ∧ ¬ d.sys.hostImage then { d with sys := { d.sys with verifyDue := true } } else d

def bootWrite (off : Nat) (w : Wr) (d : Device) : Device :=
  if off = Reg.BOOT.CTL then d |> doIf (one w 0) verifyWrite |> doIf (one w 1) (rbAdvance w.who)
  else storeReg pgBoot off w.data d

def bootView (off : Nat) (d : Device) : Word := if off = Reg.BOOT.RB_LEVEL then wd (rbLevel d) else rd d pgBoot off

end Sys2Proof.Machine
end

