-- ==== Sys2Proof/Machine/CorePageOps.lean ====
section
/-! DEFINITION. What a core shows and takes at its pages (spec/09, R342 to R348), and the sides of the FAB, LINK, FIREFLY and ROUTE pages
that the page layer needs (spec/15, R541 to R544; spec/16, R576 to R578). -/

namespace Sys2Proof.Machine

/-! ## Registers of a core (R349, R350) -/

/-- Reset values of the special registers. -/
def srReset (n : Nat) : Word :=
  match n with
  | 0 => 3#32
  | 13 => 2#32
  | 16 => 0x800FFF00#32
  | _ => 0#32
def srOf (c : Core) (n : Nat) : Word := c.sr.get srReset n
def setSr (n : Nat) (v : Word) (c : Core) : Core := { c with sr := c.sr.set srReset n v }
def wOf (c : Core) (r : Nat) : TaggedWord := c.w.get (fun _ => {}) r
def setW (r : Nat) (x : TaggedWord) (c : Core) : Core := { c with w := c.w.set (fun _ => {}) r x }

def coreCtl (d : Device) (k i : Nat) : Bool := rdB d (pgCore k) Reg.CORE.CTL i
def coreStatB (d : Device) (k i : Nat) : Bool := rdB d (pgCore k) Reg.CORE.STAT i

/-- Stopped by a machine check (R419). -/
def coreMchk (d : Device) (k : Nat) : Bool := coreStatB d k 5

/-- RUN is 1 and the core is not stopped. -/
def coreRuns (d : Device) (k : Nat) : Bool := coreCtl d k 0 && !coreHalted d k && !coreMchk d k

/-- It is not stopped by a soft reset either (R345). -/
def coreGoes (d : Device) (k : Nat) : Bool := coreRuns d k && (coreOf d k).rstAt.isNone

/-- STAT (R346). -/
def coreStat (d : Device) (k : Nat) : Word :=
  let c := coreOf d k
  wd (b2n (coreGoes d k) + 4 * b2n (coreHalted d k) + 8 * b2n c.waiting + 16 * b2n (coreGoes d k && coreCtl d k 1) +
    32 * b2n (coreMchk d k) + 64 * c.longs.length + 256 * c.sb.length)

/-- The selected debug register: its value and tag (R344, R346). -/
def dbgSel (d : Device) (k : Nat) : Nat := rdF d (pgCore k) Reg.CORE.DBG_RSEL 0 7
def dbgValue (d : Device) (k : Nat) : TaggedWord :=
  let n := dbgSel d k
  if n < 32 then wOf (coreOf d k) n else if n < 36 then { v := srOf (coreOf d k) (n - 32) } else {}

/-- Caches whose decoder failed its self-test stay off (R437). -/
def cacheBits (d : Device) (k : Nat) (v : Word) : Word :=
  v |> (fun v => if decoderBad d (36 + k) then setBit v 2 false else v)
    |> (fun v => if decoderBad d (72 + k) then setBit v 3 false else v)

/-- Reads of CORE pages. -/
def coreView (k off : Nat) (d : Device) : Word :=
  if off = Reg.CORE.CTL then cacheBits d k (rd d (pgCore k) off)
  else if off = Reg.CORE.STAT then coreStat d k
  else if off = Reg.CORE.DBG_RDATA then (if coreHalted d k then (dbgValue d k).v else 0#32)
  else if off = Reg.CORE.DBG_RTAG then (if coreHalted d k then wd (b2n (dbgValue d k).p) else 0#32)
  else rd d (pgCore k) off

/-- RUN goes from 0 to 1: every architectural register is as at reset, but for pc (R342). A soft reset under way goes on (R345). -/
def coreStart (k : Nat) (d : Device) : Device :=
  let was := coreOf d k
  let c : Core := { pc := rd d (pgCore k) Reg.CORE.START_PC, rstReq := was.rstReq, rstAt := was.rstAt }
  setCore k (if coreCtl d k 1 then setSr 0 0x103#32 c else c) d

/-- A write of CTL (R342, R343). -/
def coreCtlWrite (k : Nat) (w : Wr) (d : Device) : Device :=
  let ran := coreCtl d k 0
  if ran ∧ (¬ one w 0 ∨ one w 1 ≠ coreCtl d k 1) then refuse (pgCore k) 0x80 Reg.CORE.CTL w.who d
  else
    let d := storeReg (pgCore k) Reg.CORE.CTL (cacheBits d k w.data) d
    if one w 0 ∧ ¬ ran then coreStart k d else d

/-- The D-cache is invalidated, the I-cache with the line buffer (R319, R321); done at once. -/
def dinv (k : Nat) (d : Device) : Device := setCore k { coreOf d k with dcache := [] } d
/-- DEDUCED (log 72). -/
def iinv (k : Nat) (d : Device) : Device := setCore k { coreOf d k with icache := [], lbuf := [] } d

/-- A debug halt is requested of a core that runs; a halted core goes on, or goes on for one issue position (R344). -/
def dbgHalt (k : Nat) (d : Device) : Device :=
  if coreRuns d k then setCore k { coreOf d k with haltReq := true } d else d
def dbgGo (k : Nat) (step : Bool) (d : Device) : Device :=
  if coreHalted d k then
    setCore k { coreOf d k with stepping := step } (wrB (pgCore k) Reg.CORE.STAT 2 false d)
  else d

/-- A write of DBG. -/
def dbgWrite (k : Nat) (w : Wr) (d : Device) : Device :=
  let d := if one w 2 then dbgGo k true d else if one w 1 then dbgGo k false d else d
  if one w 0 then dbgHalt k d else d

/-- PSTAT as a debug write leaves it: PL = 2 is kept out, and DET goes to CTL (R351). -/
def dbgPstat (k : Nat) (v : Word) (d : Device) : Device :=
  let c := coreOf d k
  let old := srOf c 0
  let new := if fld v 0 2 = 2 then setFld v 0 2 (fld old 0 2) else v
  wrB (pgCore k) Reg.CORE.CTL 1 (bit new 8) (setCore k (setSr 0 (new &&& 0x1F7#32) c) d)

/-- A write of DBG_RDATA or DBG_RTAG (R344, R348). DEDUCED (log 34). -/
def dbgStore (k off : Nat) (w : Wr) (d : Device) : Device :=
  let c := coreOf d k
  let n := dbgSel d k
  if ¬ coreHalted d k then recordErr (pgCore k) 0x81 w.who off d
  else if n < 32 then
    let x := wOf c n
    setCore k (setW n (if off = Reg.CORE.DBG_RDATA then { x with v := w.data } else { x with p := one w 0 }) c) d
  else if off = Reg.CORE.DBG_RDATA ∧ n = 32 then dbgPstat k w.data d
  else if off = Reg.CORE.DBG_RDATA ∧ n < 36 then setCore k (setSr (n - 32) w.data c) d
  else d

/-- Writes of CORE pages. -/
def coreWrite (k off : Nat) (w : Wr) (d : Device) : Device :=
  if off = Reg.CORE.CTL then coreCtlWrite k w d
  else if off = Reg.CORE.CACHE_CTL then
    let d := if one w 1 then dinv k d else d
    if one w 0 then iinv k d else d
  else if off = Reg.CORE.DBG then dbgWrite k w d
  else if off = Reg.CORE.DBG_RDATA ∨ off = Reg.CORE.DBG_RTAG then dbgStore k off w d
  else storeReg (pgCore k) off w.data d

/-! ## MAINT requests of this device (R541, R543) -/

/-- Nibble j of a path of 6 bytes. DEDUCED (log 105). -/
def nibble (bs : List Byte) (j : Nat) : Nat :=
  let b := (numBE (slice bs (j / 2) 1))
  if j % 2 = 0 then b / 16 else b % 16

/-- A path from its nibbles. DEDUCED (log 105). -/
def packPath (ns : List Nat) : List Byte :=
  (List.range 6).map (fun i => BitVec.ofNat 8 (ns.getD (2 * i) 0 * 16 + ns.getD (2 * i + 1) 0))

/-- MPATH as the 6 bytes of PATH: nibble 0 leads MPATH_LO, nibble 8 MPATH_HI. DEDUCED (log 105). -/
def maintPath (d : Device) : List Byte :=
  bytesBE 4 (rd d pgFab Reg.FAB.MPATH_LO).toNat ++ bytesBE 2 (rdF d pgFab Reg.FAB.MPATH_HI 16 16)

/-- The payload of a MAINT flit. -/
def maintPayload (op n i : Nat) (path rpath uid : List Byte) (req off data tag status : Nat) : List Byte :=
  bytesBE 1 op ++ bytesBE 1 (n * 16 + i) ++ path ++ rpath ++ uid ++ bytesBE 1 req ++ [0#8] ++ bytesBE 4 off ++ bytesBE 4 data ++
    bytesBE 2 tag ++ bytesBE 2 status

/-- MCTL.GO (R543). -/
def maintGo (who : Requester) (d : Device) : Device :=
  let op := rdF d pgFab Reg.FAB.MCTL 0 2
  let n := rdF d pgFab Reg.FAB.MCTL 24 4
  let path := maintPath d
  let l := nibble path 0
  let tag := d.fab.tag
  let d := { d with fab := { d.fab with tag := (tag + 1) % 65536, maint := some (tag, d.time.now) } }
  let d := wr pgFab Reg.FAB.MSTAT 0#32 (wrB pgFab Reg.FAB.MCTL 31 true d)
  if n = 0 ∨ 12 < n ∨ op = 0 ∨ op = 3 then maintEnd 0x0303 d
  else if 8 ≤ l ∨ ¬ linkUp d l then maintEnd 0x0202 d
  else
    let uid := match who.uid with
      | some u => bytesBE 8 u.toNat
      | none => bytesBE 4 Config.uidHi.toNat ++ bytesBE 4 Config.uidLo.toNat
    let p := maintPayload op n 0 path (List.replicate 6 0#8) uid (kindNo who.kind * 64 + who.index.val)
      (rd d pgFab Reg.FAB.MADDR).toNat (if op = 2 then (rd d pgFab Reg.FAB.MDATA).toNat else 0) tag 0
    pumpAll (park { flit := { typ := 7, vc := 3, dest := 0xFFF, src := myId d, hops := issueHops d, payload := p }, ingress := none, via := some l } d)

/-- Writes of the FAB page, MAINT requests among them. -/
def fabPageWrite (off : Nat) (w : Wr) (d : Device) : Device :=
  if off = Reg.FAB.MCTL then
    if one w 31 ∧ d.fab.maint.isSome then refuse pgFab 0x82 off w.who d
    else
      let d := storeReg pgFab off w.data d
      if one w 31 then maintGo w.who d else d
  else fabWrite off w d

/-! ## FIREFLY pages (R576, R578) -/

/-- CTL of a FIREFLY page: TEST_PERMIT changes only in CONFIGURE; ARM from 0 to 1 begins. -/
def fireflyCtl (i : Nat) (w : Wr) (d : Device) : Device :=
  let p := pgFirefly i
  let permit := rdB d p Reg.FIREFLY.CTL 16
  let bad := decide (one w 16 ≠ permit) && decide (d.sys.mode ≠ .configure)
  if bad then refuse p 0x80 Reg.FIREFLY.CTL w.who d
  else
    let was := rdB d p Reg.FIREFLY.CTL 0
    let blocked := ffBlocked d i
    let d := storeReg p Reg.FIREFLY.CTL w.data d
    if one w 0 ∧ ¬ was then ffArm i d else raiseIf (ffBlocked d i && !blocked) p 2 d

def fireflyWrite (i off : Nat) (w : Wr) (d : Device) : Device :=
  if off = Reg.FIREFLY.CTL then fireflyCtl i w d else storeReg (pgFirefly i) off w.data d

def fireflyView (i off : Nat) (d : Device) : Word :=
  if off = Reg.FIREFLY.STAT then ffStat d i else rd d (pgFirefly i) off

end Sys2Proof.Machine
end

