-- ==== Sys2Proof/Machine/Access.lean ====
section
/-! DEFINITION. Accesses to register pages (spec/01, R22, R23, R30 to R46): the header, the refusal conditions in their order, lock
and ownership, writes held behind an abort, reads with their effects, and the block registers of every class. -/

namespace Sys2Proof.Machine

/-! ## Addresses (R21, R23) -/

/-- The page and offset of a local address in the page range. -/
def pageAt (a : Nat) : Option (Nat × Nat) :=
  if pageBase ≤ a ∧ a < pageBase + 0x1000000 then some ((a - pageBase) / 4096, (a - pageBase) % 4096) else none

/-! ## Requesters (R33, R37, R542) -/

/-- A core, session or internal master of this device, with the device's ID as it stands. -/
def ownReq (d : Device) (kind : ReqKind) (i : Fin 64) : Requester := { devid := BitVec.ofNat 12 (myId d), kind := kind, index := i }

/-- A requester that reached the device by MAINT. -/
def byMaint (who : Requester) : Bool := decide (who.devid = 0xFFF#12) && who.uid.isSome

/-- Condition 4 of R31 does not apply: the page is not owned, or the requester is its owner. -/
def ownerOk (d : Device) (p : Nat) (who : Requester) : Bool :=
  decide (rd d p hOWNER = 0#32) || (decide (rd d p hOWNER = reqIdent who) && !byMaint who)
def locked (d : Device) (p : Nat) : Bool := rdB d p hLOCK 0

/-- Targets that lock and ownership do not protect (R35). -/
def exempt (off : Nat) : Bool := decide (off = hIRQ_RAW) || decide (off = hPAGE_CTL) || decide (off = hPAGE_STAT)

/-- The code that refuses a write, in the order of R31; none where it is performed. -/
def refusal (d : Device) (p off : Nat) (aligned : Bool) (w : Wr) : Option Nat :=
  if ¬ aligned then some 0x03
  else if w.poison then some 0x04
  else if locked d p ∧ ¬ exempt off then some 0x01
  else if ¬ ownerOk d p w.who ∧ ¬ exempt off then some 0x02
  else if unusable d p ∧ 0x040 ≤ off then some 0x05
  else none

/-! ## Reads -/

/-- What a read of a block register returns. -/
def blockView (p off : Nat) (d : Device) : Word :=
  let i := instOf p
  match classOf p with
  | 0 => tbView off d
  | 1 => legsysView off d
  | 2 => safepatView off d
  | 3 => lgView i off d
  | 4 => tmrView i off d
  | 5 => modgView i off d
  | 7 => ffView i off d
  | 8 => pfeView i off d
  | 10 => beView i off d
  | 11 => beView (64 + i) off d
  | 12 => oluView i off d
  | 13 => posView i off d
  | 14 => coreView i off d
  | 19 => evaView off d
  | 20 => ethView i off d
  | 21 => uandiView off d
  | 22 => streamView off d
  | 23 => fabView off d
  | 26 => fireflyView i off d
  | 27 => modeView off d
  | 28 => pwrView off d
  | 30 => bootView off d
  | _ => rd d p off

/-- Block registers whose write acts and stores nothing, or sets bits. -/
def actReg (cls off : Nat) : Bool :=
  match cls with
  | 1 => decide (off = Reg.LEGSYS.START) || decide (off = Reg.LEGSYS.STOP) || decide (off = Reg.LEGSYS.GSYNC_SW) ||
      decide (off = Reg.LEGSYS.TZ_SW) || decide (off = Reg.LEGSYS.TZ_CLR)
  | 9 => decide (off = Reg.PFESEQ.SW_TRG_LO) || decide (off = Reg.PFESEQ.SW_TRG_HI)
  | 12 => decide (off = Reg.OLU.BANK)
  | 13 => decide (off = Reg.POS.SSI_CTL)
  | _ => false

/-- The parts of a page whose registers time-domain logic uses (R15, R11): what is left out are registers that only compute-domain logic
uses, and BE registers, which R243 treats. DEDUCED (log 147). -/
def timeBlock (cls off : Nat) : Bool :=
  match cls with
  | 0 => ptpRegs.contains off || (decide (Reg.TB.TLCMP_LO 0 ≤ off) && decide (off ≤ Reg.TB.TLCMP_CTL)) || decide (off = Reg.TB.SYNC_COMP)
  | 1 => true | 2 => true | 3 => true | 4 => true | 7 => true | 9 => true | 12 => true | 13 => true
  | 5 => decide (off = Reg.MODG.CTL) || decide (off = Reg.MODG.STEP_PER) || decide (off = Reg.MODG.PIN) || (decide (0x0C0 ≤ off) && decide (off < 0x128))
  | 6 => decide (off < Reg.XBS.STUCK_LIM)
  | 10 => decide (Reg.BE.TBL_LEN ≤ off) && decide (off ≤ Reg.BE.TBL_PH_IX)
  | 11 => decide (Reg.BE.TBL_LEN ≤ off) && decide (off ≤ Reg.BE.TBL_PH_IX)
  | _ => false

/-- A register whose written value becomes usable at the second tick boundary after the write (R15). -/
def timeReg (p off : Nat) : Bool :=
  let cls := classOf p
  timeBlock cls off && decide (evtEnOff cls ≠ some off) &&
    (actReg cls off || (match rowAt cls off with | some r => decide (r.rw ≠ 0#32) | none => false))

/-- The pages whose EN time-domain logic uses (R15, R86, R129, R140, R208). DEDUCED (log 147). -/
def timeEnable (p : Nat) : Bool := [3, 4, 6, 7, 13].contains (classOf p)

/-- Registers whose read returns what is active, or counts, and not the last value written (R6, R131, R141, R244, R296). -/
def readsActive (p off : Nat) : Bool :=
  match classOf p with
  | 0 => ptpRegs.contains off
  | 3 => decide (off = Reg.LG.PER) || decide (off = Reg.LG.PHASE) ||
      (match legBlock (instOf p) off with | some (_, b) => decide (0x04 ≤ b) && decide (b ≤ 0x18) | none => false)
  | 4 => decide (off = Reg.TMR.COUNT)
  | 10 => decide (off = Reg.BE.TBL_PH_FR) || decide (off = Reg.BE.TBL_PH_IX)
  | 11 => decide (off = Reg.BE.TBL_PH_FR) || decide (off = Reg.BE.TBL_PH_IX)
  | 13 => decide (off = Reg.POS.COUNT)
  | _ => false

/-- The writes of a register that are not usable yet, oldest first. -/
def soonOf (d : Device) (p off : Nat) : List SoonWrite := d.soon.filter (fun e => decide (e.page = p) && decide (e.off = off))

/-- A block register as it reads: an RW field returns the last value written, usable or not (R6). -/
def lastWritten (p off : Nat) (d : Device) : Word :=
  let v := blockView p off d
  if readsActive p off then v
  else match rowAt (classOf p) off with
    | some r => (soonOf d p off).foldl (fun a e => merge a e.w.data (writable p off r)) v
    | none => v

/-- EN as it reads: the last value written. -/
def enabledSoon (d : Device) (p : Nat) : Bool := (soonOf d p hPAGE_CTL).foldl (fun _ e => one e.w 0) (enabled d p)

/-- What a read of a register returns (R33). -/
def pageView (p off : Nat) (d : Device) : Word :=
  if 0x040 ≤ off then lastWritten p off d
  else if off = hPAGE_CTL then setBit (rd d p off) 0 (enabledSoon d p)
  else if off = hPAGE_STAT then rd d p off ||| wd (b2n (pageBusy d p))
  else if off = hIRQ_PEND then irqPend d p
  else rd d p off

/-- CE_CNT or UE_CNT of a memory (R432). -/
def errCount (off : Nat) : Bool := decide (0x800 ≤ off) && decide (off % 8 = 0)

/-- What a read of a register does (R6, R34, R156, R229, R277, R285, R310, R348, R432, R472, R561, R566). -/
def readEffect (p off : Nat) (who : Requester) (d : Device) : Device :=
  let i := instOf p
  if off = hERR_CODE then wr p hERR_CODE 0#32 d
  else match classOf p with
    | 4 => if off = Reg.TMR.CAP_HEAD then capPop i d else d
    | 8 => if off = Reg.PFE.RES_HEAD then resPop i d else d
    | 12 =>
      if off = Reg.OLU.FE_PEAK then wr p off 0#32 d
      else if off = Reg.OLU.INT_D_LO then intHold i false d
      else if off = Reg.OLU.INT_Q_LO then intHold i true d
      else d
    | 13 => if off = Reg.POS.SSI_DATA_LO then ssiHoldRead i d else d
    | 14 =>
      if (off = Reg.CORE.DBG_RDATA ∨ off = Reg.CORE.DBG_RTAG) ∧ ¬ coreHalted d i then recordErr p 0x81 who off d else d
    | 16 => if errCount off then wr p off 0#32 d else d
    | 19 =>
      if off = Reg.EVA.LOG_HEAD then logPop d
      else if off = Reg.EVA.PEND_PEAK then wr p off (wd (min 0xFFFF d.eva.pending.length)) d
      else d
    | 20 => if off = Reg.ETH.TS_HEAD then tsPop i d else d
    | _ => d

/-- A read of a page register: an aligned word, or a bad access that reads 0; one of a core reaches no page (R30). -/
def pageRead (p off : Nat) (aligned : Bool) (who : Requester) (d : Device) : Device × Word :=
  if aligned then (readEffect p off who d, pageView p off d)
  else if who.kind = .core then (d, 0#32)
  else (recordErr p 0x03 who off d, 0#32)

/-! ## Writes -/

/-- What a write of a block register does: at once, or where its value becomes usable (R15). -/
def blockEffect (p off : Nat) (w : Wr) (d : Device) : Device :=
  let i := instOf p
  match classOf p with
  | 0 => tbWrite off w d
  | 1 => legsysWrite off w d
  | 2 => safepatWrite off w d
  | 3 => lgWrite i off w d
  | 4 => tmrWrite i off w d
  | 5 => modgWrite i off w d
  | 6 => xbsWrite off w d
  | 7 => ffWrite i off w d
  | 8 => pfeWrite i off w d
  | 9 => pfeseqWrite off w d
  | 10 => beWrite i off w d
  | 11 => beWrite (64 + i) off w d
  | 12 => oluWrite i off w d
  | 13 => posWrite i off w d
  | 14 => coreWrite i off w d
  | 15 => icuWrite i off w d
  | 17 => scrubWrite i off w d
  | 18 => cvuWrite i off w d
  | 19 => evaWrite off w d
  | 20 => ethWrite i off w d
  | 21 => uandiWrite off w d
  | 22 => streamWrite off w d
  | 23 => fabPageWrite off w d
  | 26 => fireflyWrite i off w d
  | 27 => modeWrite off w d
  | 28 => pwrWrite off w d
  | 29 => dawnWrite off w d
  | 30 => bootWrite off w d
  | _ => storeReg p off w.data d

/-- What a write of a time-domain register records at its handshake (R144, R147, R206, R220, R221, R257, R259, R290). -/
def writeNotes (p off : Nat) (w : Wr) (d : Device) : Device :=
  let i := instOf p
  match classOf p with
  | 4 => tmrNotes i off w d
  | 5 => modgNotes i off w d
  | 7 => ffNotes i off w d
  | 9 => pfeseqNotes off w d
  | 12 => oluNotes i off w d
  | 13 => posNotes i off w d
  | _ => d

/-- A write whose value becomes usable at the second tick boundary after it (R15). DESIGN CHOICE (log 14). -/
def later (p off : Nat) (w : Wr) (d : Device) : Device :=
  { d with soon := d.soon ++ [{ page := p, off := off, w := w, due := d.time.now + 2 }] }

/-- A write of a block register that no condition of R31 refuses. -/
def blockWrite (p off : Nat) (w : Wr) (d : Device) : Device :=
  match (if classOf p = 5 then modgRefusal d (instOf p) off w else none) with
  | some code => refuse p code off w.who d
  | none => if timeReg p off then later p off w (writeNotes p off w d) else blockEffect p off w d

/-- A written value becomes usable. -/
def becomesUsable (e : SoonWrite) (d : Device) : Device :=
  if e.off = hPAGE_CTL then writeEnable e.page (one e.w 0) d else blockEffect e.page e.off e.w d

/-- The written values that become usable at the present tick do so, in the order of their writes (R15, R16). -/
def applySoon (d : Device) : Device :=
  let due := d.soon.filter (fun e => decide (e.due ≤ d.time.now))
  forEach due becomesUsable { d with soon := d.soon.filter (fun e => decide (d.time.now < e.due)) }

/-- EN is written: where time-domain logic uses it, it becomes usable as any value does; UNUSABLE of a forced abort clears at once (R46). -/
def enableWrite (p : Nat) (w : Wr) (d : Device) : Device :=
  if timeEnable p then
    if enabledSoon d p = one w 0 then d
    else
      let d := if one w 0 then unforce p d else d
      later p hPAGE_CTL w d
  else writeEnable p (one w 0) d

/-- Causes whose condition holds now: a W1C leaves their bits set (R7, R40). DEDUCED (log 26). -/
def activeCauses (d : Device) (p : Nat) : Word :=
  match classOf p with
  | 1 => wd (((List.range 8).map (fun z => 2 ^ z * b2n (zoneLatched d z))).foldl (· + ·) 0)
  | 7 => ffView (instOf p) Reg.FF.CMP_LIVE d
  | _ => 0#32

/-- A write of PAGE_CTL: `barred` that only its ABORT bit counts (R35, R38, R39, R41). DEDUCED (log 23). -/
def ctlWrite (p : Nat) (w : Wr) (barred : Bool) (d : Device) : Device :=
  if barred then (if one w 2 then abortStart p d else d)
  else
    let d := enableWrite p w d
    let d := if one w 2 then abortStart p d else d
    if one w 1 then softRstStart p d else d

/-- A write of OWNER (R37). -/
def ownerValue (v : Word) : Word := if fld v 18 2 = 0 then 0#32 else v &&& 0xFFFFF000#32

/-- A write of a header register that no condition of R31 refuses. IRQ_EN holds all its bits, those of reserved causes too: R33 gives it no
field table. DEDUCED (log 23). DEDUCED (log 26). DESIGN CHOICE (log 134). -/
def headerWrite (p off : Nat) (w : Wr) (d : Device) : Device :=
  if off = hPAGE_CTL then ctlWrite p w (locked d p || !ownerOk d p w.who) d
  else if off = hPAGE_STAT then (if one w 5 then wrB p hPAGE_STAT 5 false d else d)
  else if off = hIRQ_RAW then wr p hIRQ_RAW (rd d p hIRQ_RAW &&& (~~~ w.data ||| activeCauses d p)) d
  else if off = hIRQ_EN then pageIrq p (irqPend d p) (wr p hIRQ_EN w.data d)
  else if off = hIRQ_FORCE then setIrqRaw p (rd d p hIRQ_RAW ||| w.data) d
  else if off = hLOCK then (if w.data = 0x4C4B#32 then wr p hLOCK 1#32 d else d)
  else if off = hOWNER then wr p hOWNER (ownerValue w.data) d
  else d

/-- A write of a ROUTE page by another requester than the claimant (R544). -/
def claimBars (d : Device) (p : Nat) (w : Wr) : Bool := decide (classOf p = 25) && notClaimant d (claimOf w.who)

/-- A write that is made now (R31, R544). DEDUCED (log 24). -/
def checkedWrite (p off : Nat) (aligned : Bool) (w : Wr) (d : Device) : Device :=
  match refusal d p off aligned w with
  | some code => refuse p code off w.who (if code = 0x04 then wrB p hPAGE_STAT 5 true d else d)
  | none =>
    if claimBars d p w then refuse p 0x80 off w.who d
    else if 0x040 ≤ off then blockWrite p off w (answer .done d) else headerWrite p off w (answer .done d)

/-- A write waits for the end of the page's abort (R45). EN of PAGE_CTL waits as the block registers do; ABORT starts nothing (R44)
and SOFT_RST is taken at once. -/
def holds (d : Device) (p off : Nat) : Bool := aborting d p && (decide (0x040 ≤ off) || decide (off = hPAGE_CTL))
/-- DEDUCED (log 24). -/
def holdWrite (p off : Nat) (aligned : Bool) (w : Wr) (d : Device) : Device :=
  let d := { d with held := d.held ++ [{ page := p, off := off, aligned := aligned, w := w }], resp := .none }
  if off = hPAGE_CTL ∧ one w 1 ∧ aligned ∧ ¬ w.poison ∧ ¬ locked d p ∧ ownerOk d p w.who ∧
      ¬ claimBars d p w then softRstStart p d else d

/-- A write access to a page. One of a core that is no aligned word, or that carries poison, does not reach it (R30, R31). -/
def pageWrite (p off : Nat) (aligned : Bool) (w : Wr) (d : Device) : Device :=
  if w.who.kind = .core ∧ (¬ aligned ∨ w.poison) then d
  else if holds d p off then holdWrite p off aligned w d else checkedWrite p off aligned w d

/-- The writes held for a page are made in their order (R45); one that starts an abort holds those behind it. DEDUCED (log 24). -/
def releaseHeld (p : Nat) (d : Device) : Device :=
  if aborting d p then d
  else
    let hs := d.held.filter (fun h => decide (h.page = p))
    forEach hs (fun h d =>
      let w := if h.off = hPAGE_CTL then { h.w with data := h.w.data &&& 1#32 } else h.w
      pageWrite p h.off h.aligned w d) { d with held := d.held.filter (fun h => decide (h.page ≠ p)) }

/-- An abort of a page ends (R42 to R46), and the writes held behind it are made. -/
def abortEnds (p : Nat) (d : Device) : Device := releaseHeld p (abortFinish p d)
def abortForced (p : Nat) (d : Device) : Device := releaseHeld p (forceAbort p d)

/-! ## Accesses by page as commands -/

/-- A write of an aligned word by a requester to an addressed page; an unmapped page is a decode error (R22, R582). -/
def writePage (p off : Nat) (w : Wr) (d : Device) : Device :=
  if pageMapped d p then pageWrite p off true w d else answer (.error .decode) d

/-- A read of an aligned word. -/
def readPage (p off : Nat) (who : Requester) (d : Device) : Device :=
  if pageMapped d p then
    let r := pageRead p off true who d
    answer (.data r.2 false) r.1
  else answer (.error .decode) d

end Sys2Proof.Machine
end

