-- ==== Sys2Proof/Machine/Settle.lean ====
section
/-! DEFINITION. What follows a command within its instant: MEM copies of streams whose trigger occurred (R497, R502), and EDGE entries of
what moved at the gate outputs (R497). -/

namespace Sys2Proof.Machine

/-- One word of a region: its bytes and poison; a word that no memory answers is poisoned, its bytes open. DESIGN CHOICE (log 7). DESIGN
CHOICE (log 75). -/
def copyWord (m : Memory) (w : Nat) (d : Device) : (List Byte × Bool) × Device :=
  match readMem (8 * w) 8 m d with
  | some r => ((r.1.bytes, r.1.poison), r.2)
  | none =>
    let a := freeNext d
    let b := freeNext a.2
    ((bytesLE 4 a.1.toNat ++ bytesLE 4 b.1.toNat, true), b.2)

/-- The words of a region, in order. DESIGN CHOICE (log 75). -/
def copyWords (m : Memory) : List Nat → Device → List (List Byte × Bool) × Device
  | [], d => ([], d)
  | w :: ws, d =>
    let r := copyWord m w d
    let rs := copyWords m ws r.2
    (r.1 :: rs.1, rs.2)

/-- One copy of stream s is made; a poisoned one carries its poison map. -/
def copyOne (m : Memory) (s : Nat) (d : Device) : Device :=
  let a := bulkBase + fld (stRd d s Reg.STREAM.SRC_A) 0 26
  let r := copyWords m (wordsOf a (stRd d s Reg.STREAM.SRC_B).toNat) d
  let bad := r.1.map (fun x => x.2)
  let bytes := r.1.flatMap (fun x => x.1)
  if bad.any (fun b => b) then streamEntry s r.2.time.now (fun _ => bytes ++ padTo 8 (poisonMap bad)) 1 r.2
  else streamEntry s r.2.time.now (fun _ => bytes) 0 r.2

/-- The copies that are due are made. -/
def copyDue (m : Memory) (d : Device) : Device :=
  forEach ((List.range 16).filter (fun s => decide ((streamOf d s).memDue ≠ []))) (fun s d =>
    let n := (streamOf d s).memDue.length
    forEach (List.range n) (fun _ d => copyOne m s d) (setStream s { streamOf d s with memDue := [] } d)) d

/-- A command that can move gate outputs or raise events of the trigger network; `onNetR` is one that also reads memory. -/
def onNetR (f : Memory → Device → Device) (s : State) : Host.Outcome State Fault Refusal :=
  onDevR (fun m d => copyDue m (withEdges (f m) d)) s
def onNet (f : Device → Device) (s : State) : Host.Outcome State Fault Refusal := onNetR (fun _ => f) s

/-- A command that can move gate outputs only. -/
def onEdges (f : Device → Device) (s : State) : Host.Outcome State Fault Refusal := onDev (withEdges f) s

end Sys2Proof.Machine
end

