-- ==== Sys2Proof/Machine/Bus.lean ====
section
/-! DEFINITION. Accesses at local and fabric addresses (spec/01, R21 to R26, R30; spec/13, R478 to R480; spec/15, R528 to R530), with the
statuses of R483, and the scans of the check-value units (spec/12, R446, R453). -/

namespace Sys2Proof.Machine

/-- The device and its memories. -/
abbrev DM := Device × Memory

/-! ## Statuses (R483) -/

def stOk : Nat := 0
def stDecode : Nat := 0x0201
def stRouting : Nat := 0x0202
def stTimeout : Nat := 0x0203

/-- The status of a page write from what it answered. -/
def respStatus (r : Response) : Nat :=
  match r with
  | .error (.refused c) => 0x0100 + c
  | .error .decode => stDecode
  | .error .route => stRouting
  | .error .timeout => stTimeout
  | .error .acl => 0x0301
  | _ => stOk

/-! ## Address map (R21 to R26) -/

/-- The parts of a fabric address. DEDUCED (log 99). -/
def destOf (fa : Nat) : Nat := fa / 2 ^ 36 % 4096
def localOf (fa : Nat) : Nat := fa % 2 ^ 36

/-- The access is performed by this device itself. DEDUCED (log 99). -/
def isHome (d : Device) (dest : Nat) : Bool := decide (dest = 0xFFF) || decide (dest = myId d)

/-- A range lies in the page range. -/
def inPages (a : Nat) : Bool := decide (pageBase ≤ a) && decide (a < pageBase + 0x1000000)

/-- The pages that a range touches, as page numbers. -/
def pagesOf (a n : Nat) : List Nat :=
  (List.range ((a + n - 1 - pageBase) / 4096 - (a - pageBase) / 4096 + 1)).map (fun i => (a - pageBase) / 4096 + i)

/-- Every address of a range answers the access (R22, R23). -/
def rangeOk (d : Device) (a n : Nat) (write : Bool) : Bool :=
  if inPages a then decide (a + n ≤ pageBase + 0x1000000) && (pagesOf a n).all (pageMapped d)
  else (wordsOf a n).all (fun w => ramOk d (8 * w)) || (!write && (wordsOf a n).all (fun w => romOk d (8 * w)))

/-- The aligned words of a range of registers. -/
def regsOf (a n : Nat) : List Nat := (List.range (n / 4)).map (fun i => a + 4 * i)

/-- A write of the range would be held behind an abort (R45). -/
def writeWaits (d : Device) (a n : Nat) : Bool :=
  inPages a && (regsOf (a / 4 * 4) (max 4 n)).any (fun x => holds d ((x - pageBase) / 4096) ((x - pageBase) % 4096))

/-! ## Reads -/

/-- What a read brings: bytes, or an error's status. -/
inductive Got where
  | ok (r : ReadOut)
  | err (status : Nat)
  deriving DecidableEq, Repr

/-- Registers are read in ascending order (R30), within one command: nothing happens between the words of a block, which R47 does not
promise to be taken at one instant. DESIGN CHOICE (log 136). -/
def readRegs (who : Requester) : List Nat → Device → List Byte × Device
  | [], d => ([], d)
  | x :: xs, d =>
    let r := pageRead ((x - pageBase) / 4096) ((x - pageBase) % 4096) true who d
    let rs := readRegs who xs r.1
    (bytesLE 4 r.2.toNat ++ rs.1, rs.2)

/-- A read of n bytes at local address a. A read of registers that is not of aligned words is a bad access and brings 0 (R30). DEDUCED (log 32). -/
def readAt (who : Requester) (a n : Nat) (m : Memory) (d : Device) : Device × Got :=
  if inPages a then
    if ¬ rangeOk d a n false then (d, .err stDecode)
    else if a % 4 ≠ 0 ∨ n % 4 ≠ 0 then
      ((pageRead ((a - pageBase) / 4096) ((a - pageBase) % 4096) false who d).1,
        .ok { bytes := List.replicate n 0#8, bad := (wordsOf a n).map (fun _ => false) })
    else
      let r := readRegs who (regsOf a n) d
      (r.2, .ok { bytes := r.1, bad := (wordsOf a n).map (fun _ => false) })
  else match readMem a n m d with
    | some r => (r.2, .ok r.1)
    | none => (d, .err stDecode)

/-! ## Writes -/

/-- Registers are written in ascending order, as far as the first refusal (R30, R479), within one instant. DESIGN CHOICE (log 136). -/
def writeRegs (who : Requester) : List (Nat × List Byte × Bool) → Nat → Device → Device × Nat × Nat
  | [], n, d => (d, stOk, n)
  | (x, bs, p) :: xs, n, d =>
    let d := pageWrite ((x - pageBase) / 4096) ((x - pageBase) % 4096) true { who := who, data := wd (numLE bs), poison := p } d
    let st := respStatus d.resp
    if st = stOk then writeRegs who xs (n + 4) d else (d, st, n)

/-- A write of bytes at local address a; `bad` marks the poisoned ones of the words touched. Answers the status and the number of
bytes written. DEDUCED (log 32). -/
def writeAt (who : Requester) (a : Nat) (bytes : List Byte) (bad : List Bool) (s : DM) : DM × Nat × Nat :=
  let n := bytes.length
  if inPages a then
    if ¬ rangeOk s.1 a n true then (s, stDecode, 0)
    else if a % 4 ≠ 0 ∨ n % 4 ≠ 0 then
      let d := pageWrite ((a - pageBase) / 4096) ((a - pageBase) % 4096) false { who := who, data := wd (numLE bytes), poison := false } s.1
      ((d, s.2), respStatus d.resp, 0)
    else
      let r := writeRegs who ((regsOf a n).zipIdx.map (fun e => (e.1, slice bytes (4 * e.2) 4, bad.getD (e.1 / 8 - a / 8) false))) 0 s.1
      ((r.1, s.2), r.2)
  else match writeMem a bytes (fun i => bad.getD i false) s with
    | some s => (s, stOk, n)
    | none => (s, stDecode, 0)

/-- The word that a read-modify-write stores (R478). DEDUCED (log 76). -/
def rmwWord (old mask data : Word) : Word := (old &&& ~~~ mask) ||| (data &&& mask)

/-- A read-modify-write of one aligned word, as one access (R478). A write that R31 refuses leaves the read undone. DEDUCED (log 77). -/
def rmwAt (who : Requester) (a : Nat) (mask data : Word) (poison : Bool) (s : DM) : DM × Got :=
  if inPages a then
    let p := (a - pageBase) / 4096
    let off := (a - pageBase) % 4096
    let aligned := decide (a % 4 = 0)
    if ¬ pageMapped s.1 p then (s, .err stDecode)
    else
      let w : Wr := { who := who, data := data, poison := poison }
      match refusal s.1 p off aligned w with
      | some c => ((checkedWrite p off aligned w s.1, s.2), .err (0x0100 + c))
      | none =>
        let r := pageRead p off true who s.1
        let d := checkedWrite p off true { w with data := rmwWord r.2 mask data } r.1
        let st := respStatus d.resp
        ((d, s.2), if st = stOk then .ok { bytes := bytesLE 4 r.2.toNat, bad := [false] } else .err st)
  else match readMem a 4 s.2 s.1 with
    | none => (s, .err stDecode)
    | some r =>
      let new := rmwWord (wd (numLE r.1.bytes)) mask data
      match writeMem a (bytesLE 4 new.toNat) (fun _ => poison) s with
      | some s => (s, .ok r.1)
      | none => (s, .err stDecode)

/-! ## Scans of check-value units (R446, R453) -/

def scanOf (d : Device) (c : Nat) : CvuScan := d.cvuScan.get (fun _ => {}) c
def setScan (c : Nat) (x : CvuScan) (d : Device) : Device := { d with cvuScan := d.cvuScan.set (fun _ => {}) c x }

/-- CVU c as a requester. DESIGN CHOICE (log 10). DESIGN CHOICE (log 78). -/
def cvuReq (d : Device) (c : Nat) : Requester := ownReq d .master (Config.masterNo c)

/-- The reads that a contiguous piece takes: one for each 64-bit word of memory, or for each register. -/
def pieceReads (fa n : Nat) : List (Nat × Nat) :=
  let g := if inPages (localOf fa) then 4 else 8
  (List.range ((fa + n - 1) / g - fa / g + 1)).map (fun i =>
    let lo := max fa ((fa / g + i) * g)
    let hi := min (fa + n) ((fa / g + i + 1) * g)
    (lo, hi - lo))

/-- The reads still to be made once k bytes have been read. -/
def dropReads : Nat → List (Nat × Nat) → List (Nat × Nat)
  | _, [] => []
  | k, r :: rs => if k < r.2 then r :: rs else dropReads (k - r.2) rs
def readsLeft (d : Device) (c : Nat) : List (Nat × Nat) :=
  dropReads (scanOf d c).got.length ((cvuPieces d c).flatMap (fun p => pieceReads p.1 p.2))

/-- The scan has met a fault or read all there is. -/
def scanOver (d : Device) (c : Nat) : Bool := (scanOf d c).fault.isSome || decide (readsLeft d c = [])

/-- The address of the word that a read at an address reads: 64 bits of memory, or a register (R453). -/
def scanWord (fa : Nat) : Nat := if inPages (localOf fa) then fa / 4 * 4 else fa / 8 * 8

/-- What a read brought joins the scan, or ends it. DESIGN CHOICE (log 78). -/
def scanTake (c fa : Nat) (g : Got) (d : Device) : Device :=
  let x := scanOf d c
  match g with
  | .err st => setScan c { x with fault := some (if st = stDecode then 2 else 3, scanWord fa) } d
  | .ok r => if r.poison then setScan c { x with fault := some (1, scanWord fa) } d else setScan c { x with got := x.got ++ r.bytes } d

/-- The scan goes on through its reads until one must come from another device. DESIGN CHOICE (log 78). -/
def scanReads (c : Nat) (m : Memory) : List (Nat × Nat) → Device → Device
  | [], d => d
  | (fa, n) :: rs, d =>
    if isHome d (destOf fa) then
      let r := readAt (cvuReq d c) (localOf fa) n m d
      let d := scanTake c fa r.2 r.1
      if (scanOf d c).fault.isSome then d else scanReads c m rs d
    else
      let r := issueReq (.cvu c) (cvuReq d c) (destOf fa) 0 1 (localOf fa) n 0 [] d
      match r.2 with
      | some _ => r.1
      | none => scanTake c fa (.err stRouting) r.1

/-- A busy CVU scans as far as it can, until an abort stops it (R455). DESIGN CHOICE (log 78). -/
def scanOn (c : Nat) (m : Memory) (d : Device) : Device :=
  if cvuBusyB d c ∧ (d.aborts.find? (pgCvu c)).isNone ∧ ¬ cvuRemote d c ∧ ¬ (scanOf d c).fault.isSome then scanReads c m (readsLeft d c) d else d
def scanAll (m : Memory) (d : Device) : Device := forEach (List.range 8) (fun c d => scanOn c m d) d

/-- A scan that is over is reported (R448 to R453). DESIGN CHOICE (log 78). -/
def scanReport (c : Nat) (d : Device) : Device :=
  if cvuBusyB d c ∧ scanOver d c then
    let x := scanOf d c
    let d := { d with cvuScan := d.cvuScan.erase c }
    match x.fault with
    | some f => cvuComplete c (.fault f.1 f.2) d
    | none => cvuComplete c (.bytes x.got) d
  else d

end Sys2Proof.Machine
end

