-- ==== Sys2Proof/Machine/Kwesyn.lean ====
section
/-! DEFINITION. What each Kwesyn operation computes (spec/10): results as functions of operand values, with whether the result was
clamped (R354); the multiplier and accumulator operations on 72-bit values; the long operations (R378); and the lengths of encoded
instructions (R360, R363, R369). -/

namespace Sys2Proof.Machine

/-! ## Values -/

/-- A result and whether it was clamped to its type's range. -/
abbrev Res := Word × Bool

/-- A result that cannot be clamped. -/
def plain (w : Word) : Res := (w, false)

/-- Saturation of an exact value to int32 or frac32. -/
def sat32 (v : Int) : Res := (wdI (satI 32 v), decide (satI 32 v ≠ v))

/-- A sum or difference that wraps, or saturates under `sat` (R355). -/
def wrapOrSat (sat : Bool) (v : Int) : Res := if sat then sat32 v else plain (wdI v)

/-- The lanes of a packed word as signed numbers. -/
def laneLo (w : Word) : Int := signed 16 w.toNat
def laneHi (w : Word) : Int := signed 16 (w.toNat / 65536)

/-- A packed result out of exact lane values: saturated lanes, or wrapped ones. -/
def lanes (sat : Bool) (lo hi : Int) : Res :=
  if sat then (wd (wrapN 16 (satI 16 lo) + 65536 * wrapN 16 (satI 16 hi)), decide (satI 16 lo ≠ lo) || decide (satI 16 hi ≠ hi))
  else plain (wd (wrapN 16 lo + 65536 * wrapN 16 hi))

/-- A truth value as a comparison writes it (R384). -/
def truth (b : Bool) : Res := plain (if b then 1#32 else 0#32)

/-- Shift amounts are taken from the low 5 bits. -/
def shamt (w : Word) : Nat := w.toNat % 32

/-! ## ALU -/

def kwMov (a : Word) : Res := plain a
def kwMovi (imm : Word) : Res := plain imm
def kwMovhi (d imm : Word) : Res := plain (wd (imm.toNat % 65536 * 65536 + d.toNat % 65536))
def kwSextB (a : Word) : Res := plain (wdI (signed 8 a.toNat))
def kwSextH (a : Word) : Res := plain (wdI (signed 16 a.toNat))
def kwZextB (a : Word) : Res := plain (wd (a.toNat % 256))
def kwZextH (a : Word) : Res := plain (wd (a.toNat % 65536))
def kwAddI32 (sat : Bool) (a b : Word) : Res := wrapOrSat sat (sw a + sw b)
def kwSubI32 (sat : Bool) (a b : Word) : Res := wrapOrSat sat (sw a - sw b)
def kwAddQ31 (a b : Word) : Res := sat32 (sw a + sw b)
def kwSubQ31 (a b : Word) : Res := sat32 (sw a - sw b)
def kwAddI16x2 (sat : Bool) (a b : Word) : Res := lanes sat (laneLo a + laneLo b) (laneHi a + laneHi b)
def kwSubI16x2 (sat : Bool) (a b : Word) : Res := lanes sat (laneLo a - laneLo b) (laneHi a - laneHi b)
def kwAddQ15x2 (a b : Word) : Res := lanes true (laneLo a + laneLo b) (laneHi a + laneHi b)
def kwSubQ15x2 (a b : Word) : Res := lanes true (laneLo a - laneLo b) (laneHi a - laneHi b)
def kwNegI32 (sat : Bool) (a : Word) : Res := wrapOrSat sat (-(sw a))
def kwNegQ31 (a : Word) : Res := sat32 (-(sw a))
def kwAbsI32 (sat : Bool) (a : Word) : Res := wrapOrSat sat ((sw a).natAbs : Int)
def kwAbsQ31 (a : Word) : Res := sat32 ((sw a).natAbs : Int)
def kwMinI32 (a b : Word) : Res := plain (if sw a < sw b then a else b)
def kwMaxI32 (a b : Word) : Res := plain (if sw a < sw b then b else a)
def kwMinuU32 (a b : Word) : Res := plain (if a.toNat < b.toNat then a else b)
def kwMaxuU32 (a b : Word) : Res := plain (if a.toNat < b.toNat then b else a)
def kwAnd (a b : Word) : Res := plain (a &&& b)
def kwOr (a b : Word) : Res := plain (a ||| b)
def kwXor (a b : Word) : Res := plain (a ^^^ b)
def kwAndn (a b : Word) : Res := plain (a &&& ~~~ b)
def kwShl (sat : Bool) (a b : Word) : Res := wrapOrSat sat (sw a * 2 ^ shamt b)
def kwShr (a b : Word) : Res := plain (wd (a.toNat / 2 ^ shamt b))
def kwSra (a b : Word) : Res := plain (wdI (sw a / 2 ^ shamt b))
def kwShlQ31 (a b : Word) : Res := sat32 (sw a * 2 ^ shamt b)
def kwSeq (a b : Word) : Res := truth (decide (a = b))
def kwSne (a b : Word) : Res := truth (decide (a ≠ b))
def kwSlt (a b : Word) : Res := truth (decide (sw a < sw b))
def kwSltu (a b : Word) : Res := truth (decide (a.toNat < b.toNat))
def kwSge (a b : Word) : Res := truth (decide (sw b ≤ sw a))
def kwSgeu (a b : Word) : Res := truth (decide (b.toNat ≤ a.toNat))
def kwClz (a : Word) : Res := plain (wd (32 - ((List.range 33).find? (fun n => decide (a.toNat < 2 ^ n))).getD 32))
def kwNot (a : Word) : Res := plain (~~~ a)

/-- An ALU operation on w registers: `x` is d as it stood (for `movhi`), then a, b, the immediate, and SAT. -/
def aluEval (op : Nat) (x a b imm : Word) (sat : Bool) : Option Res :=
  match op with
  | 0x01 => some (kwMov a) | 0x02 => some (kwMovi imm) | 0x03 => some (kwMovhi x imm)
  | 0x0C => some (kwSextB a) | 0x0D => some (kwSextH a) | 0x0E => some (kwZextB a) | 0x0F => some (kwZextH a)
  | 0x10 => some (kwAddI32 sat a b) | 0x11 => some (kwSubI32 sat a b) | 0x12 => some (kwAddQ31 a b) | 0x13 => some (kwSubQ31 a b)
  | 0x14 => some (kwAddI16x2 sat a b) | 0x15 => some (kwSubI16x2 sat a b)
  | 0x16 => some (kwAddQ15x2 a b) | 0x17 => some (kwSubQ15x2 a b)
  | 0x18 => some (kwNegI32 sat a) | 0x19 => some (kwNegQ31 a) | 0x1A => some (kwAbsI32 sat a) | 0x1B => some (kwAbsQ31 a)
  | 0x1C => some (kwMinI32 a b) | 0x1D => some (kwMaxI32 a b) | 0x1E => some (kwMinuU32 a b) | 0x1F => some (kwMaxuU32 a b)
  | 0x20 => some (kwAnd a b) | 0x21 => some (kwOr a b) | 0x22 => some (kwXor a b) | 0x23 => some (kwAndn a b)
  | 0x24 => some (kwShl sat a b) | 0x25 => some (kwShr a b) | 0x26 => some (kwSra a b) | 0x27 => some (kwShlQ31 a b)
  | 0x28 => some (kwSeq a b) | 0x29 => some (kwSne a b) | 0x2A => some (kwSlt a b) | 0x2B => some (kwSltu a b)
  | 0x2C => some (kwSge a b) | 0x2D => some (kwSgeu a b) | 0x2E => some (kwClz a) | 0x2F => some (kwNot a)
  | 0x30 => some (kwAddI32 sat a imm) | 0x31 => some (kwAnd a imm) | 0x32 => some (kwOr a imm) | 0x33 => some (kwXor a imm)
  | 0x34 => some (kwShl sat a imm) | 0x35 => some (kwShr a imm) | 0x36 => some (kwSra a imm)
  | 0x37 => some (kwSeq a imm) | 0x38 => some (kwSne a imm) | 0x39 => some (kwSlt a imm) | 0x3A => some (kwSltu a imm)
  | _ => none

/-! ## Wide values (R352, R353, R373) -/

def w72 (v : Int) : Nat := wrapN 72 v
def s72 (v : Nat) : Int := signed 72 v

/-- Saturation to the 72-bit range. -/
def sat72 (v : Int) : Nat × Bool := (w72 (satI 72 v), decide (satI 72 v ≠ v))

/-- `round_q31` (R353). -/
def roundQ31 (mode : Nat) (v : Nat) : Res := sat32 (rndFrac mode (s72 v) (2 ^ 31))

/-- The words of a wide value. -/
def wideLo (v : Nat) : Res := plain (wd v)
def wideHi (v : Nat) : Res := plain (wd (v / 2 ^ 32))
def wideG (v : Nat) : Res := plain (wdI (signed 8 (v / 2 ^ 64)))

def mulI32 (a b : Word) : Nat × Bool := (w72 (sw a * sw b), false)
def mulU32 (a b : Word) : Nat × Bool := (a.toNat * b.toNat, false)
def mulQ31 (a b : Word) : Nat × Bool := mulI32 a b
def macI32 (m : Nat) (a b : Word) : Nat × Bool := (w72 (s72 m + sw a * sw b), false)
def macU32 (m : Nat) (a b : Word) : Nat × Bool := (w72 (s72 m + (a.toNat * b.toNat : Nat)), false)
def macQ31 (m : Nat) (a b : Word) : Nat × Bool := sat72 (s72 m + sw a * sw b)
def msuQ31 (m : Nat) (a b : Word) : Nat × Bool := sat72 (s72 m - sw a * sw b)
def dmacQ15x2 (m : Nat) (a b : Word) : Nat × Bool :=
  sat72 (s72 m + (laneLo a * laneLo b + laneHi a * laneHi b) * 2 ^ 32)
def mtmVal (a : Word) : Nat × Bool := (w72 (sw a * 2 ^ 31), false)
def accAdd (acc m : Nat) : Nat × Bool := sat72 (s72 acc + s72 m)
def accSub (acc m : Nat) : Nat × Bool := sat72 (s72 acc - s72 m)

/-! ## Long operations (R378) -/

/-- What a long operation gives: its value, whether it was clamped, whether it divided by zero. -/
structure LongRes where
  v : Nat
  sat : Bool
  zero : Bool
  deriving DecidableEq, Repr

def longW (r : Res) : LongRes := ⟨r.1.toNat, r.2, false⟩
def longZero : LongRes := ⟨0, false, true⟩

def divI32 (a b : Word) : LongRes :=
  if b = 0#32 then longZero else longW (plain (wdI (Int.tdiv (sw a) (sw b))))
def remI32 (a b : Word) : LongRes :=
  if b = 0#32 then longZero else longW (plain (wdI (Int.tmod (sw a) (sw b))))
def divU32 (a b : Word) : LongRes := if b = 0#32 then longZero else longW (plain (wd (a.toNat / b.toNat)))
def remU32 (a b : Word) : LongRes := if b = 0#32 then longZero else longW (plain (wd (a.toNat % b.toNat)))
def divQ31 (mode : Nat) (a b : Word) : LongRes :=
  if b = 0#32 then longZero
  else longW (sat32 (rndFrac mode ((if sw b < 0 then -(sw a) else sw a) * 2 ^ 31) (sw b).natAbs))

/-- The integer square root of a number below 2^(2n), from its highest bit down. -/
def isqrt (n v : Nat) : Nat :=
  (List.range n).foldl (fun q i => let t := q + 2 ^ (n - 1 - i); if t * t ≤ v then t else q) 0

def sqrtQ31 (mode : Nat) (a : Word) : LongRes :=
  if sw a < 0 then ⟨0, true, false⟩
  else
    let v := a.toNat * 2 ^ 31
    let q := isqrt 32 v
    longW (sat32 (if (mode = 1 ∨ mode = 2) ∧ q * q + q < v then q + 1 else q))

def rcpQ31 (mode : Nat) (a : Word) : LongRes :=
  if a.toNat ≤ 0x80000000 then ⟨0xFFFFFFFF, true, false⟩
  else longW (plain (wdI (rndFrac mode (2 ^ 63) a.toNat)))

/-- A register pair as a signed number (R352). -/
def pairVal (lo hi : Word) : Int := signed 64 (lo.toNat + hi.toNat * 2 ^ 32)

def lmacQ63 (mode : Nat) (acc : Nat) (x y : Int) : LongRes :=
  let r := sat72 (s72 acc + rndFrac mode (x * y) (2 ^ 64))
  ⟨r.1, r.2, false⟩

/-! ## Branch conditions (R384) -/

/-- DEDUCED (log 64). -/
def branchTaken (op : Nat) (x y : Word) : Bool :=
  match op with
  | 0x75 => decide (x = 0#32) | 0x76 => decide (x ≠ 0#32)
  | 0x77 => decide (x = y) | 0x78 => decide (x ≠ y)
  | 0x79 => decide (sw x < sw y) | 0x7A => decide (sw y ≤ sw x)
  | 0x7B => decide (x.toNat < y.toNat) | 0x7C => decide (y.toNat ≤ x.toNat)
  | _ => true

/-! ## Encodings -/

/-- The compact form of an opcode (R363, R373): 0 N, 1 K, 2 R, 3 I, 4 J; none for a reserved opcode (R374). -/
def compactForm (op : Nat) : Option Nat :=
  if op = 0x00 ∨ op = 0x72 ∨ op = 0x7F ∨ op = 0x80 ∨ op = 0x81 then some 0
  else if op = 0x7E then some 1
  else if op = 0x02 ∨ op = 0x03 ∨ (0x30 ≤ op ∧ op ≤ 0x3A) ∨ (0x50 ≤ op ∧ op ≤ 0x59) ∨ (0x75 ≤ op ∧ op ≤ 0x7D) then some 3
  else if op = 0x70 ∨ op = 0x71 then some 4
  else if op ≤ 0x2F ∨ (0x40 ≤ op ∧ op ≤ 0x4D) ∨ op = 0x5A ∨ op = 0x5B ∨ (0x60 ≤ op ∧ op ≤ 0x67) ∨ op = 0x73 ∨ op = 0x74 ∨
      op = 0x82 ∨ op = 0x83 then some 2
  else none

/-- The length of a compact form without prefixes. -/
def formLen (form : Nat) (wide : Bool) : Nat :=
  match form with
  | 0 => 1 | 1 => 2 | 2 => 3
  | 3 => if wide then 7 else 5
  | _ => if wide then 5 else 3

/-- Bytes of an instruction's prefixes (R360, R361). -/
def prefixLen (e : Enc) : Nat := b2n e.rep + b2n e.sat + (if e.rnd.isSome then 2 else 0) + b2n e.wide

/-- An opcode byte that R374 reserves: in the compact encoding, or as OP of a syllable. -/
def reservedOp (plan : Bool) (b : Nat) : Bool :=
  (compactForm b).isNone && !(if plan then decide (0xF0 ≤ b) else decide (0xF0 ≤ b) && decide (b ≤ 0xF3)) ||
    (plan && (decide (b = 0x02) || decide (b = 0x03)))

/-- The instruction shows a reserved opcode in place of its own. -/
def showsReserved (plan : Bool) (i : KInst) : Bool :=
  match i.enc.reserved with
  | some b => reservedOp plan b.toNat
  | none => false

/-- The length of a compact instruction; a reserved opcode byte ends one. -/
def compactLen (i : KInst) : Nat :=
  prefixLen i.enc + if showsReserved false i then 1 else formLen ((compactForm i.op).getD 0) i.enc.wide

/-- Bits of the immediate as the encoding has it (R360, R363, R368): the compact forms I and J 16, or 32 with `wide`; bundle form L 16,
form J 20, forms I and B 10. -/
def immBits (plan : Bool) (i : KInst) : Nat :=
  if ¬ plan then (if i.enc.wide then 32 else 16)
  else if i.op = 0x02 ∨ i.op = 0x03 then 16
  else if i.op = 0x70 ∨ i.op = 0x71 then 20
  else 10

/-- The instruction with the immediate that its encoding can hold, sign-extended; `trap` has its k8. -/
def asCoded (plan : Bool) (i : KInst) : KInst :=
  if i.op = 0x7E then i else { i with imm := wdI (signed (immBits plan i) i.imm.toNat) }

/-- The length of the compact instruction that bytes spell; its prefixes are counted first. -/
def codedLen : Nat → List Byte → Bool → Nat
  | 0, _, _ => 1
  | _, [], _ => 1
  | n + 1, b :: bs, wide =>
    if b.toNat = 0xF0 ∨ b.toNat = 0xF1 then 1 + codedLen n bs wide
    else if b.toNat = 0xF2 then 2 + codedLen n (bs.drop 1) wide
    else if b.toNat = 0xF3 then 1 + codedLen n bs true
    else formLen ((compactForm b.toNat).getD 0) wide

/-- The class of an operation (R373): 0 ALU, 2 MUL, 3 LSU, 4 flow or system, 5 LONG. -/
def opClass (op : Nat) : Nat :=
  if op < 0x40 then 0 else if op < 0x50 then 2 else if op < 0x60 then 3 else if op < 0x70 then 5 else 4

/-- Operations that R361 allows `sat` or a rounding override before. -/
def satAllowed (op : Nat) : Bool := [0x10, 0x11, 0x18, 0x1A, 0x14, 0x15, 0x24, 0x34, 0x30].contains op
def rndAllowed (op : Nat) : Bool := [0x07, 0x0B, 0x64, 0x65, 0x66, 0x67].contains op

/-- The prefixes or bits of an instruction are in order (R361, R362, R368): form I of a bundle has no SAT bit. -/
def encOk (plan : Bool) (i : KInst) : Bool :=
  !i.enc.bad && (!i.enc.sat || (satAllowed i.op && !(plan && compactForm i.op = some 3))) && (!i.enc.rnd.isSome || rndAllowed i.op) &&
    (match i.enc.rnd with | some m => decide (m.toNat ≤ 3) | none => true) &&
    (if plan then !i.enc.rep && !i.enc.wide &&
        (if opClass i.op = 0 then decide (i.enc.unit.val ≤ 1) else decide (i.enc.unit.val = opClass i.op))
     else (!i.enc.rep || decide (opClass i.op = 0) || decide (opClass i.op = 2) || decide (opClass i.op = 3)) &&
        (!i.enc.wide || ((compactForm i.op = some 3 || compactForm i.op = some 4) && decide (i.op ≠ 0x03))) &&
        decide (prefixLen i.enc ≤ 3))

/-- Register fields within their classes (R364): m operands below 8, a operands below 4, pairs even. -/
def fieldsOk (i : KInst) : Bool :=
  let m := fun r => decide (r < 8)
  let a := fun r => decide (r < 4)
  let e := fun r => decide (r % 2 = 0)
  match i.op with
  | 0x04 | 0x05 | 0x06 | 0x07 => m i.a
  | 0x08 | 0x09 | 0x0A | 0x0B => a i.a
  | 0x40 | 0x41 | 0x42 | 0x43 | 0x44 | 0x45 | 0x46 | 0x47 | 0x48 | 0x49 => m i.d
  | 0x4A | 0x4B => a i.d && m i.a
  | 0x4C | 0x4D => a i.d
  | 0x58 | 0x59 => e i.d
  | 0x67 => a i.d && e i.a && e i.b
  | 0x7E => decide (i.imm.toNat ≤ 127)
  | _ => true

end Sys2Proof.Machine
end

