-- ==== Sys2Proof/Machine/CoreMem.lean ====
section
/-! DEFINITION. What a core sees of memory (spec/09, R317 to R321, R332 to R340; spec/01, R27 to R30): targets of core addresses, caches
and the line buffer, the store buffer and its drain, loads. -/

namespace Sys2Proof.Machine

/-- A plan core. -/
def planCore (k : Nat) : Bool := decide (32 ≤ k)

/-- Privilege and modes. -/
def plOf (c : Core) : Nat := fld (srOf c 0) 0 2
def detOn (d : Device) (k : Nat) : Bool := coreCtl d k 1

/-- Core k as a requester. -/
def coreReq (d : Device) (k : Nat) : Requester := ownReq d .core (Fin.ofNat 64 k)

/-! ## Core space (R27 to R29) -/

/-- What a core address names: a local address of this device or an address on another. -/
inductive Target where
  | home (a : Nat)
  | far (dest a : Nat)
  deriving DecidableEq, Repr

def Target.addr : Target → Nat
  | .home a => a
  | .far _ a => a
def Target.dest : Target → Option Nat
  | .home _ => none
  | .far x _ => some x

/-- The code store of core k: its local base and its size. -/
def codeBase (k : Nat) : Nat := if k < 32 then 0x200000000 + k / 8 * 0x1000000 else 0x208000000
def codeSize (k : Nat) : Nat := if k < 32 then 0x200000 else 0x400000
def sramSize (k : Nat) : Nat := if k < 32 then 0x10000 else 0x40000

/-- The target of a core address; none outside R27. -/
def coreTarget (d : Device) (k x : Nat) : Option Target :=
  if x < sramSize k then some (.home (0x300000000 + k * 0x100000 + x))
  else if 0x10000000 ≤ x ∧ x < 0x10000000 + codeSize k then some (.home (codeBase k + (x - 0x10000000)))
  else if 0x40000000 ≤ x ∧ x < 0x40000000 + bulkSize then some (.home (bulkBase + (x - 0x40000000)))
  else if 0xE0000000 ≤ x ∧ x < 0xF0000000 then
    let b := srOf (coreOf d k) 16
    let a := fld b 0 8 * 2 ^ 28 + (x - 0xE0000000)
    if bit b 31 ∨ isHome d (fld b 8 12) then some (.home a) else some (.far (fld b 8 12) a)
  else if 0xF0000000 ≤ x ∧ x < 0xF1000000 then some (.home (pageBase + (x - 0xF0000000)))
  else none

/-- An address of the code window. -/
def inCode (k x : Nat) : Bool := decide (0x10000000 ≤ x) && decide (x < 0x10000000 + codeSize k)

/-! ## Caches and the line buffer (R317 to R321) -/

/-- The line that a cache holds. -/
def findLine (cs : List CacheLine) (l : Nat) : Option CacheLine := cs.find? (fun x => decide (x.line = l))

/-! A lookup decodes every tag of the line's set, a read of a line the words it touches (R320, R424, R433); the layout of the arrays,
and so the word index in the log, is DESIGN CHOICE (log 143). -/

/-- A cache of core k: the D-cache (`data`) or the I-cache, and its memory ID (R429). -/
def cacheOf (k : Nat) (data : Bool) (d : Device) : List CacheLine := if data then (coreOf d k).dcache else (coreOf d k).icache
def setCache (k : Nat) (data : Bool) (cs : List CacheLine) (d : Device) : Device :=
  let c := coreOf d k
  setCore k (if data then { c with dcache := cs } else { c with icache := cs }) d
def cacheId (k : Nat) (data : Bool) : Nat := if data then 72 + k else 36 + k

/-- The stored tag of a line, decoded: the line number that the array answers. -/
def tagOf (x : CacheLine) : Decoded := rsDecode x.line { poison := false, damage := x.tagDmg }

/-- Stored word w of a line, decoded. -/
def lineWord (x : CacheLine) (w : Nat) : Decoded :=
  rsDecode (numLE (slice x.bytes (8 * w) 8)) { poison := x.bad.getD w false, damage := x.dmg.getD w 0 }

/-- Word w cannot be delivered from the cache: poison comes only from the memory copy (R320). -/
def wordLost (x : CacheLine) (w : Nat) : Bool :=
  match (lineWord x w).outcome with
  | .uncorrectable => true
  | .poisoned => !x.bad.getD w false
  | _ => false

/-- The set that holds a line: that of the line it was filled with, whatever its stored tag has become. -/
def setOf (x : CacheLine) : Nat := (x.line ^^^ x.tagDmg % 2 ^ 64) % 64

/-- Entries of the arrays by word. -/
def tagIx (x : CacheLine) : Nat := setOf x * 4 + x.way
def wordIx (x : CacheLine) (w : Nat) : Nat := tagIx x * 8 + w

/-- A line is in the set of line l, one of 64. -/
def sameSet (l : Nat) (x : CacheLine) : Bool := decide (setOf x = l % 64)

/-- The lookup of line l: every tag of its set is decoded and logged. A tag lost makes the access a miss and takes its entry, and any
copy of the line, out of the cache (R433). DEDUCED (log 72). -/
def cacheFind (k : Nat) (data : Bool) (l : Nat) (d : Device) : Option CacheLine × Device :=
  let cs := cacheOf k data d
  let set := cs.filter (sameSet l)
  let d := forEach set (fun x d => logOutcome (cacheId k data) (tagIx x) true (tagOf x) d) d
  if set.any (fun x => (tagOf x).bad) then
    (none, setCache k data (cs.filter (fun x => !(sameSet l x && ((tagOf x).bad || decide ((tagOf x).data = l))))) d)
  else (set.find? (fun x => decide ((tagOf x).data = l)), d)

/-- Line l as the cache delivers its words ws; none, a miss. A line with a word lost leaves, and is fetched again (R320). -/
def fromCache (k : Nat) (data : Bool) (l : Nat) (ws : List Nat) (d : Device) : Option CacheLine × Device :=
  let r := cacheFind k data l d
  match r.1 with
  | none => (none, r.2)
  | some x =>
    let d := forEach ws (fun w d => logOutcome (cacheId k data) (wordIx x w) false (lineWord x w) d) r.2
    if ws.any (wordLost x) then (none, setCache k data ((cacheOf k data d).erase x) d) else (some x, d)

/-- A tag of a cache answers for line l. -/
def cacheHolds (cs : List CacheLine) (l : Nat) : Bool := cs.any (fun x => sameSet l x && !(tagOf x).bad && decide ((tagOf x).data = l))

/-- The I-cache notes the way it used last in a set. -/
def noteWay (k l w : Nat) (d : Device) : Device :=
  let c := coreOf d k
  setCore k { c with lastWay := c.lastWay.set (fun _ => 4) (l % 64) w } d

/-- The way for a new line of a full set: in the I-cache never the one used last (R321, pseudo-LRU); which other is not stated.
DEDUCED (log 72). -/
def victimWay (k : Nat) (data : Bool) (l : Nat) (d : Device) : Nat × Device :=
  let r := freeNext d
  let ws := (List.range 4).filter (fun w => data || decide ((coreOf d k).lastWay.get (fun _ => 4) (l % 64) ≠ w))
  (ws.getD (r.1.toNat % ws.length) 0, r.2)

/-- A line enters a cache of 64 sets of 4: in the lowest free way, or in place of another line. DEDUCED (log 72). -/
def fillLine (k : Nat) (data : Bool) (x : CacheLine) (d : Device) : Device :=
  let set := (cacheOf k data d).filter (sameSet x.line)
  let r := match (List.range 4).find? (fun w => set.all (fun y => decide (y.way ≠ w))) with
    | some w => (w, d)
    | none => victimWay k data x.line d
  let cs := (cacheOf k data r.2).filter (fun y => !(sameSet x.line y && decide (y.way = r.1)))
  let d := setCache k data (cs ++ [{ x with way := r.1 }]) r.2
  if data then d else noteWay k x.line r.1 d

/-- The caches are on: a cache whose decoder failed its self-test never is (R437). -/
def icacheOn (d : Device) (k : Nat) : Bool := coreCtl d k 2 && !detOn d k && !decoderBad d (36 + k)
def dcacheOn (d : Device) (k : Nat) : Bool := coreCtl d k 3 && !detOn d k && !decoderBad d (72 + k)

/-- A core address lies in cached bulk SRAM (R317). -/
def cached (d : Device) (k x : Nat) : Bool :=
  let page := (x - 0x40000000) / 4096
  let unc := fun r => decide (rdF d (pgCore k) (Reg.CORE.UNC_LO r) 0 14 ≤ page) && decide (page ≤ rdF d (pgCore k) (Reg.CORE.UNC_HI r) 0 14)
  dcacheOn d k && decide (0x40000000 ≤ x) && decide (x < 0x40000000 + bulkSize) && !unc 0 && !unc 1

/-- The words of line l that n bytes at x touch. -/
def lineWords (x n l : Nat) : List Nat :=
  (List.range 8).filter (fun i => decide (64 * l + 8 * i < x + n) && decide (x < 64 * l + 8 * i + 8))

/-- Line l of the code window is fetched for n bytes at x: whether a word of them is poisoned; none, a decode error (R321). -/
def fetchLine (k x n l : Nat) (m : Memory) (d : Device) : Option Bool × Device :=
  let ws := lineWords x n l
  match findLine (coreOf d k).lbuf l with
  | some y => (some (ws.any (fun w => y.bad.getD w false)), d)
  | none =>
    let r := if icacheOn d k then fromCache k false l ws d else (none, d)
    match r.1 with
    | some y => (some (ws.any (fun w => (lineWord y w).bad)), noteWay k l y.way r.2)
    | none =>
      match readMem (codeBase k + (64 * l - 0x10000000)) 64 m r.2 with
      | none => (none, r.2)
      | some q =>
        let y : CacheLine := { line := l, bytes := [], bad := q.1.bad }
        let d := if icacheOn q.2 k then fillLine k false y q.2 else q.2
        let c := coreOf d k
        let buf := c.lbuf ++ [y]
        (some (ws.any (fun w => y.bad.getD w false)),
          bump (pgCore k) Reg.CORE.IMISS (setCore k { c with lbuf := buf.drop (buf.length - 2) } d))

/-- The lines that n bytes touch. -/
def linesOf (x n : Nat) : List Nat := (List.range ((x + n - 1) / 64 - x / 64 + 1)).map (fun i => x / 64 + i)

/-- The first of n bytes at x whose line is held neither by the line buffer nor by the I-cache and cannot be read. -/
def unfetchable (d : Device) (k x n : Nat) : Option Nat :=
  (linesOf x n).findSome? (fun l =>
    if (findLine (coreOf d k).lbuf l).isSome ∨ (icacheOn d k ∧ cacheHolds (coreOf d k).icache l) ∨
      ramOk d (codeBase k + (64 * l - 0x10000000)) then none else some (max x (64 * l)))

/-- What fetching an instruction meets. -/
inductive Fetched where
  | ok
  | fault (detail : Nat) (addr : Nat)
  | poison
  deriving DecidableEq, Repr

/-- Lines are fetched; whether a word of the n bytes at x is poisoned. -/
def fetchLines (k x n : Nat) (m : Memory) : List Nat → Device → Fetched × Device
  | [], d => (.ok, d)
  | l :: ls, d =>
    let r := fetchLine k x n l m d
    match r.1 with
    | none => (.fault 2 (max x (64 * l)), r.2)
    | some bad =>
      let rest := fetchLines k x n m ls r.2
      match rest.1 with
      | .fault a b => (.fault a b, rest.2)
      | _ => if bad then (.poison, rest.2) else rest

/-- The first of n bytes at x that is not inside [lo, hi). DEDUCED (log 66). -/
def firstOutside (x n lo hi : Nat) : Option Nat := ((List.range n).map (fun i => x + i)).find? (fun a => decide (a < lo) || decide (hi ≤ a))

/-- The deterministic window of core k (R340). -/
def detWindow (d : Device) (k : Nat) : Nat :=
  let w := rdF d (pgCore k) Reg.CORE.DET_BASE 16 6
  0x10000000 + (if k < 32 then w % 32 else w) * 0x10000

/-- The n bytes at x are fetched (R27, R339, R371, R428). DEDUCED (log 65). DEDUCED (log 66). DEDUCED (log 72). -/
def fetch (k x n : Nat) (m : Memory) (d : Device) : Fetched × Device :=
  match firstOutside x n 0x10000000 (0x10000000 + codeSize k) with
  | some a => (.fault 1 a, d)
  | none =>
    match unfetchable d k x n with
    | some a => (.fault 2 a, d)
    | none => match (if detOn d k then firstOutside x n (detWindow d k) (detWindow d k + 0x10000) else none) with
      | some a => (.fault 5 a, d)
      | none => if planCore k ∧ x % 4 ≠ 0 then (.fault 6 x, d) else fetchLines k x n m (linesOf x n) d

/-! ## The store buffer (R332 to R337) -/

/-- The core address at which bulk SRAM is cached, of a local address of this device. -/
def bulkCore (dest : Option Nat) (a : Nat) : Option Nat :=
  if dest = none ∧ bulkBase ≤ a ∧ a < bulkBase + bulkSize then some (0x40000000 + (a - bulkBase)) else none

/-- A word of a line is stored: a whole one with fresh check bytes, a part merged with the word as decoded (R425). -/
def storeLine (x : CacheLine) (o : Nat) (bytes : List Byte) (poison : Bool) : CacheLine :=
  let w := o / 8
  let old := lineWord x w
  let whole := decide (bytes.length = 8)
  let word := bytesLE 8 old.data
  let new := if whole then bytes else word.take (o % 8) ++ bytes ++ word.drop (o % 8 + bytes.length)
  { x with
    bytes := x.bytes.take (8 * w) ++ new ++ x.bytes.drop (8 * w + 8)
    bad := x.bad.take w ++ [poison || (!whole && old.bad)] ++ x.bad.drop (w + 1)
    dmg := x.dmg.take w ++ (if x.dmg.length ≤ w then [] else [0]) ++ x.dmg.drop (w + 1) }

/-- The bytes of a store reach the line that holds its word, if one does (R318, R319). A partial store decodes the word, and a line whose
word is lost leaves (R320). DEDUCED (log 71). -/
def dcacheStore (k : Nat) (dest : Option Nat) (a : Nat) (bytes : List Byte) (poison : Bool) (d : Device) : Device :=
  match bulkCore dest a with
  | none => d
  | some x =>
    let w := x % 64 / 8
    let r := if bytes.length = 8 then cacheFind k true (x / 64) d else fromCache k true (x / 64) [w] d
    match r.1 with
    | none => r.2
    | some y => setCache k true ((cacheOf k true r.2).map (fun z => if z = y then storeLine y (x % 64) bytes poison else z)) r.2

/-- A bus error of a store is noted for its boundary (R336, R410). -/
def busError (k : Nat) (core : Word) (detail : Nat) (d : Device) : Device :=
  let c := coreOf d k
  setCore k { c with imprecise := c.imprecise ++ [{ desc := 8, xaddr := core, detail := detail }] } d

/-- DETAIL of a bus error by the status of the write (R405). -/
def busDetail (st : Nat) : Nat := if st = stDecode then 1 else if st = stRouting ∨ st = stTimeout then 2 else 3

/-- A store that has ended with a status leaves its entry. -/
def storeEnds (k id st : Nat) (d : Device) : Device :=
  let c := coreOf d k
  match c.sb.find? (fun e => decide (e.id = id)) with
  | none => d
  | some e =>
    let d := setCore k { c with sb := c.sb.filter (fun e => decide (e.id ≠ id)) } d
    if st = stOk then d else busError k e.core (busDetail st) d

/-- The oldest entry of a path. -/
def sbHead (c : Core) (page : Bool) : Option StoreEnt := c.sb.find? (fun e => decide (e.page = page))

/-- An entry can drain now: its request has not left, and its target does not hold it (R45). DEDUCED (log 25). -/
def sbReady (d : Device) (e : StoreEnt) : Bool := !e.sent && (e.dest.isSome || !writeWaits d e.addr e.bytes.length)

/-- The oldest entry of a path drains: here, or as a request that a response ends (R332). -/
def drainOne (k : Nat) (page : Bool) (s : DM) : DM :=
  match sbHead (coreOf s.1 k) page with
  | none => s
  | some e =>
    if ¬ sbReady s.1 e then s
    else match e.dest with
      | none =>
        let r := writeAt (coreReq s.1 k) e.addr e.bytes [e.poison] s
        let d := dcacheStore k none e.addr e.bytes e.poison r.1.1
        (storeEnds k e.id r.2.1 d, r.1.2)
      | some dest =>
        let r := issueReq (.store k e.id) (coreReq s.1 k) dest 0 2 e.addr e.bytes.length 0 (wordsFor e.addr e.bytes [e.poison]) s.1
        match r.2 with
        | some _ =>
          let c := coreOf r.1 k
          (setCore k { c with sb := c.sb.map (fun x => if x.id = e.id then { x with sent := true } else x) } r.1, s.2)
        | none => (storeEnds k e.id stRouting r.1, s.2)

/-- A path drains as far as it can now. -/
def drainPath (k : Nat) (page : Bool) : Nat → DM → DM
  | 0, s => s
  | n + 1, s => drainPath k page n (drainOne k page s)
/-- DEDUCED (log 71). -/
def drainNow (k : Nat) (page : Bool) (s : DM) : DM := drainPath k page (coreOf s.1 k).sb.length s

/-- A path is empty. -/
def pathEmpty (c : Core) (page : Bool) : Bool := (sbHead c page).isNone

/-- Room for n stores: the oldest entries drain (R332). DEDUCED (log 71). -/
def makeRoom (k n : Nat) : Nat → DM → DM
  | 0, s => s
  | f + 1, s =>
    let c := coreOf s.1 k
    if c.sb.length + n ≤ 8 then s
    else match c.sb with
      | [] => s
      | e :: _ => makeRoom k n f (drainOne k e.page s)

/-- A store enters the buffer at retirement. -/
def pushStore (k : Nat) (core : Word) (t : Target) (bytes : List Byte) (poison : Bool) (d : Device) : Device :=
  let c := coreOf d k
  let page := inPages t.addr
  let e : StoreEnt := { id := c.nextStore, core := core, dest := t.dest, addr := t.addr, bytes := bytes, poison := poison, page := page
                        sent := false }
  let d := setCore k { c with sb := c.sb ++ [e], nextStore := c.nextStore + 1 } d
  dcacheStore k t.dest t.addr bytes poison d

/-! ## Accesses of loads and stores (R30, R334, R337, R377, R396) -/

/-- The parts of an access, split at an 8-byte boundary: core address and length. -/
def splitAt8 (x n : Nat) : List (Nat × Nat) :=
  let first := min n (8 - x % 8)
  if first = n then [(x, n)] else [(x, first), ((x + first) % 2 ^ 32, n - first)]

/-- What the core itself finds wrong with a part of an access, lowest DETAIL first (R405): outside R27 or a store to code (1), a
register-page access that is not of an aligned word (4), and U above 0xE000_0000 (7). DEDUCED (log 65). -/
def partFault (d : Device) (k x : Nat) (store word : Bool) : Option Nat :=
  match coreTarget d k x with
  | none => some 1
  | some t =>
    if store ∧ inCode k x then some 1
    else if inPages t.addr ∧ ¬ (word ∧ x % 4 = 0) then some 4
    else if plOf (coreOf d k) = 0 ∧ 0xE0000000 ≤ x ∧ ¬ rdB d (pgIcu k) Reg.ICU.CTL 1 then some 7
    else none

/-- The first fault of the parts: a part of a split access is no word (R30, R338). DEDUCED (log 33). DEDUCED (log 65). -/
def accessFault (d : Device) (k : Nat) (store word : Bool) (ps : List (Nat × Nat)) : Option (Nat × Nat) :=
  ps.findSome? (fun p => (partFault d k p.1 store (word && decide (p.2 = 4))).map (fun f => (f, p.1)))

/-- Bytes of a store and of a range overlap, at one device. -/
def overlaps (e : StoreEnt) (t : Target) (n : Nat) : Bool :=
  decide (e.dest = t.dest) && decide (e.addr < t.addr + n) && decide (t.addr < e.addr + e.bytes.length)
def contains (e : StoreEnt) (t : Target) (n : Nat) : Bool :=
  decide (e.dest = t.dest) && decide (e.addr ≤ t.addr) && decide (t.addr + n ≤ e.addr + e.bytes.length)

/-- The youngest store that a load overlaps. -/
def youngest (c : Core) (t : Target) (n : Nat) : Option StoreEnt := c.sb.reverse.find? (fun e => overlaps e t n)

/-- A load of a part must wait for the buffer: a register for the register path (R333), memory for stores that it overlaps and the
youngest of which does not contain it (R334). The path that must drain. -/
def mustDrain (c : Core) (t : Target) (n : Nat) : Option Bool :=
  if inPages t.addr then (if pathEmpty c true then none else some true)
  else match youngest c t n with
    | none => none
    | some e => if contains e t n then none else some false

/-- What a load brings: bytes and poison; a fault with its DETAIL; a read of another device to be waited for. -/
inductive Loaded where
  | ok (bytes : List Byte) (poison : Bool)
  | fault (detail : Nat) (addr : Nat)
  | need (dest a n : Nat)
  deriving DecidableEq, Repr

/-- A read of part of one word through the D-cache (R317, R318, R320). -/
def dcacheLoad (k x n : Nat) (m : Memory) (d : Device) : Loaded × Device :=
  let w := x % 64 / 8
  let take := fun (y : CacheLine) => Loaded.ok (slice (bytesLE 8 (lineWord y w).data) (x % 8) n) (lineWord y w).bad
  let r := fromCache k true (x / 64) [w] d
  match r.1 with
  | some y => (take y, r.2)
  | none =>
    match readMem (bulkBase + (x / 64 * 64 - 0x40000000)) 64 m r.2 with
    | none => (.fault 2 x, r.2)
    | some q =>
      let y : CacheLine := { line := x / 64, bytes := q.1.bytes, bad := q.1.bad }
      let d := bump (pgCore k) Reg.CORE.DMISS (fillLine k true y q.2)
      (take y, forEach (coreOf d k).sb (fun e d => dcacheStore k e.dest e.addr e.bytes e.poison d) d)

/-- The DETAIL of a read that another device refused. -/
def farDetail (code : Nat) : Nat := if code = 1 then 2 else 3

/-- A part is loaded; `got` holds what has come from other devices. A part that had to wait for stores reads memory (R334). DEDUCED (log 71). -/
def loadPart (k x n : Nat) (useCache : Bool) (m : Memory) (got : List RemoteData) (d : Device) : Loaded × List RemoteData × Device :=
  match coreTarget d k x with
  | none => (.fault 1 x, got, d)
  | some t =>
    match (if inPages t.addr then none else youngest (coreOf d k) t n) with
    | some e => (.ok (slice e.bytes (t.addr - e.addr) n) e.poison, got, d)
    | none =>
      match t with
      | .home a =>
        if useCache ∧ cached d k x ∧ x ∉ (coreOf d k).waited then
          let r := dcacheLoad k x n m d
          (r.1, got, r.2)
        else
          let r := readAt (coreReq d k) a n m d
          match r.2 with
          | .ok o => (.ok o.bytes o.poison, got, r.1)
          | .err _ => (.fault 2 x, got, d)
      | .far dest a =>
        match got with
        | .ok bs p :: rest => (.ok bs p, rest, d)
        | .err c :: rest => (.fault (farDetail c) x, rest, d)
        | [] => (.need dest a n, [], d)

/-- Parts are loaded in order; their bytes join, and any poison marks all (R337). -/
def loadParts (k : Nat) (useCache : Bool) (m : Memory) : List (Nat × Nat) → List RemoteData → Device → Loaded × List RemoteData × Device
  | [], got, d => (.ok [] false, got, d)
  | p :: ps, got, d =>
    let r := loadPart k p.1 p.2 useCache m got d
    match r.1 with
    | .ok bs bad =>
      let rs := loadParts k useCache m ps r.2.1 r.2.2
      (match rs.1 with
        | .ok bs' bad' => (.ok (bs ++ bs') (bad || bad'), rs.2)
        | x => (x, rs.2))
    | x => (x, r.2)

/-- The path that must drain before parts are loaded, if one must. -/
def partsDrain (d : Device) (k : Nat) (ps : List (Nat × Nat)) : Option Bool :=
  ps.findSome? (fun p => (coreTarget d k p.1).bind (fun t => mustDrain (coreOf d k) t p.2))

end Sys2Proof.Machine
end

