-- ==== Sys2Proof/Machine/CoreEntry.lean ====
section
/-! DEFINITION. Long operations (spec/09, R329 to R331), multiplier visibility (spec/10, R356 to R359), the taking of exceptions and
interrupts (spec/11, R397 to R405, R410, R412, R416, R419), and debug halts (R344). -/

namespace Sys2Proof.Machine

/-! ## Wide registers (R349, R356 to R359) -/

def mOf (c : Core) (r : Nat) : TaggedWide := c.m.get (fun _ => {}) r
def setM (r : Nat) (x : TaggedWide) (c : Core) : Core := { c with m := c.m.set (fun _ => {}) r x }
def accOf (c : Core) (r : Nat) : TaggedWide := c.acc.get (fun _ => {}) r
def setAcc (r : Nat) (x : TaggedWide) (c : Core) : Core := { c with acc := c.acc.set (fun _ => {}) r x }

/-- Positions between a write of m and the first reader that sees it (R356). -/
def mLatency (k : Nat) : Nat := if planCore k then 2 else 4

/-- m[r] as a reader at the present position sees it: the latest write at a position no later than s − 4 (plan core: s − 2). -/
def mSeen (k : Nat) (c : Core) (r : Nat) : TaggedWide :=
  match c.mNew.reverse.find? (fun x => decide (x.reg = r) && decide (x.pos + mLatency k ≤ c.pos)) with
  | some x => x.val
  | none => mOf c r

/-- m[r] as an accumulation onto it takes it: the latest write (R357). -/
def mLast (c : Core) (r : Nat) : TaggedWide :=
  match c.mNew.reverse.find? (fun x => decide (x.reg = r)) with
  | some x => x.val
  | none => mOf c r

/-- Writes that every later reader sees become the registers' values. -/
def settleM (k : Nat) (c : Core) : Core :=
  let old := c.mNew.filter (fun x => decide (x.pos + mLatency k ≤ c.pos))
  { old.foldl (fun c x => setM x.reg x.val c) c with mNew := c.mNew.filter (fun x => decide (c.pos < x.pos + mLatency k)) }

/-- A handler is entered, a halt takes effect or a step ends: every write is seen from now on (R359). -/
def flushM (c : Core) : Core := { c.mNew.foldl (fun c x => setM x.reg x.val c) c with mNew := [] }

/-! ## Long operations (R329, R331) -/

/-- The oldest long operation completes: its result, its saturation, its exception. -/
def longDone (k : Nat) (d : Device) : Device :=
  let c := coreOf d k
  match c.longs with
  | [] => d
  | l :: ls =>
    let c := { c with longs := ls }
    let c := match l.wdst with
      | some r => setW r { v := wd l.res.v, p := l.res.p } c
      | none => c
    let c := match l.adst with
      | some r => setAcc r l.res c
      | none => c
    let c := if l.sat then setSr 14 1#32 c else c
    let c := match l.zero with
      | some a => { c with imprecise := c.imprecise ++ [{ desc := 7, xaddr := a, detail := 0 }] }
      | none => c
    setCore k c d

/-- All complete, in order. -/
def longsDone (k : Nat) (d : Device) : Device := forEach (coreOf d k).longs (fun _ d => longDone k d) d

/-- The long operation that writes w[r] or a[r] has not completed. -/
def longOnW (c : Core) (r : Nat) : Bool := c.longs.any (fun l => decide (l.wdst = some r))
def longOnAcc (c : Core) (r : Nat) : Bool := c.longs.any (fun l => decide (l.adst = some r))

/-- A later write of w[r] or a[r] stands against a long operation's. -/
def dropLongW (r : Nat) (c : Core) : Core :=
  { c with longs := c.longs.map (fun l => if l.wdst = some r then { l with wdst := none } else l) }
def dropLongAcc (r : Nat) (c : Core) : Core :=
  { c with longs := c.longs.map (fun l => if l.adst = some r then { l with adst := none } else l) }

/-! ## Descriptors (R397 to R399) -/

/-- The outcome of work of a core: it is done; it must enter a handler; it needs a read of another device, or the response to a store. -/
inductive CoreOut where
  | done (s : DM)
  | enter (r : EntryReq) (s : DM)
  | needRead (dest a n : Nat)
  | needStores
  deriving DecidableEq, Repr

structure Desc where
  handler : Word
  newsp : Nat
  sel : Bool
  ie : Bool
  ipl : Nat
  pl : Nat
  deriving DecidableEq, Repr

/-- A descriptor as it was read: good, bad with a reason (R402), or to be waited for. -/
inductive DescRead where
  | good (x : Desc)
  | bad (reason : Nat)
  | need (dest a n : Nat)
  deriving DecidableEq, Repr

def descAddr (c : Core) (n : Nat) : Nat := (srOf c 5).toNat + 16 * n

/-- Descriptor n is read through the data port, without the D-cache. DEDUCED (log 73). -/
def readDesc (k n : Nat) (m : Memory) (got : List RemoteData) (d : Device) : DescRead × List RemoteData × Device :=
  let a := descAddr (coreOf d k) n
  let r := loadParts k false m [(a, 8), (a + 8, 8)] got d
  (match r.1 with
    | .need x y z => .need x y z
    | .fault _ _ => .bad 3
    | .ok bs p =>
      let attr := wd (numLE (slice bs 8 4))
      if p then .bad 3
      else if ¬ bit attr 31 then .bad 1
      else if fld attr 0 2 = 2 then .bad 2
      else .good { handler := wd (numLE (slice bs 0 4)), newsp := numLE (slice bs 4 4) / 16 * 16, sel := bit attr 9, ie := bit attr 8
                   ipl := fld attr 4 4, pl := fld attr 0 2 }, r.2)

/-- The descriptors that always enter M. -/
def machineFault (n : Nat) : Bool := decide (n = 8) || decide (n = 10) || decide (n = 11)

/-! ## Machine check (R419) -/

/-- DEDUCED (log 73). -/
def machineCheck (k cause : Nat) (xpc : Word) (d : Device) : Device :=
  let d := d |> wrB (pgCore k) Reg.CORE.STAT 5 true |> wr (pgIcu k) Reg.ICU.MCHK_INFO (wd cause) |> wr (pgIcu k) Reg.ICU.MCHK_PC xpc
    |> raise (pgCore k) 1
  if rdB d (pgIcu k) Reg.ICU.CTL 8 then duskCause 3 k d else d

/-! ## Entry (R400 to R404) -/

/-- XCAUSE but for SWITCHED. -/
def causeWord (r : EntryReq) : Word :=
  wd (2 ^ 30 * b2n (decide (r.desc = 7) || decide (r.desc = 8)) + r.detail % 32 * 2 ^ 24 +
    (match r.rep with
     | some n => 2 ^ 29 + n % 65536 * 256
     | none => 0) + r.desc)

/-- 16 bytes lie wholly in the core's own data SRAM or in bulk SRAM. DEDUCED (log 68). -/
def frameOk (k sp : Nat) : Bool :=
  decide (sp + 16 ≤ sramSize k) || (decide (0x40000000 ≤ sp) && decide (sp + 16 ≤ 0x40000000 + bulkSize))

/-- A word of the frame is written and drained; a failure is a bus error (R336). -/
def frameWord (k x : Nat) (v : Word) (s : DM) : DM :=
  let ps := splitAt8 x 4
  (ps.foldl (fun (st : DM × List Byte) p =>
    match coreTarget st.1.1 k p.1 with
    | none => st
    | some t =>
      let bs := st.2.take p.2
      let r := writeAt (coreReq st.1.1 k) t.addr bs [false] st.1
      let d := dcacheStore k t.dest t.addr bs false r.1.1
      let d := if r.2.1 = stOk then d else busError k (wd p.1) (busDetail r.2.1) d
      ((d, r.1.2), st.2.drop p.2)) (s, bytesLE 4 v.toNat)).1

/-- The entry of an interrupt clears its line (R416). -/
def lineTaken (k desc : Nat) (d : Device) : Device :=
  if desc < 192 then d
  else
    let l := desc - 192
    d |> wrB (pgIcu k) (pendOff l) (l % 32) false |> wr (pgIcu k) Reg.ICU.TAKEN (wd (256 + l))

/-- The frame is pushed and the handler entered. -/
def enterHandler (k : Nat) (r : EntryReq) (x : Desc) (sw : Bool) (pl sp : Nat) (s : DM) : DM :=
  let c := coreOf s.1 k
  let cause := setBit (causeWord r) 31 sw
  let base := sp - 16
  let s := s |> frameWord k base r.xpc |> frameWord k (base + 4) (srOf c 0) |> frameWord k (base + 8) cause
    |> frameWord k (base + 12) r.xaddr
  let c := flushM (coreOf s.1 k)
  let c := if sw then setSr 4 (wOf c 31).v c else c
  let st := srOf c 0
  let st := setFld (setBit (setFld st 0 2 pl) 2 x.ie) 4 4 (max x.ipl r.prio)
  let c := c |> dropLongW 31 |> setW 31 { v := wd base } |> setSr 1 r.xpc |> setSr 2 cause |> setSr 3 r.xaddr |> setSr 0 st
  (lineTaken k r.desc (setCore k { c with pc := x.handler, repLeft := none, bundle := [], waiting := false } s.1), s.2)

/-- Entry through a descriptor, with the entries that its failures lead to. DEDUCED (log 73). -/
def enterRec (k : Nat) : Nat → EntryReq → List RemoteData → DM → CoreOut
  | 0, r, _, s => .done (machineCheck k 2 r.xpc s.1, s.2)
  | f + 1, r, got, s =>
    let q := readDesc k r.desc s.2 got s.1
    let s : DM := (q.2.2, s.2)
    match q.1 with
    | .need x y z => .needRead x y z
    | .bad reason =>
      if r.desc = 11 then .done (machineCheck k 3 r.xpc s.1, s.2)
      else enterRec k f { r with desc := 11, detail := reason, xaddr := wd (descAddr (coreOf s.1 k) r.desc), prio := 0 } q.2.1 s
    | .good x =>
      let c := coreOf s.1 k
      let pl := if machineFault r.desc then 3 else max x.pl (plOf c)
      let sw := !x.sel || decide (plOf c = 0) || decide (r.desc = 10)
      let sp := if sw then x.newsp else (wOf c 31).v.toNat
      let owner := if sw then pl else plOf c
      let lim := (srOf c (if owner = 0 then 8 else if owner = 1 then 7 else 6)).toNat
      if sp < lim + 16 ∨ ¬ frameOk k (sp - 16) then
        if r.desc = 10 then .done (machineCheck k 2 r.xpc s.1, s.2)
        else if owner = 3 then .done (machineCheck k 1 r.xpc s.1, s.2)
        else enterRec k f { r with desc := 10, detail := owner, xaddr := wd sp, prio := 0 } q.2.1 s
      else .done (enterHandler k r x sw pl sp s)

/-- An entry takes place once the memory path has drained (R400). -/
def runEntry (k : Nat) (r : EntryReq) (got : List RemoteData) (s : DM) : CoreOut × DM :=
  let s := drainNow k false s
  if pathEmpty (coreOf s.1 k) false then (enterRec k 8 r got s, s) else (.needStores, s)

/-! ## Imprecise exceptions (R410 to R412) -/

/-- The next imprecise exception: long operations first. -/
def nextImprecise (c : Core) : Option Imprecise :=
  match c.imprecise.find? (fun x => decide (x.desc = 7)) with
  | some x => some x
  | none => c.imprecise.head?

/-- It leaves the list and becomes an entry that saves the given address. -/
def impreciseEntry (k : Nat) (xpc : Word) (d : Device) : Option (EntryReq × Device) :=
  let c := coreOf d k
  (nextImprecise c).map (fun x =>
    ({ desc := x.desc, xpc := xpc, detail := x.detail, xaddr := x.xaddr, prio := 0, rep := c.repLeft },
      setCore k { c with imprecise := c.imprecise.erase x } d))

/-- A precise fault at an instruction: long operations complete first, and theirs are taken before it, at the instruction (R331, R405,
R414). -/
def faultEntry (k : Nat) (r : EntryReq) (s : DM) : CoreOut :=
  let d := longsDone k s.1
  match impreciseEntry k (coreOf d k).pc d with
  | some x => .enter { x.1 with rep := r.rep } (x.2, s.2)
  | none => .enter r (d, s.2)

/-! ## Interrupts (R416) -/

/-- Line l of core k is takeable. -/
def linePrio (d : Device) (k l : Nat) : Nat := rdF d (pgIcu k) (Reg.ICU.SRC l) 16 4
def takeable (d : Device) (k l : Nat) : Bool :=
  let st := srOf (coreOf d k) 0
  linePend d k l && lineEn d k l && bit st 2 && decide (fld st 4 4 < linePrio d k l)

/-- The line to be taken: the highest priority, and of equal ones the lowest number. -/
def bestLine (d : Device) (k : Nat) : Option Nat :=
  ((List.range 64).filter (takeable d k)).foldl (fun b l =>
    match b with
    | none => some l
    | some x => if linePrio d k x < linePrio d k l then some l else some x) none

/-! ## Debug halt (R344) -/

/-- The core halts at this boundary. -/
def haltNow (k : Nat) (d : Device) : Device :=
  let c := coreOf d k
  setCore k { flushM c with haltReq := false, stepping := false } d |> wrB (pgCore k) Reg.CORE.STAT 2 true
    |> wr (pgCore k) Reg.CORE.HALT_PC c.pc |> raise (pgCore k) 0

/-- A step of DBG.STEP has ended: the core halts again, once an exception of its long operations, or of a store, has been taken (R331). -/
def stepEnds (k : Nat) (d : Device) : Device :=
  if (coreOf d k).stepping ∧ ¬ coreMchk d k then
    let d := longsDone k d
    let c := coreOf d k
    if c.imprecise = [] then haltNow k d else setCore k { c with haltReq := true, stepping := false } d
  else d

end Sys2Proof.Machine
end

