-- ==== Sys2Proof/Machine/CoreEval.lean ====
section
/-! DEFINITION. What one instruction or syllable of a core computes from the registers as they stand (spec/10, R350 to R357, R373 to R383;
spec/11, R384 to R396): its effect, or its precise fault. -/

namespace Sys2Proof.Machine

/-- Where control goes after an instruction. -/
inductive Flow where
  | next
  | jump (t : Word)
  | call (t : Word)
  | ret
  | loop (count last : Word)
  | trap (n : Nat)
  | wait
  | retx
  deriving DecidableEq, Repr

/-- A store to be buffered: core address, target, bytes, poison. -/
structure StoreReq where
  core : Word
  target : Target
  bytes : List Byte
  poison : Bool
  deriving DecidableEq, Repr

/-- What an instruction does. -/
structure KEff where
  ws : List (Nat × TaggedWord) := []
  ms : List (Nat × TaggedWide) := []
  accs : List (Nat × TaggedWide) := []
  sat : Bool := false
  longs : List LongOp := []
  stores : List StoreReq := []
  srs : List (Nat × Word) := []
  flow : Flow := .next
  deriving DecidableEq, Repr

/-- A precise fault: descriptor, DETAIL, XADDR. -/
structure KFault where
  desc : Nat
  detail : Nat
  xaddr : Word := 0#32
  deriving DecidableEq, Repr

inductive Eval where
  | eff (e : KEff)
  | fault (f : KFault)
  deriving DecidableEq, Repr

/-! ## Sources and destinations -/

/-- The w registers that an instruction reads. -/
def srcW (plan : Bool) (i : KInst) : List Nat :=
  match opClass i.op with
  | 0 =>
    if i.op = 0x00 ∨ i.op = 0x02 ∨ (0x04 ≤ i.op ∧ i.op ≤ 0x0B) then []
    else if i.op = 0x03 then [i.d]
    else if i.op = 0x01 ∨ (0x0C ≤ i.op ∧ i.op ≤ 0x0F) ∨ (0x18 ≤ i.op ∧ i.op ≤ 0x1B) ∨ i.op = 0x2E ∨ i.op = 0x2F ∨ 0x30 ≤ i.op then [i.a]
    else [i.a, i.b]
  | 2 => if i.op ≤ 0x47 then [i.a, i.b] else if i.op = 0x48 ∨ i.op = 0x4D then [i.a] else []
  | 3 =>
    if i.op ≤ 0x54 ∨ i.op = 0x58 then [i.a]
    else if i.op ≤ 0x57 then [i.a, i.d]
    else if i.op = 0x59 then [i.a, i.d, i.d + 1]
    else if i.op = 0x5A then [i.a, i.b]
    else [i.a, i.b, i.d]
  | 5 => if i.op = 0x65 ∨ i.op = 0x66 then [i.a] else if i.op = 0x67 then [i.a, i.a + 1, i.b, i.b + 1] else [i.a, i.b]
  | _ =>
    if 0x73 ≤ i.op ∧ i.op ≤ 0x76 then [i.a]
    else if 0x77 ≤ i.op ∧ i.op ≤ 0x7C then (if plan then [i.a, i.b] else [i.d, i.a])
    else if i.op = 0x7D ∨ i.op = 0x83 then [i.a]
    else if i.op = 0x7F then [31]
    else []

/-- The accumulators that an instruction reads. -/
def srcAcc (i : KInst) : List Nat :=
  if 0x08 ≤ i.op ∧ i.op ≤ 0x0B then [i.a]
  else if i.op = 0x4A ∨ i.op = 0x4B ∨ i.op = 0x67 then [i.d]
  else []

/-- The registers that an instruction writes: w0 to w31 as 0 to 31, m from 100, a from 200. -/
def dests (i : KInst) : List Nat :=
  match opClass i.op with
  | 0 => if i.op = 0 then [] else [i.d]
  | 2 => if i.op ≤ 0x49 then [100 + i.d] else [200 + i.d]
  | 3 => if i.op ≤ 0x54 ∨ i.op = 0x5A then [i.d] else if i.op = 0x58 then [i.d, i.d + 1] else []
  | 5 => if i.op = 0x67 then [200 + i.d] else [i.d]
  | _ => if i.op = 0x82 then [i.d] else if i.op = 0x7F then [31] else []

/-- Any of the w registers is poisoned. -/
def anyPoison (c : Core) (rs : List Nat) : Bool := rs.any (fun r => (wOf c r).p)

/-- The rounding mode of an instruction (R353, R361). -/
def rndMode (c : Core) (i : KInst) : Nat :=
  match i.enc.rnd with
  | some m => m.toNat
  | none => fld (srOf c 13) 0 2

/-! ## ALU, MUL, LONG -/

/-- A result for w[d]; a poisoned one sets no SATF (R354). -/
def resW (i : KInst) (r : Res) (p : Bool) : KEff := { ws := [(i.d, { v := r.1, p := p })], sat := r.2 && !p }

/-- ALU instructions (R375). -/
def evalAlu (k : Nat) (c : Core) (i : KInst) : KEff :=
  let m := mSeen k c i.a
  let acc := accOf c i.a
  match i.op with
  | 0x00 => {}
  | 0x04 => resW i (wideLo m.v) m.p
  | 0x05 => resW i (wideHi m.v) m.p
  | 0x06 => resW i (wideG m.v) m.p
  | 0x07 => resW i (roundQ31 (rndMode c i) m.v) m.p
  | 0x08 => resW i (wideLo acc.v) acc.p
  | 0x09 => resW i (wideHi acc.v) acc.p
  | 0x0A => resW i (wideG acc.v) acc.p
  | 0x0B => resW i (roundQ31 (rndMode c i) acc.v) acc.p
  | _ =>
    match aluEval i.op (wOf c i.d).v (wOf c i.a).v (wOf c i.b).v i.imm i.enc.sat with
    | some r => resW i r (anyPoison c (srcW (planCore k) i))
    | none => {}

def resM (i : KInst) (r : Nat × Bool) (p : Bool) : KEff := { ms := [(i.d, { v := r.1, p := p })], sat := r.2 && !p }
def resAcc (i : KInst) (r : Nat × Bool) (p : Bool) : KEff := { accs := [(i.d, { v := r.1, p := p })], sat := r.2 && !p }

/-- MUL-class instructions (R356, R357, R376, R380). -/
def evalMul (k : Nat) (c : Core) (i : KInst) : KEff :=
  let a := wOf c i.a
  let b := wOf c i.b
  let p := a.p || b.p
  let m := mLast c i.d
  let acc := accOf c i.d
  let seen := mSeen k c i.a
  match i.op with
  | 0x40 => resM i (mulI32 a.v b.v) p
  | 0x41 => resM i (mulU32 a.v b.v) p
  | 0x42 => resM i (mulQ31 a.v b.v) p
  | 0x43 => resM i (macI32 m.v a.v b.v) (p || m.p)
  | 0x44 => resM i (macU32 m.v a.v b.v) (p || m.p)
  | 0x45 => resM i (macQ31 m.v a.v b.v) (p || m.p)
  | 0x46 => resM i (msuQ31 m.v a.v b.v) (p || m.p)
  | 0x47 => resM i (dmacQ15x2 m.v a.v b.v) (p || m.p)
  | 0x48 => resM i (mtmVal a.v) a.p
  | 0x49 => resM i (0, false) false
  | 0x4A => resAcc i (accAdd acc.v seen.v) (acc.p || seen.p)
  | 0x4B => resAcc i (accSub acc.v seen.v) (acc.p || seen.p)
  | 0x4C => resAcc i (0, false) false
  | _ => resAcc i (mtmVal a.v) a.p

/-- What a LONG instruction gives (R378). -/
def longRes (c : Core) (i : KInst) : LongRes :=
  let a := (wOf c i.a).v
  let b := (wOf c i.b).v
  let mode := rndMode c i
  match i.op with
  | 0x60 => divI32 a b
  | 0x61 => divU32 a b
  | 0x62 => remI32 a b
  | 0x63 => remU32 a b
  | 0x64 => divQ31 mode a b
  | 0x65 => sqrtQ31 mode a
  | 0x66 => rcpQ31 mode a
  | _ => lmacQ63 mode (accOf c i.d).v (pairVal a (wOf c (i.a + 1)).v) (pairVal b (wOf c (i.b + 1)).v)

/-- A LONG instruction leaves issue (R329); a poisoned operand raises nothing (R380, R413). -/
def evalLong (k : Nat) (c : Core) (i : KInst) : KEff :=
  let r := longRes c i
  let p := anyPoison c (srcW (planCore k) i) || (decide (i.op = 0x67) && (accOf c i.d).p)
  { longs := [{ wdst := if i.op = 0x67 then none else some i.d, adst := if i.op = 0x67 then some i.d else none
                res := { v := r.v, p := p }, sat := r.sat && !p, zero := if r.zero ∧ ¬ p then some c.pc else none }] }

/-! ## Special registers (R350, R351) -/

/-- The lowest privilege that may read, and that may write, a special register: 0 U, 1 S, 3 M. -/
def mfsLevel (n : Nat) : Nat := if n = 0 ∨ (9 ≤ n ∧ n ≤ 15) then 0 else if n = 5 ∨ n = 6 then 3 else 1
def mtsLevel (n : Nat) : Nat := if 9 ≤ n ∧ n ≤ 14 then 0 else if 5 ≤ n ∧ n ≤ 7 then 3 else 1

/-- The bits of a special register that a write reaches. -/
def srMask (n : Nat) : Word :=
  match n with
  | 0 => 0x1F7#32
  | 5 => 0xFFFFF000#32
  | 6 => 0xFFFFFFF0#32
  | 7 => 0xFFFFFFF0#32
  | 8 => 0xFFFFFFF0#32
  | 12 => 0xFFFF#32
  | 13 => 3#32
  | 14 => 1#32
  | 15 => 1#32
  | 16 => 0x800FFFFF#32
  | _ => 0xFFFFFFFF#32

/-- What `mfs` reads. -/
def srRead (c : Core) (n : Nat) : Word := if n = 15 then srOf c 15 ||| wd (c.stack.length * 256) else srOf c n

def evalMfs (c : Core) (i : KInst) : Eval :=
  if plOf c < mfsLevel i.a then .fault { desc := 3, detail := 1 } else .eff { ws := [(i.d, { v := srRead c i.a })] }

/-- `mts` (R351, R381). DEDUCED (log 65). -/
def evalMts (c : Core) (i : KInst) : Eval :=
  let x := wOf c i.a
  let old := srOf c 0
  if plOf c < mtsLevel i.d then .fault { desc := 3, detail := 1 }
  else if x.p then .fault { desc := 12, detail := 6 }
  else if i.d = 0 ∧ fld x.v 0 2 = 2 then .fault { desc := 1, detail := 0 }
  else if i.d = 0 ∧ plOf c = 1 ∧ (fld x.v 0 2 ≠ fld old 0 2 ∨ bit x.v 8 ≠ bit old 8) then .fault { desc := 3, detail := 1 }
  else .eff { srs := [(i.d, x.v &&& srMask i.d)] }

/-! ## Flow and system (R384 to R392, R396) -/

/-- The target of a branch (R365, R371). -/
def branchTarget (k : Nat) (c : Core) (i : KInst) : Word := c.pc + (if planCore k then 4#32 * i.imm else i.imm)

/-- The return stack is full and traps (R387). -/
def callFaults (c : Core) : Bool := decide (16 ≤ c.stack.length) && bit (srOf c 15) 0

/-- DEDUCED (log 64). DEDUCED (log 65). DEDUCED (log 67). -/
def evalFlow (d : Device) (k : Nat) (c : Core) (i : KInst) : Eval :=
  let plan := planCore k
  let t := branchTarget k c i
  let a := wOf c i.a
  match i.op with
  | 0x70 => .eff { flow := .jump t }
  | 0x71 => if callFaults c then .fault { desc := 6, detail := 1 } else .eff { flow := .call t }
  | 0x72 => if c.stack = [] then .fault { desc := 6, detail := 2 } else .eff { flow := .ret }
  | 0x73 => if a.p then .fault { desc := 12, detail := 4 } else .eff { flow := .jump a.v }
  | 0x74 =>
    if a.p then .fault { desc := 12, detail := 4 }
    else if callFaults c then .fault { desc := 6, detail := 1 }
    else .eff { flow := .call a.v }
  | 0x7D => if a.p then .fault { desc := 12, detail := 5 } else .eff { flow := .loop a.v t }
  | 0x7E => .eff { flow := .trap i.imm.toNat }
  | 0x7F => if plOf c = 0 then .fault { desc := 3, detail := 2 } else .eff { flow := .retx }
  | 0x80 => if plOf c = 0 ∧ ¬ rdB d (pgIcu k) Reg.ICU.CTL 0 then .fault { desc := 3, detail := 3 } else .eff { flow := .wait }
  | 0x81 => .eff {}
  | 0x82 => evalMfs c i
  | 0x83 => evalMts c i
  | _ =>
    let x := if i.op ≤ 0x76 ∨ plan then a.v else (wOf c i.d).v
    let y := if plan then (wOf c i.b).v else a.v
    if anyPoison c (srcW plan i) then .fault { desc := 12, detail := 3 }
    else if branchTaken i.op x y then .eff { flow := .jump t }
    else .eff {}

/-! ## Loads and stores (R377, R381) -/

def effAddr (c : Core) (i : KInst) : Nat :=
  ((wOf c i.a).v + (if i.op = 0x5A ∨ i.op = 0x5B then (wOf c i.b).v else i.imm)).toNat
def isStore (op : Nat) : Bool := decide (0x55 ≤ op) && decide (op ≤ 0x57) || decide (op = 0x59) || decide (op = 0x5B)
def accessSize (op : Nat) : Nat :=
  match op with
  | 0x50 => 1 | 0x51 => 1 | 0x52 => 2 | 0x53 => 2 | 0x55 => 1 | 0x56 => 2 | 0x58 => 8 | 0x59 => 8
  | _ => 4
def isWordAccess (op : Nat) : Bool := decide (op = 0x54) || decide (op = 0x57) || decide (op = 0x5A) || decide (op = 0x5B)
def lsuParts (c : Core) (i : KInst) : List (Nat × Nat) := splitAt8 (effAddr c i) (accessSize i.op)

/-- The bytes and tag that a store takes from registers. -/
def storeData (c : Core) (i : KInst) : List Byte × Bool :=
  if i.op = 0x59 then
    (bytesLE 4 (wOf c i.d).v.toNat ++ bytesLE 4 (wOf c (i.d + 1)).v.toNat, (wOf c i.d).p || (wOf c (i.d + 1)).p)
  else (bytesLE (accessSize i.op) (wOf c i.d).v.toNat, (wOf c i.d).p)

/-- A store of poisoned data names a register page. -/
def storesToPage (d : Device) (k : Nat) (ps : List (Nat × Nat)) : Bool :=
  ps.any (fun p => match coreTarget d k p.1 with | some t => inPages t.addr | none => false)

/-- A precise fault that the LSU finds before the access. -/
def lsuFault (d : Device) (k : Nat) (c : Core) (i : KInst) : Option KFault :=
  let st := isStore i.op
  if (wOf c i.a).p then some { desc := 12, detail := 1 }
  else if (i.op = 0x5A ∨ i.op = 0x5B) ∧ (wOf c i.b).p then some { desc := 12, detail := 2 }
  else match accessFault d k st (isWordAccess i.op) (lsuParts c i) with
    | some f => some { desc := if st then 5 else 4, detail := f.1, xaddr := wd f.2 }
    | none =>
      if st ∧ (storeData c i).2 ∧ storesToPage d k (lsuParts c i) then
        some { desc := 12, detail := 7, xaddr := wd (effAddr c i) }
      else none

/-- The entries that a store takes, lower address first (R337). -/
def storeReqs (d : Device) (k : Nat) (c : Core) (i : KInst) : List StoreReq :=
  let x := storeData c i
  ((lsuParts c i).foldl (fun (st : List StoreReq × List Byte) p =>
    match coreTarget d k p.1 with
    | some t => (st.1 ++ [{ core := wd p.1, target := t, bytes := st.2.take p.2, poison := x.2 }], st.2.drop p.2)
    | none => st) ([], x.1)).1

/-- What a load writes. -/
def loadEff (i : KInst) (bs : List Byte) (p : Bool) : KEff :=
  let n := numLE bs
  let w := fun v => ({ v := v, p := p } : TaggedWord)
  match i.op with
  | 0x50 => { ws := [(i.d, w (wdI (signed 8 n)))] }
  | 0x52 => { ws := [(i.d, w (wdI (signed 16 n)))] }
  | 0x58 => { ws := [(i.d, w (wd n)), (i.d + 1, w (wd (n / 2 ^ 32)))] }
  | _ => { ws := [(i.d, w (wd n))] }

/-! ## One instruction -/

/-- The illegal-instruction fault of one instruction (R383). DEDUCED (log 67). -/
def illegal (plan : Bool) (i : KInst) : Bool :=
  (compactForm i.op).isNone || showsReserved plan i || !encOk plan i || !fieldsOk i || (decide (i.op = 0x82) && decide (17 ≤ i.a)) ||
    (decide (i.op = 0x83) && decide (17 ≤ i.d))

/-- The illegal-instruction fault of a bundle as a whole, whatever its syllables are (R369, R370). -/
def illegalBundle (is : List KInst) : Bool :=
  decide (6 < is.length) || !(is.getLast?.any (fun i => i.enc.stop)) ||
    !decide ((is.map (fun i => i.enc.unit)).Nodup) || !decide ((is.flatMap dests).Nodup)

/-- What an instruction other than a load does, or its fault; a load, what it finds before the access. -/
def evalOne (d : Device) (k : Nat) (c : Core) (i : KInst) : Eval :=
  match opClass i.op with
  | 0 => .eff (evalAlu k c i)
  | 2 => .eff (evalMul k c i)
  | 3 =>
    match lsuFault d k c i with
    | some f => .fault f
    | none => .eff (if isStore i.op then { stores := storeReqs d k c i } else {})
  | 5 => .eff (evalLong k c i)
  | _ => evalFlow d k c i

/-- The same, of an instruction that may be illegal (R372, R383). -/
def evalLegal (d : Device) (k : Nat) (c : Core) (i : KInst) : Eval :=
  if illegal (planCore k) i then .fault { desc := 1, detail := 0 } else evalOne d k c i

/-- Both effects; at most one of them turns control. -/
def joinEff (a b : KEff) : KEff :=
  { ws := a.ws ++ b.ws, ms := a.ms ++ b.ms, accs := a.accs ++ b.accs, sat := a.sat || b.sat, longs := a.longs ++ b.longs
    stores := a.stores ++ b.stores, srs := a.srs ++ b.srs, flow := if b.flow = .next then a.flow else b.flow }

end Sys2Proof.Machine
end

