-- ==== Sys2Proof/Machine/CoreExec.lean ====
section
/-! DEFINITION. Issue and retirement of a core (spec/09, R324 to R344; spec/10, R366 to R372; spec/11, R386 to R394, R405 to R417): fetch,
positions, repeats, the hardware loop, `retx`, `barrier`, and a core that waits for another device. -/

namespace Sys2Proof.Machine

/-! ## What must happen before a position is performed -/

/-- The instruction waits for every earlier one: R330, R408; a `trap`, which enters a handler, for the long operations (R331). -/
def contextSync (i : KInst) : Bool :=
  decide (i.op = 0x7E) || decide (i.op = 0x7F) || decide (i.op = 0x81) || (decide (i.op = 0x83) && (decide (i.d = 0) || decide (i.d = 16)))

/-- An instruction of the position reads the result of a long operation that has not completed. -/
def readsLong (plan : Bool) (c : Core) (is : List KInst) : Bool :=
  is.any (fun i => (srcW plan i).any (longOnW c) || (srcAcc i).any (longOnAcc c))

/-- Long operations complete as far as the position needs it; a third one waits for the first. -/
def waitLongs (k : Nat) (is : List KInst) : Nat → Device → Device
  | 0, d => d
  | n + 1, d =>
    let c := coreOf d k
    if readsLong (planCore k) c is ∨ (is.any (fun i => decide (opClass i.op = 5)) ∧ 2 ≤ c.longs.length) then waitLongs k is n (longDone k d)
    else d

/-- The frame that `retx` reads: four words at w31. -/
def frameParts (c : Core) : List (Nat × Nat) :=
  (List.range 4).flatMap (fun i => splitAt8 (((wOf c 31).v.toNat + 4 * i) % 2 ^ 32) 4)

/-- The loads of a position. -/
def loadsOf (is : List KInst) : List KInst := is.filter (fun i => decide (opClass i.op = 3) && !isStore i.op)

/-- What a position reads from memory. DEDUCED (log 68). -/
def readParts (c : Core) (is : List KInst) : List (Nat × Nat) :=
  is.flatMap (fun i => if opClass i.op = 3 ∧ ¬ isStore i.op then lsuParts c i else if i.op = 0x7F then frameParts c else [])

/-- Entries that a position puts into the store buffer. -/
def storeCount (c : Core) (is : List KInst) : Nat :=
  ((is.filter (fun i => isStore i.op)).map (fun i => (lsuParts c i).length)).foldl (· + ·) 0

/-- Loads that overlap buffered stores in part are noted, once for a position, and counted (R334, R346). DEDUCED (log 71). -/
def noteWaits (k : Nat) (is : List KInst) (d : Device) : Device :=
  let c := coreOf d k
  let parts := fun (ps : List (Nat × Nat)) => ps.filter (fun p =>
    decide ((coreTarget d k p.1).bind (fun t => mustDrain c t p.2) = some false))
  let ps := parts (readParts c is)
  if c.waited ≠ [] ∨ ps = [] then d
  else
    let d := setCore k { c with waited := ps.map (fun p => p.1) } d
    if parts ((loadsOf is).flatMap (lsuParts c)) = [] then d else bump (pgCore k) Reg.CORE.SB_WAIT d

/-- The stores that must leave first have left, as far as they can now: for a `barrier` all, for a load those of R333 and R334, for a
store as many as it needs room. Whether the position can be performed now. -/
def waitStores (k : Nat) (is : List KInst) (s : DM) : DM × Bool :=
  let c := coreOf s.1 k
  let s := if is.any (fun i => decide (i.op = 0x81)) then drainNow k true (drainNow k false s) else s
  let s := match partsDrain s.1 k (readParts c is) with
    | some page => drainNow k page s
    | none => s
  let s := if storeCount c is = 0 then s else makeRoom k (storeCount c is) 8 s
  let e := coreOf s.1 k
  (s, (!is.any (fun i => decide (i.op = 0x81)) || decide (e.sb = [])) && (partsDrain s.1 k (readParts c is)).isNone &&
    decide (e.sb.length + storeCount c is ≤ 8 ∨ storeCount c is = 0))

/-! ## Evaluation of a position -/

/-- The fault of the lowest-numbered unit, an illegal syllable's among them, but for what a load's target answers (R372); with the unit. -/
def firstFault (d : Device) (k : Nat) (c : Core) (is : List KInst) : Option (Nat × KFault) :=
  is.foldl (fun (best : Option (Nat × KFault)) i =>
    match evalLegal d k c i, best with
    | .fault f, none => some (i.enc.unit.val, f)
    | .fault f, some b => if i.enc.unit.val < b.1 then some (i.enc.unit.val, f) else some b
    | .eff _, b => b) none

/-- A fault of the registers stands whatever a load meets: no load is performed by a lower-numbered unit. -/
def faultStands (is : List KInst) (f : Option (Nat × KFault)) : Option KFault :=
  match f with
  | some x => if (loadsOf is).any (fun i => decide (i.enc.unit.val < x.1)) then none else some x.2
  | none => none

/-- The effects of a position without what it loads. -/
def positionEff (d : Device) (k : Nat) (c : Core) (is : List KInst) : KEff :=
  is.foldl (fun e i => match evalOne d k c i with
    | .eff x => joinEff e x
    | .fault _ => e) {}

/-- What the memory reads of a position bring. -/
inductive Reading where
  | ok (e : KEff) (frame : List Byte) (framePoison : Bool)
  | fault (f : KFault)
  | need (dest a n : Nat)
  deriving DecidableEq, Repr

/-- The position's load, then the frame of its `retx`. -/
def readAll (k : Nat) (c : Core) (is : List KInst) (m : Memory) (got : List RemoteData) (d : Device) : Reading × Device :=
  let load := (loadsOf is).head?
  let retx := is.any (fun i => decide (i.op = 0x7F))
  let r1 := match load with
    | some i => loadParts k true m (lsuParts c i) got d
    | none => (.ok [] false, got, d)
  match r1.1 with
  | .need x y z => (.need x y z, d)
  | .fault det a => (.fault { desc := 4, detail := det, xaddr := wd a }, d)
  | .ok bs p =>
    let e := match load with
      | some i => loadEff i bs p
      | none => {}
    if ¬ retx then (.ok e [] false, r1.2.2)
    else match accessFault r1.2.2 k false true (frameParts c) with
      | some f => (.fault { desc := 4, detail := f.1, xaddr := wd f.2 }, d)
      | none =>
        let r2 := loadParts k true m (frameParts c) r1.2.1 r1.2.2
        match r2.1 with
        | .need x y z => (.need x y z, d)
        | .fault det a => (.fault { desc := 4, detail := det, xaddr := wd a }, d)
        | .ok fr fp => (.ok e fr fp, r2.2.2)

/-- `retx` refuses its frame (R406, R407). DEDUCED (log 68). -/
def frameFault (c : Core) (fr : List Byte) (p : Bool) : Option KFault :=
  let st := wd (numLE (slice fr 4 4))
  let sp := (wOf c 31).v
  if p then some { desc := 12, detail := 8 }
  else if fld st 0 2 = 2 then some { desc := 9, detail := 2, xaddr := sp }
  else if plOf c < fld st 0 2 then some { desc := 9, detail := 1, xaddr := sp }
  else if plOf c = 1 ∧ bit st 8 ≠ bit (srOf c 0) 8 then some { desc := 9, detail := 3, xaddr := sp }
  else none

/-! ## Retirement -/

/-- Length of a position in its code. -/
def positionLen (k : Nat) (is : List KInst) : Nat := if planCore k then 4 * is.length else (is.map compactLen).foldl (· + ·) 0

/-- Register results are written; MUL results at the present position. -/
def writeEff (e : KEff) (c : Core) : Core :=
  let c := e.ws.foldl (fun c x => setW x.1 x.2 (dropLongW x.1 c)) c
  let c := { c with mNew := c.mNew ++ e.ms.map (fun x => { reg := x.1, pos := c.pos, val := x.2 }) }
  let c := e.accs.foldl (fun c x => setAcc x.1 x.2 (dropLongAcc x.1 c)) c
  let c := e.longs.foldl (fun c l =>
    let c := match l.wdst with
      | some r => dropLongW r c
      | none => c
    { c with longs := c.longs ++ [l] }) c
  let c := if e.sat then setSr 14 1#32 c else c
  e.srs.foldl (fun c x => setSr x.1 x.2 c) c

/-- `retx` restores the frame (R406). -/
def restoreFrame (fr : List Byte) (c : Core) : Core :=
  let x := wd (numLE (slice fr 8 4))
  let sp := if bit x 31 then srOf c 4 else (wOf c 31).v + 16#32
  { c with pc := wd (numLE (slice fr 0 4)), repLeft := if bit x 29 then some (fld x 8 16) else none }
    |> setSr 0 (wd (numLE (slice fr 4 4)) &&& 0x1F7#32) |> setSr 2 x |> setSr 3 (wd (numLE (slice fr 12 4))) |> setW 31 { v := sp }

/-- The length of the instruction, or bundle, that code memory holds at an address. -/
def lengthAt (k : Nat) (m : Memory) (x : Nat) : Nat :=
  let a := codeBase k + (x - 0x10000000)
  if planCore k then
    4 * (((List.range 6).find? (fun i => decide (128 ≤ (memByte m (a + 4 * i + 3)).toNat))).getD 5 + 1)
  else codedLen 12 ((List.range 12).map (fun i => memByte m (a + i))) false

/-- Control after a position: the next address, and whether a branch was taken. -/
def turn (k : Nat) (m : Memory) (e : KEff) (fr : List Byte) (nextPc : Word) (c : Core) : Core × Bool :=
  match e.flow with
  | .next => ({ c with pc := nextPc }, false)
  | .jump t => ({ c with pc := t }, true)
  | .call t => ({ c with pc := t, stack := (nextPc :: c.stack).take 16 }, true)
  | .ret =>
    match c.stack with
    | t :: rest => ({ c with pc := t, stack := rest }, true)
    | [] => ({ c with pc := nextPc }, false)
  | .loop count last =>
    let c := c |> setSr 9 nextPc |> setSr 10 last |> setSr 11 count
    (if count = 0#32 then { c with pc := last + wd (lengthAt k m last.toNat) } else { c with pc := nextPc }, false)
  | .trap _ => ({ c with pc := nextPc }, false)
  | .wait => ({ c with pc := nextPc, waiting := true }, false)
  | .retx => (restoreFrame fr c, true)

/-- The hardware loop at the retirement of the instruction at `at_` (R390). DEDUCED (log 70). -/
def loopTest (at_ : Word) (taken : Bool) (c : Core) : Core :=
  let n := srOf c 11
  if srOf c 10 = at_ ∧ n ≠ 0#32 then
    let c := setSr 11 (n - 1#32) c
    if n ≠ 1#32 ∧ ¬ taken then { c with pc := srOf c 9 } else c
  else c

/-- The iterations of `rep` that are left, the present one included (R393, R394); none without the prefix. DEDUCED (log 70). -/
def repCount (c : Core) (is : List KInst) : Option Nat :=
  match is with
  | [i] => if i.enc.rep then some (c.repLeft.getD (fld (srOf c 12) 0 16)) else none
  | _ => none

/-- A position retires. DEDUCED (log 69). -/
def retirePosition (k : Nat) (is : List KInst) (e : KEff) (fr : List Byte) (s : DM) : DM :=
  let c := coreOf s.1 k
  let at_ := c.pc
  let rep := repCount c is
  let more := match rep with
    | some n => decide (1 < n)
    | none => false
  let c := writeEff e c
  let c := if more then { c with repLeft := rep.map (fun n => n - 1) }
    else
      let r := turn k s.2 e fr (at_ + wd (positionLen k is)) (if e.flow = .retx then c else { c with repLeft := none })
      loopTest at_ r.2 r.1
  let c := settleM k { c with pos := c.pos + 1 }
  let d := bump (pgCore k) Reg.CORE.RETIRED (setCore k c s.1)
  let d := wrB (pgCore k) Reg.CORE.CTL 1 (bit (srOf c 0) 8) d
  let d := e.stores.foldl (fun d x => pushStore k x.core x.target x.bytes x.poison d) d
  (icuWake k d, s.2)

/-- The outcome of a position, and the state that stands if it must wait. A `trap` comes after the faults of earlier long operations; the
fault of one in its own bundle is taken at the first boundary of its handler. DEDUCED (log 69). -/
def runPosition (k : Nat) (is : List KInst) (got : List RemoteData) (s : DM) : CoreOut × DM :=
  let pc := (coreOf s.1 k).pc
  let legal := is.filter (fun i => !illegal (planCore k) i)
  let sync := legal.any contextSync
  let s : DM := (if sync then longsDone k s.1 else waitLongs k legal 4 s.1, s.2)
  let f := firstFault s.1 k (coreOf s.1 k) is
  let s : DM := (if f.isNone then noteWaits k is s.1 else s.1, s.2)
  let w := waitStores k legal s
  let s := w.1
  let c := coreOf s.1 k
  let rep := repCount c is
  let fault := fun (f : KFault) =>
    faultEntry k { desc := f.desc, xpc := pc, detail := f.detail, xaddr := f.xaddr, prio := 0, rep := rep } s
  if sync ∧ c.imprecise ≠ [] then
    match impreciseEntry k pc s.1 with
    | some x => (.enter x.1 (x.2, s.2), s)
    | none => (.done s, s)
  else match faultStands legal f with
    | some f => (fault f, s)
    | none =>
      if ¬ w.2 then (.needStores, s)
      else
        let r := readAll k c (if f.isSome then loadsOf legal else is) s.2 got s.1
        match r.1, f with
        | .need x y z, _ => (.needRead x y z, s)
        | .fault g, _ => (fault g, s)
        | .ok _ _ _, some g => (fault g.2, s)
        | .ok e fr fp, none =>
          match (if is.any (fun i => decide (i.op = 0x7F)) then frameFault c fr fp else none) with
          | some f => (fault f, s)
          | none =>
            let eff := joinEff (positionEff s.1 k c is) e
            let t := retirePosition k is eff fr (r.2, s.2)
            match eff.flow with
            | .trap n =>
              (.enter { desc := 64 + n, xpc := (coreOf t.1 k).pc, detail := 0, xaddr := 0#32, prio := 0, rep := none }
                (longsDone k t.1, t.2), s)
            | _ => (.done t, s)

/-! ## A core at work -/

/-- A core waits for another device. -/
def parkCore (k : Nat) (w : CoreWait) (s : DM) : DM := (setCore k { coreOf s.1 k with await := some w } s.1, s.2)

/-- What a core has in hand with one more answer. -/
def addGot (w : CoreWait) (r : RemoteData) : CoreWait :=
  match w with
  | .position is got => .position is (got ++ [r])
  | .entry q got => .entry q (got ++ [r])

/-- The work is the entry of an imprecise exception: a step goes on after it. -/
def CoreWait.isImprecise (w : CoreWait) : Bool :=
  match w with
  | .entry q _ => decide (q.desc = 7) || decide (q.desc = 8)
  | .position _ _ => false

/-- A position or an entry runs to its end, or to a wait for another device. A request without a route ends at once (R26). -/
def runJob (k : Nat) : Nat → CoreWait → DM → DM
  | 0, w, s => parkCore k w s
  | f + 1, w, s =>
    let r := match w with
      | .position is got => runPosition k is got s
      | .entry q got => runEntry k q got s
    match r.1 with
    | .done t => (if w.isImprecise then t.1 else stepEnds k t.1, t.2)
    | .enter q t => runJob k f (.entry q []) t
    | .needStores => parkCore k w r.2
    | .needRead dest a n =>
      let x := issueReq (.core k) (coreReq r.2.1 k) dest 0 1 a n 0 [] r.2.1
      match x.2 with
      | some _ => parkCore k w (x.1, r.2.2)
      | none => runJob k f (addGot w (.err 2)) (x.1, r.2.2)

/-- A core that waits goes on. -/
def coreResume (k : Nat) (s : DM) : DM :=
  match (coreOf s.1 k).await with
  | none => s
  | some w => runJob k 40 w (setCore k { coreOf s.1 k with await := none } s.1, s.2)

/-- A read of another device is outstanding for core k. -/
def readOut (d : Device) (k : Nat) : Bool := d.fab.out.any (fun o => decide (o.src = .core k))

/-- An answer has come for a core's read. -/
def coreAnswer (k : Nat) (r : RemoteData) (s : DM) : DM :=
  let c := coreOf s.1 k
  coreResume k (setCore k { c with await := c.await.map (fun w => addGot w r) } s.1, s.2)

/-- A position waits for stores to leave: it has not begun, and the core stands at the boundary before it. -/
def storeParked (d : Device) (k : Nat) : Bool :=
  match (coreOf d k).await with
  | some (.position _ _) => !readOut d k
  | _ => false

/-- The position that waits is given up; it is issued again when the core comes back to its address. DEDUCED (log 145). -/
def leaveParked (k : Nat) (d : Device) : Device :=
  if storeParked d k then setCore k { coreOf d k with await := none } d else d

/-- A soft reset can stop core k (R345): it does not run, or stands at a boundary with no exception due. DEDUCED (log 30). -/
def stopDue (d : Device) (k : Nat) : Bool :=
  let c := coreOf d k
  c.rstReq && c.rstAt.isNone && (!coreRuns d k || asleep d || ((c.await.isNone || storeParked d k) && decide (c.imprecise = [])))

/-- The long operations complete, and a fault of theirs is taken first (R331, R344); then it stops, and its 2 µs of draining begin. -/
def stopCore (k : Nat) (d : Device) : Device :=
  let d := longsDone k (leaveParked k d)
  let c := coreOf d k
  if coreRuns d k ∧ ¬ asleep d ∧ c.imprecise ≠ [] then d
  else setCore k { c with rstAt := some d.time.now, bundle := [] } d

/-- Cores that wait for stores try again; one that a soft reset is to stop does not, and stops where it can. -/
def coresOn (s : DM) : DM :=
  let s := forEach ((List.range 36).filter (fun k =>
    (coreOf s.1 k).await.isSome && !readOut s.1 k && !((coreOf s.1 k).rstReq && storeParked s.1 k))) coreResume s
  (forEach ((List.range 36).filter (stopDue s.1)) stopCore s.1, s.2)

/-- A core issues now: it runs, waits for nothing, and nothing is due at the boundary before the instruction (R414). -/
def canIssue (d : Device) (k : Nat) : Bool :=
  let c := coreOf d k
  coreRuns d k && domainOn d (pgCore k) && !asleep d && !c.waiting && c.await.isNone && !c.rstReq &&
    (decide (c.bundle ≠ []) || (decide (c.imprecise = []) && !c.haltReq && (c.stepping || (bestLine d k).isNone)))

/-- A new position begins: no load of it has waited yet. -/
def freshPosition (k : Nat) (d : Device) : Device :=
  if (coreOf d k).waited = [] then d else setCore k { coreOf d k with waited := [] } d

/-- A complete position is fetched, decoded and performed. -/
def issuePosition (k : Nat) (is : List KInst) (s : DM) : DM :=
  let c := coreOf s.1 k
  let pc := c.pc
  let n := positionLen k is
  let q := fun (desc detail : Nat) (a : Word) (xpc : Word) (d : Device) =>
    match faultEntry k { desc := desc, xpc := xpc, detail := detail, xaddr := a, prio := 0, rep := c.repLeft } (d, s.2) with
    | .enter r t => runJob k 40 (.entry r []) t
    | _ => s
  let f := fetch k pc.toNat n s.2 (freshPosition k s.1)
  match f.1 with
  | .fault det a => q 2 det (wd a) (wd a) f.2
  | .poison => q 12 9 pc pc f.2
  | .ok =>
    if planCore k ∧ illegalBundle is ∨ repCount c is = some 0 ∧ is.any (illegal (planCore k)) then q 1 0 0#32 pc f.2
    else if repCount c is = some 0 then
      (stepEnds k (setCore k { coreOf f.2 k with pc := pc + wd n, repLeft := none } f.2), s.2)
    else runJob k 40 (.position is []) (f.2, s.2)

/-- The syllables that have come are no longer kept. -/
def dropBundle (k : Nat) (d : Device) : Device :=
  if (coreOf d k).bundle = [] then d else setCore k { coreOf d k with bundle := [] } d

/-- An instruction of core k, or a syllable of a bundle: a plan core performs a bundle when its last syllable has come, or a sixth
without a stop bit. -/
def issue (k : Nat) (i : KInst) (s : DM) : DM :=
  if ¬ canIssue s.1 k then s
  else if planCore k then
    let is := (coreOf s.1 k).bundle ++ [i]
    if i.enc.stop ∨ 6 ≤ is.length then issuePosition k is (dropBundle k s.1, s.2)
    else (setCore k { coreOf s.1 k with bundle := is } s.1, s.2)
  else issuePosition k [i] s

/-! ## Boundaries (R410 to R416, R344) -/

/-- A core stands at a boundary of its own: nothing of it is under way (R344). DEDUCED (log 145). -/
def atBoundary (d : Device) (k : Nat) : Bool :=
  let c := coreOf d k
  coreRuns d k && domainOn d (pgCore k) && !asleep d && (c.await.isNone || storeParked d k) && c.rstAt.isNone &&
    (c.rstReq || decide (c.bundle = []))

/-- An imprecise exception is due. -/
def impreciseDue (d : Device) (k : Nat) : Bool := atBoundary d k && decide ((coreOf d k).imprecise ≠ [])

/-- It is taken; one reported by a core that waits ends the `wait`. -/
def takeImprecise (k : Nat) (s : DM) : DM :=
  if ¬ impreciseDue s.1 k then s
  else
    let d := longsDone k (leaveParked k s.1)
    match impreciseEntry k (coreOf d k).pc d with
    | some x => runJob k 40 (.entry x.1 []) (x.2, s.2)
    | none => s

/-- A debug halt can take effect. -/
def haltDue (d : Device) (k : Nat) : Bool := atBoundary d k && (coreOf d k).haltReq && decide ((coreOf d k).imprecise = [])

/-- The long operations complete; a fault of theirs is taken first (R331). -/
def takeHalt (k : Nat) (d : Device) : Device :=
  if ¬ haltDue d k then d
  else
    let d := longsDone k (leaveParked k d)
    if (coreOf d k).imprecise = [] then haltNow k d else d

/-- An interrupt is due. -/
def interruptDue (d : Device) (k : Nat) : Bool :=
  let c := coreOf d k
  atBoundary d k && decide (c.imprecise = []) && !c.haltReq && !c.rstReq && !c.stepping && !c.waiting && (bestLine d k).isSome

/-- The line of the highest priority is taken (R416). -/
def takeInterrupt (k : Nat) (s : DM) : DM :=
  if ¬ interruptDue s.1 k then s
  else
    let d := longsDone k (leaveParked k s.1)
    let c := coreOf d k
    if c.imprecise ≠ [] then (d, s.2)
    else match bestLine d k with
      | none => s
      | some l =>
        let p := linePrio d k l
        runJob k 40 (.entry { desc := 192 + l, xpc := c.pc, detail := p, xaddr := 0#32, prio := p, rep := c.repLeft } []) (d, s.2)

end Sys2Proof.Machine
end

