-- ==== Sys2Proof/Machine/BootOps.lean ====
section
/-! DEFINITION. BOOT (spec/17, R593 to R597; spec/12, R434 to R437; spec/15, R549; spec/18, R605, R607; spec/13, R464, R491): what the boot
ROM does from the rise of RESET_N, or a RETAIN wake, to CONFIGURE. -/

namespace Sys2Proof.Machine

/-! ## The boot ROM as a requester -/

/-- DESIGN CHOICE (log 10). -/
def bootReq (d : Device) : Requester := ownReq d .master (Config.masterNo 8)
def bootPut (p off : Nat) (v : Word) (d : Device) : Device := pageWrite p off true { who := bootReq d, data := v, poison := false } d

/-! ## The checker self-test (R436, R437) -/

/-- The decoders that fail: the memory IDs of R429, with 113 where a bank's decoder fails. -/
def badDecoders (dec : BitVec 128) (banks : BitVec 48) : List Nat :=
  (List.range 119).filter (fun i => if i = 113 then decide (banks ≠ 0#48) else dec.getLsbD i)

/-- The pages that a failed decoder marks. -/
def decoderPages (id : Nat) : List Nat :=
  if id < 36 then [pgCore id, pgIcu id]
  else if 108 ≤ id ∧ id < 112 then (List.range 8).map (fun i => pgCore (8 * (id - 108) + i))
  else if id = 112 then (List.range 4).map (fun i => pgCore (32 + i))
  else if id = 114 then [pgEth 0, pgUandi]
  else if id = 115 then [pgEth 1, pgStream]
  else if id = 116 then pgFab :: (List.range 8).map pgLink ++ (List.range 4).map pgRoute
  else if id = 117 then [pgEva]
  else if id = 118 then (List.range 10).map pgFf ++ (List.range 24).map pgPfe
  else []

/-- The self-test and what its failures entail. -/
def selfTest (dec : BitVec 128) (banks : BitVec 48) (d : Device) : Device :=
  let bad := badDecoders dec banks
  let fail := decide (bad ≠ [])
  let d := forEach (List.range 4) (fun i => wr pgMemerr (Reg.MEMERR.UNUSABLE i)
    (wd ((bad.filter (fun x => decide (x / 32 = i))).map (fun x => 2 ^ (x % 32))).sum)) d
  let d := d |> wr pgMemerr Reg.MEMERR.BANK_OUT_LO (wd banks.toNat) |> wr pgMemerr Reg.MEMERR.BANK_OUT_HI (wd (banks.toNat / 2 ^ 32))
    |> wr pgMemerr Reg.MEMERR.SELFTEST (wd (1 + 2 * b2n fail))
  let d := { d with testBad := bad.flatMap decoderPages }
  let d := forEach d.testBad markPage d
  let d := forEach (List.range 36) (fun k d => wr (pgCore k) Reg.CORE.CTL (cacheBits d k (rd d (pgCore k) Reg.CORE.CTL)) d) d
  raiseIf fail pgMemerr 2 d

/-- SPARE of a memory: each bank has 4 spare rows and 2 spare columns (R434). -/
def spareWord (id : Nat) : Word :=
  wd (min (4 * bankCount id) (fld (Config.spare id) 0 8) + 256 * min (2 * bankCount id) (fld (Config.spare id) 8 8))

/-- Sparing (R434). -/
def applySpares (d : Device) : Device := forEach (List.range 119) (fun i => wr pgMemerr (Reg.MEMERR.SPARE i) (spareWord i)) d

/-! ## Dawn at boot (R593, R598, R599) -/

def bootDawn (found : DawnSet) (ticks : Nat) (d : Device) : Device :=
  d |> setMode .selftest |> dawnEffect 19 [] [] found ticks |> modeChange .boot

/-! ## Board discovery (R549) -/

/-- The link of a device of the board, if it is up. -/
def boardLink (board : List BoardDev) (i l : Nat) : Option BoardLink :=
  match board[i]? with
  | some b => (b.links[l]?).join
  | none => none

/-- A MAINT request of the boot ROM (OP 1 READ, 2 WRITE) by a path of links, and its response: the flits of one exchange, acknowledged before
the next one begins. A path of no links is this device itself. DESIGN CHOICE (log 120). -/
def romMaint (path : List Nat) (op p off : Nat) (data : Word) (d : Device) : Device :=
  match path with
  | [] => d
  | l :: _ =>
    let who := bootReq d
    let n := rdF d (pgLink l) Reg.LINK.TX_SEQ 0 12
    let f : Flit := { typ := 7, vc := 3, dest := 0xFFF, src := myId d, hops := issueHops d
                      payload := maintPayload op path.length 0 (packPath path) (List.replicate 6 0#8)
                        (bytesBE 4 Config.uidHi.toNat ++ bytesBE 4 Config.uidLo.toNat) (kindNo who.kind * 64 + who.index.val)
                        (4096 * p + off) data.toNat d.fab.tag 0 }
    let d := { d with fab := { d.fab with tag := (d.fab.tag + 1) % 65536 } }
    let d := d |> sendSeq l f |> ackUpTo l n |> takeCredits l 3 1
    let d := (acceptSeq l { typ := 7, vc := 3, dest := 0xFFF, src := 0xFFF, lseq := rdF d (pgLink l) Reg.LINK.RX_SEQ 0 12 } d).1
    sendAck l (oweCredit l 3 d)

/-- Where the ROOT stands in its discovery: the devices that have their IDs, with the paths to them, those whose links are to be visited, and
whether a peer was miswired or refused the claim. -/
structure Survey where
  dev : Device
  known : List (Nat × List Nat)
  queue : List (Nat × List Nat)
  miswired : Bool := false
  lost : Bool := false

/-- A MAINT access of a survey. -/
def Survey.maint (s : Survey) (path : List Nat) (op p off : Nat) (data : Word) : Survey := { s with dev := romMaint path op p off data s.dev }

/-- The ID of a position of the board. -/
def boardId (d : Device) (pos : Nat) : Nat := 16 * rdF d pgFab Reg.FAB.BOARD 0 8 + pos

/-- The position that link l of a position joins: BL0 to +x, BL1 to -x, BL2 to +y, BL3 to -y (R546, R550). -/
def neighbourOf (pos l : Nat) : Option Nat :=
  match l with
  | 0 => if pos % 4 < 3 then some (pos + 1) else none
  | 1 => if 0 < pos % 4 then some (pos - 1) else none
  | 2 => if pos / 4 < 3 then some (pos + 4) else none
  | _ => if 0 < pos / 4 then some (pos - 4) else none

/-- The POSID of a device of the board; the first is this one. -/
def boardPos (board : List BoardDev) (d : Device) (i : Nat) : Nat :=
  if i = 0 then d.sys.straps.posid.val else match board[i]? with | some b => b.posid.val | none => 0

/-- A peer at its place takes the claim, its ID and its PARENT, and is visited in its turn (R549, step 3). DESIGN CHOICE (log 120). -/
def takePeer (board : List BoardDev) (k : BoardLink) (path : List Nat) (s : Survey) : Survey :=
  let id := boardId s.dev (boardPos board s.dev k.peer)
  let s := s.maint path 2 pgFab Reg.FAB.TGEN 1#32
  if (match board[k.peer]? with | some b => b.claimed | none => false) then { s with lost := true }
  else
    let s := s.maint path 2 pgFab Reg.FAB.ID (wd id)
    let s := s.maint path 2 pgTb Reg.TB.SYNC_CTL (setFld (resetVal pgTb Reg.TB.SYNC_CTL) 8 4 k.far.val)
    let s := match path with
      | [l] => { s with dev := wrF (pgLink l) Reg.LINK.STAT 20 12 id s.dev }
      | _ => s
    { s with known := s.known ++ [(k.peer, path)], queue := s.queue ++ [(k.peer, path)] }

/-- Link l of a device is visited (R549, steps 2 to 4). DESIGN CHOICE (log 120). -/
def visitLink (board : List BoardDev) (e : Nat × List Nat) (l : Nat) (s : Survey) : Survey :=
  if s.lost then s
  else
    let s := s.maint e.2 1 (pgLink l) Reg.LINK.STAT 0#32
    match boardLink board e.1 l with
    | none => s
    | some k =>
      let s := (s.maint e.2 1 (pgLink l) Reg.LINK.PEER_UID_LO 0#32).maint e.2 1 (pgLink l) Reg.LINK.PEER_UID_HI 0#32
      if s.known.any (fun x => decide (x.1 = k.peer)) then s
      else
        let path := e.2 ++ [l]
        let s := s.maint path 1 pgFab Reg.FAB.STRAPS 0#32
        if neighbourOf (boardPos board s.dev e.1) l = some (boardPos board s.dev k.peer) then takePeer board k path s
        else { s with miswired := true }

/-- BL0 to BL3 of the devices in the queue, breadth first; a grid has 16 places. -/
def visitAll (board : List BoardDev) : Nat → Survey → Survey
  | 0, s => s
  | n + 1, s => match s.queue with
    | [] => s
    | e :: rest => visitAll board n (forEach (List.range 4) (visitLink board e) { s with queue := rest })

/-- The links of this device that have a peer come up (R516, R549). -/
def trainLinks (board : List BoardDev) (lanes : List (BitVec 4 × Bool)) (d : Device) : Device :=
  forEach (List.range 8) (fun l d =>
    match boardLink board 0 l with
    | none => d
    | some k =>
      let uid := match board[k.peer]? with | some b => b.uid | none => 0#64
      let x := lanes.getD l (0#4, false)
      identArrives l uid 0xFFF#12 k.far.val true x.1 x.2 d) d

/-- Board discovery by the ROOT: its own claim, ID and routes, the board, and the release of every claim. DESIGN CHOICE (log 120). -/
def discovery (board : List BoardDev) (d : Device) : Device :=
  let d := d |> bootPut pgFab Reg.FAB.TGEN 1#32 |> bootPut pgFab Reg.FAB.ID (wd (boardId d d.sys.straps.posid.val))
  let s := visitAll board 16 { dev := d, known := [(0, [])], queue := [(0, [])] }
  let d := if s.miswired then wrB pgFab Reg.FAB.STAT 3 true s.dev else s.dev
  if s.lost then wrB pgFab Reg.FAB.STAT 2 true d
  else
    let d := forEach (s.known.drop 1) (fun e => romMaint e.2 2 pgFab Reg.FAB.CTL (setBit (resetVal pgFab Reg.FAB.CTL) 1 true)) d
    let d := bootPut pgFab Reg.FAB.CTL (setBit (rd d pgFab Reg.FAB.CTL) 1 true) d
    raise pgFab 4 (wrB pgFab Reg.FAB.STAT 1 true d)

/-! ## Images (R595) -/

/-- Fields of an image. -/
def imgNseg (bs : List Byte) : Nat := numBE (slice bs 6 2)
def imgTotal (bs : List Byte) : Nat := numBE (slice bs 8 4)
def imgRbVer (bs : List Byte) : Nat := numBE (slice bs 12 4)
def imgTrailer (bs : List Byte) : Nat := imgTotal bs - 200
def imgSlot (bs : List Byte) : Nat := numBE (slice bs (imgTrailer bs) 1)

/-- A segment: destination, offset in the image, length. -/
structure Segment where
  dest : Nat
  off : Nat
  len : Nat
  deriving DecidableEq, Repr
def imgSegments (bs : List Byte) : List Segment :=
  (List.range (imgNseg bs)).map (fun i =>
    { dest := numBE (slice bs (304 + 16 * i) 8), off := numBE (slice bs (312 + 16 * i) 4), len := numBE (slice bs (316 + 16 * i) 4) })

/-- A destination lies wholly where R595 allows it. DEDUCED (log 117). -/
def segmentPlace (total : Nat) (g : Segment) : Bool :=
  let last := g.dest + (g.len - 1)
  if inPages g.dest then decide (g.dest % 4 = 0) && decide (g.len % 4 = 0) && inPages last
  else match memIdOf g.dest, memIdOf last with
    | some a, some b => decide (a = b) && (decide (a.1 ≠ 113) || decide (bulkBase + (total + 0xFFFFF) / 0x100000 * 0x100000 ≤ g.dest))
    | _, _ => false

/-- DEDUCED (log 117). -/
def segmentOk (bs : List Byte) (g : Segment) : Bool := decide (g.off + g.len ≤ imgTotal bs - 200) && segmentPlace (imgTotal bs) g

/-- BOOT.STAT.ERR of an image of which `bs` has been staged; 0 where it is accepted. DEDUCED (log 117). -/
def imageError (d : Device) (bs : List Byte) : Nat :=
  let slot := imgSlot bs
  let key := slice bs (imgTrailer bs + 4) 97
  if numBE (slice bs 0 4) ≠ 0x534B4E49 ∨ numBE (slice bs 4 2) ≠ 1 ∨ ¬ (1 ≤ imgNseg bs ∧ imgNseg bs ≤ 64) ∨ 63 < imgRbVer bs ∨
      imgTotal bs < 504 + 16 * imgNseg bs ∨ 0x2000000 < imgTotal bs ∨ bs.length < imgTotal bs then 1
  else if 3 < slot ∨ Config.sha384 key ≠ Config.keyHash slot then 2
  else if Config.keyRevoked slot then 3
  else if ¬ Config.ecdsaValid key (Config.sha384 (bs.take (imgTotal bs - 200))) (numBE (slice bs (imgTrailer bs + 104) 48))
      (numBE (slice bs (imgTrailer bs + 152) 48)) then 4
  else if imgRbVer bs < rbLevel d then 5
  else if ¬ (imgSegments bs).all (segmentOk bs) then 6
  else 0

/-- The image that stands in the staging area, of at most n bytes; none where it cannot be read clean. -/
def stagedImage (n : Nat) (m : Memory) (d : Device) : Option (List Byte) × Device :=
  match readMem bulkBase n m d with
  | some r => (if r.1.poison then none else some r.1.bytes, r.2)
  | none => (none, d)

/-- Segments are copied in table order, as far as the first that is refused (R595). -/
def copySegments (bs : List Byte) : List Segment → DM → DM × Bool
  | [], s => (s, true)
  | g :: gs, s =>
    if g.len = 0 then copySegments bs gs s
    else
      let r := writeAt (bootReq s.1) g.dest (slice bs g.off g.len) [] s
      if r.2.1 = stOk then copySegments bs gs r.1 else (r.1, false)

/-- Revoked key slots, as IMG_INFO shows them. -/
def revokedSlots : Nat := ((List.range 4).map (fun i => 2 ^ i * b2n (Config.keyRevoked i))).sum

/-- The staged image is verified and copied: what it was, its error, and the state. DEDUCED (log 117). -/
def takeImage (n : Nat) (s : DM) : Option (List Byte) × Nat × DM :=
  let r := stagedImage n s.2 s.1
  let s : DM := (r.2, s.2)
  match r.1 with
  | none => (none, 4, s)
  | some bs =>
    let e := imageError s.1 bs
    if e ≠ 0 then (none, e, s)
    else
      let c := copySegments bs (imgSegments bs) s
      if c.2 then
        (some bs, 0, (wr pgBoot Reg.BOOT.IMG_INFO (wd (imgRbVer bs * 256 + revokedSlots * 16 + imgSlot bs)) c.1.1, c.1.2))
      else (none, 7, c.1)

/-! ## The end of BOOT (R593, R605, R464) -/

/-- Core k as its entry in the image says, but for RUN. -/
def bootCore (bs : List Byte) (k : Nat) (d : Device) : Device :=
  let f := wd (numBE (slice bs (20 + 8 * k) 4))
  d |> bootPut (pgCore k) Reg.CORE.START_PC (wd (numBE (slice bs (16 + 8 * k) 4)))
    |> bootPut (pgCore k) Reg.CORE.DET_BASE (wd (fld f 8 6 * 65536))
    |> bootPut (pgCore k) Reg.CORE.CTL (setBit (rd d (pgCore k) Reg.CORE.CTL) 1 (bit f 1))
/-- DEDUCED (log 118). DESIGN CHOICE (log 120). -/
def bootRun (bs : List Byte) (k : Nat) (d : Device) : Device :=
  if bit (wd (numBE (slice bs (20 + 8 * k) 4))) 0 then
    bootPut (pgCore k) Reg.CORE.CTL (setBit (rd d (pgCore k) Reg.CORE.CTL) 0 true) d
  else d

/-- ETH0 comes up with the control engine. -/
def hostPort (d : Device) : Device := d |> writeEnable (pgEth 0) true |> writeEnable pgUandi true

/-- CONFIGURE is entered with an accepted image from a source. -/
def bootDone (bs : List Byte) (source : Nat) (d : Device) : Device :=
  let d := forEach (List.range 36) (bootCore bs) d
  let d := modeChange .configure { d with sys := { d.sys with
    configured := true, bootAt := none, hostImage := false, verifyDue := false, received := 0, total := none } }
  let d := hostPort (writeEnable (pgEth 1) true d)
  let d := d |> wr pgBoot Reg.BOOT.STAT (wd (2 ^ 31 + source * 2 ^ 24)) |> wr pgBoot Reg.BOOT.TIME (wd (d.time.now / 1280)) |> raise pgBoot 0
  forEach (List.range 36) (bootRun bs) d

/-- A source has failed (R602). DEDUCED (log 118). -/
def bootFail (err : Nat) (d : Device) : Device := d |> wrF pgBoot Reg.BOOT.STAT 0 8 err |> raise pgBoot 1

/-- The host's image is waited for (R594). -/
def awaitHost (d : Device) : Device :=
  hostPort { d with sys := { d.sys with bootAt := some d.time.now, hostImage := true, received := 0, total := none } }

/-! ## Image sources (R594, R596, R607) -/

/-- A copy that the flash delivered is staged. DEDUCED (log 88). -/
def stageBytes (bs : List Byte) (s : DM) : DM := (writeMem bulkBase (bs.take 0x2000000) (fun _ => false) s).getD s

/-- The read command of the fuse map's mode, its address and its dummy cycles (R594). -/
def flashRead (addr : Nat) : Sent :=
  if Config.xspiOctal then .flashRead 0xEE11 addr 20 else .flashRead 0x13 addr 0

/-- One read sequence of the flash: the image, or a failure. A flash that gives no DQS fails so in 8D-8D-8D mode only; in the other mode,
which has no DQS, it delivers no image (R607). -/
def flashCopy (second : Bool) (copy : Option (List Byte)) (s : DM) : Option (List Byte) × DM :=
  let s : DM := (emit (flashRead (if second then 0x2000000 else 0)) s.1, s.2)
  let failed := fun (s : DM) => (raise pgXspi 0 (wrB pgXspi Reg.XSPI.XSTAT 0 true s.1), s.2)
  if copy = none ∧ Config.xspiOctal then
    let t := failed s
    (none, wrB pgXspi Reg.XSPI.XSTAT 1 true t.1, t.2)
  else
    let bs := copy.getD []
    let r := takeImage bs.length (stageBytes bs s)
    match r.1 with
    | some im => (some im, wrB pgXspi Reg.XSPI.XSTAT 2 second r.2.2.1, r.2.2.2)
    | none => (none, failed (bootFail r.2.1 r.2.2.1, r.2.2.2))

/-- The flash, both copies; where both fail the host is asked. -/
def bootFlash (c1 c2 : Option (List Byte)) (s : DM) : DM :=
  let a := flashCopy false c1 s
  match a.1 with
  | some bs => (bootDone bs 0 a.2.1, a.2.2)
  | none =>
    let b := flashCopy true c2 a.2
    match b.1 with
    | some bs => (bootDone bs 0 b.2.1, b.2.2)
    | none => (awaitHost (bootFail (rdF b.2.1 pgBoot Reg.BOOT.STAT 0 8) b.2.1), b.2.2)

/-- ERR of a host's image that fails: XSPI_ERR where the flash has failed before it (R607). -/
def hostError (d : Device) (e : Nat) : Nat := if d.sys.straps.bootsel = 0 then 9 else e

/-- The banks that hold the first n bytes of bulk SRAM were all retained. -/
def stagingKept (d : Device) (n : Nat) : Bool :=
  (List.range ((n + 0xFFFFF) / 0x100000)).all (fun b =>
    if b < 32 then rdB d pgMode Reg.MODE.RET_MASK_LO b else rdB d pgMode Reg.MODE.RET_MASK_HI (b - 32))

/-- A retained image, after a RETAIN wake (R596). -/
def retainedImage (s : DM) : Option (List Byte) × DM :=
  if ¬ (s.1.sys.wakeBoot ∧ stagingKept s.1 16) then (none, s)
  else
    let h := stagedImage 16 s.2 s.1
    let s : DM := (h.2, s.2)
    match h.1 with
    | none => (none, s)
    | some bs =>
      if imgTotal bs ≤ 0x2000000 ∧ stagingKept s.1 (imgTotal bs) then
        let r := takeImage (imgTotal bs) s
        (r.1, r.2.2)
      else (none, s)

/-! ## RESET (R593) -/

/-- The reference locks as BOOT begins, where REFIN is within range, and a RETAIN wake is made up (R49, R591). DESIGN CHOICE (log 11). -/
def bootLock (d : Device) : Device :=
  let d := if d.time.refinOk then refLockDone d else d
  if makeupReady d then makeUp d else d

/-- Ticks pass in BOOT; a ROOT whose time line runs sends its SYNC word at 2^18 (R63). DESIGN CHOICE (log 119). -/
def bootTicks (n : Nat) (d : Device) : Device :=
  let run := tlRuns d
  let was := d.time.tl.toNat
  let d := { d with time := { d.time with now := d.time.now + n } }
  let d := if d.time.wakeAt.isSome then slowTicks (n / 1280) d else d
  if run then
    let d := { d with time := { d.time with
      tl := d.time.tl + BitVec.ofNat 64 n, midnight := d.time.midnight || decide (was / 2 ^ 48 ≠ (was + n) / 2 ^ 48) } }
    if d.sys.straps.root ∧ was ≤ 262144 ∧ 262144 < was + n ∧ ¬ rdB d pgTb Reg.TB.SYNC_STAT 2 then syncSend d else d
  else d

/-- A boot can begin: the device is in BOOT and has not begun one. DESIGN CHOICE (log 119). -/
def bootReady (d : Device) : Bool :=
  decide (d.sys.mode = .boot) && !d.sys.configured && d.sys.bootAt.isNone && d.sys.dawn.isNone

/-- Steps 1 to 4 of R593. DEDUCED (log 118). -/
def bootFirst (x : BootRun) (d : Device) : Device :=
  let straps := if d.sys.wakeBoot then d.sys.straps else x.straps
  let d := bootTicks x.ticks (bootLock { d with sys := { d.sys with straps := straps } })
  let d := d |> applySpares |> selfTest x.decoders x.banks |> wrB pgDawn hPAGE_CTL 0 true
  let d := if straps.dawnEn ∨ Config.dawnForce then bootDawn x.dawn x.dawnTicks d else d
  let d := trainLinks x.board x.lanes (forEach (List.range 8) (fun l => writeEnable (pgLink l) true) d)
  if straps.root then discovery x.board d else d

/-- The whole of BOOT, or as far as the wait for an image from outside. DESIGN CHOICE (log 119). -/
def bootAll (x : BootRun) (s : DM) : DM :=
  if ¬ bootReady s.1 then s
  else
    let s : DM := (bootFirst x s.1, s.2)
    let r := retainedImage s
    match r.1 with
    | some bs => (bootDone bs 3 r.2.1, r.2.2)
    | none =>
      let s := r.2
      if s.1.sys.straps.bootsel = 0 then bootFlash x.copy1 x.copy2 s
      else if s.1.sys.straps.bootsel = 2 then
        ({ s.1 with sys := { s.1.sys with bootAt := some s.1.time.now, hostImage := false } }, s.2)
      else (awaitHost s.1, s.2)

/-! ## Images that come later (R491, R594) -/

/-- VERIFY was written: a neighbour's image is verified; where it fails the host is asked. -/
def verifyNeighbour (s : DM) : DM :=
  if ¬ s.1.sys.verifyDue then s
  else
    let s : DM := ({ s.1 with sys := { s.1.sys with verifyDue := false } }, s.2)
    let r := takeImage (min 0x2000000 (rd s.1 pgBoot Reg.BOOT.IMG_LEN).toNat) s
    match r.1 with
    | some bs => (bootDone bs 2 r.2.2.1, r.2.2.2)
    | none => (awaitHost (bootFail r.2.1 r.2.2.1), r.2.2.2)

/-- No VERIFY has come in 10 s. DEDUCED (log 118). -/
def sourceLate (d : Device) : Bool :=
  decide (d.sys.mode = .boot) && !d.sys.hostImage && (match d.sys.bootAt with
    | some t => decide (t + 12800000000 ≤ d.time.now)
    | none => false)
/-- DEDUCED (log 118). -/
def sourceTimeout (d : Device) : Device := if sourceLate d then awaitHost (bootFail 8 d) else d

/-- A chunk of the host's image is staged, as far as TOTAL (R491): the bytes received so far. DEDUCED (log 88). -/
def stageChunk (off total : Nat) (data : List Byte) (s : DM) : DM :=
  let bs := data.take (total - off)
  let s := if bs = [] then s else (writeMem (bulkBase + off) bs (fun _ => false) s).getD s
  ({ s.1 with sys := { s.1.sys with received := off + bs.length, total := some total } }, s.2)

end Sys2Proof.Machine
end

