-- ==== Sys2Proof/Machine/SessOps.lean ====
section
/-! DEFINITION. What the Uandi control engine does with a message (spec/13, R476 to R491): its place in the session's sequence, the
operations, and requests in progress at other devices or behind an abort. -/

namespace Sys2Proof.Machine

/-! ## Requests and their bodies (R477, R478) -/

def opOpen : Nat := 0x01
def opClose : Nat := 0x02
def opRead : Nat := 0x10
def opWrite : Nat := 0x11
def opReadBlock : Nat := 0x12
def opWriteBlock : Nat := 0x13
def opRmw : Nat := 0x14
def opFence : Nat := 0x15
/-- DEDUCED (log 90). -/
def opAbort : Nat := 0x16
def opSubscribe : Nat := 0x20
def opCredit : Nat := 0x30
def opLoadImage : Nat := 0x40

/-- The opcodes that name an address. -/
def isAccess (op : Nat) : Bool := decide (opRead ≤ op) && decide (op ≤ opRmw) || decide (op = opAbort)
def isBlock (op : Nat) : Bool := decide (op = opReadBlock) || decide (op = opWriteBlock)

/-- The fabric address of a request, its length in bytes, and the aligned words it touches. -/
def reqAddr (q : SessReq) : Nat := numBE (slice q.body 2 6)
def reqLen (q : SessReq) : Nat := if isBlock q.opcode then numBE (slice q.body 8 4) else 4
def reqWords (q : SessReq) : Nat := (wordsOf (localOf (reqAddr q)) (reqLen q)).length

/-- The destination of a request's access, if it has one. -/
def reqDest (d : Device) (q : SessReq) : Option Nat :=
  if isAccess q.opcode then
    let x := destOf (reqAddr q)
    some (if x = 0xFFF then myId d else x)
  else none
def reqHome (d : Device) (q : SessReq) : Bool := isHome d (destOf (reqAddr q))

/-- n rounded up to a multiple of 4. -/
def up4 (n : Nat) : Nat := (n + 3) / 4 * 4

/-- The length of body that an opcode and its fields ask for. -/
def bodyLen (q : SessReq) : Nat :=
  if q.opcode = opRead ∨ q.opcode = opAbort then 8
  else if q.opcode = opWrite ∨ q.opcode = opReadBlock then 12
  else if q.opcode = opRmw then 16
  else if q.opcode = opWriteBlock then up4 (12 + up4 (reqLen q) + (if q.poison then (reqWords q + 7) / 8 else 0))
  else if q.opcode = opSubscribe then 132
  else 0

/-- An opcode that exists. DEDUCED (log 98). -/
def knownOp (op : Nat) : Bool :=
  isAccess op || [opOpen, opClose, opFence, opSubscribe, opLoadImage].contains op

/-- The format of an access is right: address field, LEN, boundary, alignment (R477, R478). An access of registers whose alignment or
length is wrong reaches its page, which answers it (R30). DEDUCED (log 86). -/
def accessFormat (q : SessReq) : Bool :=
  let a := localOf (reqAddr q)
  let n := reqLen q
  let pages := inPages a
  decide (numBE (slice q.body 0 2) = 0) && decide (1 ≤ n) && decide (n ≤ 8192) && decide (a + n ≤ 2 ^ 36) &&
    (decide (a % 4 = 0) || isBlock q.opcode || (pages && decide (q.opcode ≠ opAbort))) &&
    (decide (q.opcode ≠ opAbort) || (pages && decide (a % 4096 = 0)))

/-- The format of a request is right. DEDUCED (log 86). -/
def formatOk (q : SessReq) : Bool :=
  if q.opcode = opLoadImage then decide (12 ≤ q.body.length) && decide (q.body.length % 4 = 0)
  else decide (q.body.length = bodyLen q) && (!isAccess q.opcode || accessFormat q) &&
    (decide (q.opcode ≠ opSubscribe) || decide (numBE (slice q.body 0 1) ≤ 2))

/-- Data of a write, with the poison of the words it touches. -/
def reqData (q : SessReq) : List Byte :=
  if q.opcode = opWrite then (slice q.body 8 4).reverse
  else if q.opcode = opRmw then (slice q.body 12 4).reverse
  else slice q.body 12 (reqLen q)
/-- DEDUCED (log 86). -/
def mapBit (m : List Byte) (i : Nat) : Bool := (m.getD (i / 8) 0#8).getLsbD (7 - i % 8)
/-- DEDUCED (log 86). -/
def reqBad (q : SessReq) : List Bool :=
  (List.range (reqWords q)).map (fun i =>
    q.poison && (decide (q.opcode ≠ opWriteBlock) || mapBit (q.body.drop (12 + up4 (reqLen q))) i))

/-- The body that answers a read of data (R477, R480). -/
def readBody (q : SessReq) (r : ReadOut) : List Byte :=
  if q.opcode = opReadBlock then (if r.poison then padTo 4 r.bytes ++ poisonMap r.bad else r.bytes) else r.bytes.reverse

/-! ## When a request starts and ends (R481, R482, R487, R531) -/

/-- A block that travels on VC2 (R531). -/
def longBlock (d : Device) (q : SessReq) : Bool := isBlock q.opcode && decide (256 < reqLen q) && !reqHome d q

/-- A request in progress holds back a later one of its session (R482, R487, R531). -/
def holdsBack (d : Device) (f q : SessReq) : Bool :=
  let same := decide (reqDest d q = reqDest d f) && (reqDest d q).isSome
  (same && (decide (f.opcode = opAbort) || longBlock d f || longBlock d q)) ||
    (decide (f.opcode = opLoadImage) && ((reqDest d q).isNone || reqHome d q))

/-- A write on this device waits for an abort (R45). DEDUCED (log 25). -/
def waitsAbort (d : Device) (q : SessReq) : Bool :=
  let a := localOf (reqAddr q)
  (decide (q.opcode = opWrite) || decide (q.opcode = opWriteBlock) || decide (q.opcode = opRmw)) && reqHome d q && formatOk q &&
    writeWaits d a (reqLen q)

/-- The next request of session s can start: none of a generation that an accepted OPEN ends (R484). -/
def canStart (d : Device) (s : Nat) (q : SessReq) : Bool :=
  let fly := (sessOf d s).fly
  uandiOn d && !asleep d && (sessOf d s).opening.isNone && !fly.any (fun f => holdsBack d f q) && !waitsAbort d q && (decide (q.opcode ≠ opFence) || decide (fly = []))

/-- What follows the end of a session's last request in progress: it closes, or its accepted OPEN is performed. -/
def flyEmpty (s : Nat) (d : Device) : Device :=
  let x := sessOf d s
  if x.fly ≠ [] then d
  else
    let d := if x.closing then closeSession s d else d
    match x.opening with
    | some q => openSession s q d
    | none => d

/-- A request in progress ends. DEDUCED (log 87). -/
def flyEnds (s seq status : Nat) (poison : Bool) (body : List Byte) (d : Device) : Device :=
  let x := sessOf d s
  match x.fly.find? (fun q => decide (q.seq = seq)) with
  | none => d
  | some q => flyEmpty s (respond s q status poison body (setSess s { x with fly := x.fly.erase q } d))

/-- A request goes into progress. -/
def takeOff (s : Nat) (q : SessReq) (d : Device) : Device :=
  setSess s { sessOf d s with fly := (sessOf d s).fly ++ [q] } d

/-! ## Operations -/

/-- A session as a requester. -/
def sessReq (d : Device) (s : Nat) : Requester := ownReq d .session (Fin.ofNat 64 s)

/-- The body that reports a write block: bytes written, once it was begun (R479). DEDUCED (log 89). -/
def writeBody (q : SessReq) (status count : Nat) : List Byte :=
  if q.opcode = opWriteBlock ∧ (status = stOk ∨ (0x0100 ≤ status ∧ status < 0x0200)) then bytesBE 4 count else []

/-- An access on this device (R478 to R480). -/
def accessHome (s : Nat) (q : SessReq) (t : DM) : DM :=
  let a := localOf (reqAddr q)
  let n := reqLen q
  let who := sessReq t.1 s
  let write := !(decide (q.opcode = opRead) || decide (q.opcode = opReadBlock))
  if ¬ rangeOk t.1 a n write then (respond s q stDecode false [] t.1, t.2)
  else if q.opcode = opRead ∨ q.opcode = opReadBlock then
    let r := readAt who a n t.2 t.1
    match r.2 with
    | .ok x => (respond s q stOk x.poison (readBody q x) r.1, t.2)
    | .err st => (respond s q st false [] r.1, t.2)
  else if q.opcode = opRmw then
    let r := rmwAt who a (wd (numBE (slice q.body 8 4))) (wd (numLE (reqData q))) q.poison t
    match r.2 with
    | .ok x => (respond s q stOk x.poison (readBody q x) r.1.1, r.1.2)
    | .err st => (respond s q st false [] r.1.1, r.1.2)
  else if q.opcode = opAbort then (takeOff s q (abortStart ((a - pageBase) / 4096) t.1), t.2)
  else
    let r := writeAt who a (reqData q) (reqBad q) t
    (respond s q r.2.1 false (writeBody q r.2.1 r.2.2) r.1.1, r.1.2)

/-- The operation of a fabric request (R528). -/
def fabOp (op : Nat) : Nat :=
  if op = opRead ∨ op = opReadBlock then 1 else if op = opWrite ∨ op = opWriteBlock then 2 else if op = opRmw then 3 else 4

/-- An access on another device; without a route it ends at once (R26). -/
def accessFar (s : Nat) (q : SessReq) (d : Device) : Device :=
  let a := localOf (reqAddr q)
  let n := reqLen q
  let op := fabOp q.opcode
  let data := if op = 2 ∨ op = 3 then wordsFor a (reqData q) (reqBad q) else []
  let mask := if op = 3 then numBE (slice q.body 8 4) else 0
  let r := issueReq (.sess s q.seq) (sessReq d s) (destOf (reqAddr q)) (if longBlock d q then 2 else 0) op a n mask data d
  match r.2 with
  | some _ => takeOff s q r.1
  | none => respond s q stRouting false [] r.1

/-- An access: its rights first, over its whole range (R479, R486). -/
def performAccess (s : Nat) (q : SessReq) (t : DM) : DM :=
  let op := q.opcode
  let r := decide (op = opRead) || decide (op = opReadBlock) || decide (op = opRmw)
  let w := decide (op = opWrite) || decide (op = opWriteBlock) || decide (op = opRmw) || decide (op = opAbort)
  if ¬ aclAllows t.1 s (reqAddr q) (reqLen q) r w then (respond s q 0x0301 false [] t.1, t.2)
  else if reqHome t.1 q then accessHome s q t
  else (accessFar s q t.1, t.2)

/-- EVENT_SUBSCRIBE (R489). -/
def performSubscribe (s : Nat) (q : SessReq) (d : Device) : Device :=
  if ¬ sessRight d s 1 then respond s q 0x0301 false [] d
  else
    let x := sessOf d s
    let m := sourceMap (slice q.body 4 128)
    let subs := match numBE (slice q.body 0 1) with
      | 0 => m
      | 1 => x.subs ||| m
      | _ => x.subs &&& ~~~ m
    respond s q stOk false (bytesBE 4 (countBits subs)) (setSess s { x with subs := subs, hold := numBE (slice q.body 2 2) } d)

/-- LOAD_IMAGE (R491). DEDUCED (log 88). -/
def performLoad (s : Nat) (q : SessReq) (t : DM) : DM :=
  let d := t.1
  let off := numBE (slice q.body 0 4)
  let total := numBE (slice q.body 4 4)
  let last := decide (numBE (slice q.body 8 1) % 2 = 1)
  let say := fun (st : Nat) => (respond s q st false [] d, t.2)
  if ¬ sessRight d s 3 then say 0x0301
  else if ¬ (d.sys.mode = .boot ∧ d.sys.hostImage) then say 0x0308
  else if 0x2000000 < total then say 0x0303
  else if off ≠ d.sys.received ∨ d.sys.verify.isSome ∨ (d.sys.total.isSome ∧ d.sys.total ≠ some total) then say 0x0401
  else
    let u := stageChunk off total (q.body.drop 12) t
    if last then (takeOff s q { u.1 with sys := { u.1.sys with verify := some (s, q) } }, u.2)
    else (respond s q stOk false (bytesBE 4 u.1.sys.received) u.1, u.2)

/-- A request is performed, or goes into progress. DEDUCED (log 86). DEDUCED (log 90). -/
def performReq (s : Nat) (q : SessReq) (t : DM) : DM :=
  let d := t.1
  if ¬ knownOp q.opcode then (respond s q 0x0302 false [] d, t.2)
  else if ¬ formatOk q then (respond s q 0x0303 false [] d, t.2)
  else if q.opcode = opOpen then (respond s q 0x0307 false [] d, t.2)
  else if q.opcode = opClose then (closeSession s (respond s q stOk false [] d), t.2)
  else if q.opcode = opFence then (respond s q stOk false [] d, t.2)
  else if q.opcode = opSubscribe then (performSubscribe s q d, t.2)
  else if q.opcode = opLoadImage then performLoad s q t
  else performAccess s q t

/-- Verification of a host's image is over: the last chunk is answered, and BOOT goes on with a good image (R491). -/
def verifyHost (t : DM) : DM :=
  match t.1.sys.verify with
  | none => t
  | some (s, q) =>
    let d := { t.1 with sys := { t.1.sys with verify := none } }
    let n := d.sys.received
    let r := takeImage n (d, t.2)
    match r.1 with
    | some bs => (bootDone bs 1 (flyEnds s q.seq stOk false (bytesBE 4 n) r.2.2.1), r.2.2.2)
    | none =>
      let d := bootFail (hostError d r.2.1) r.2.2.1
      (flyEnds s q.seq 0x0402 false [] { d with sys := { d.sys with received := 0, total := none } }, r.2.2.2)

/-! ## Sequence (R481) -/

/-- Buffered requests of session s whose turn has come start, one after the other. -/
def sessionGo (s : Nat) : Nat → DM → DM
  | 0, t => t
  | n + 1, t =>
    let x := sessOf t.1 s
    match x.slots.find? (fun q => decide (q.seq = x.next)) with
    | none => t
    | some q =>
      if x.opened ∧ canStart t.1 s q then
        sessionGo s n (performReq s q (setSess s { x with slots := x.slots.erase q, next := (x.next + 1) % 2 ^ 32 } t.1, t.2))
      else t

/-- Aborts that sessions of this device asked for and that are over are answered (R487). -/
def abortsAnswered (s : Nat) (d : Device) : Device :=
  forEach ((sessOf d s).fly.filter (fun q => decide (q.opcode = opAbort) && reqHome d q)) (fun q d =>
    let p := (localOf (reqAddr q) - pageBase) / 4096
    if aborting d p then d
    else flyEnds s q.seq stOk false [BitVec.ofNat 8 (rdF d p hPAGE_STAT 2 2), 0#8, 0#8, 0#8] d) d

/-- Every session goes on as far as it can. -/
def sessionsOn (t : DM) : DM :=
  forEach (List.range 16) (fun s t => sessionGo s 65 (abortsAnswered s t.1, t.2)) t

/-- A request is placed by its sequence number. -/
def placeReq (s : Nat) (q : SessReq) (d : Device) : Device :=
  let x := sessOf d s
  let k := (q.seq + 2 ^ 32 - x.next) % 2 ^ 32
  if k < 64 then
    if x.slots.any (fun e => decide (e.seq = q.seq)) then d else setSess s { x with slots := x.slots ++ [q] } d
  else if 2 ^ 32 - 64 ≤ k then
    if x.fly.any (fun e => decide (e.seq = q.seq)) then d
    else match x.cache.find? (fun e => decide (e.seq = q.seq)) with
      | some r => respondAgain s q r d
      | none => sendResponse s q false 0x0306 false [] d
  else sendResponse s q false 0x0306 false [] d

/-- The same source address and port. -/
def samePeer (a b : Peer) : Bool := decide (a.v6 = b.v6) && decide (a.ip = b.ip) && decide (a.port = b.port)

/-- The session is bound to the sender, or to nobody. -/
def boundTo (d : Device) (s : Nat) (p : Peer) : Bool :=
  match (sessOf d s).peer with
  | some b => samePeer b p
  | none => true

/-- A sequenced request of an open session (R481, R484). -/
def sequencedReq (s : Nat) (q : SessReq) (d : Device) : Device :=
  let x := sessOf d s
  if ¬ x.opened ∨ x.closing then sendResponse s q false 0x0304 false [] d
  else if q.gen ≠ x.gen then sendResponse s q false 0x0305 false [] d
  else if ¬ boundTo d s q.peer then discardMsg d
  else placeReq s q d

/-- An OPEN is accepted (R484): performed now, or when the old generation's requests have ended. One that waits gives way to a newer
one. -/
def acceptOpen (s : Nat) (q : SessReq) (d : Device) : Device :=
  let x := sessOf d s
  if x.fly = [] then openSession s q d
  else match x.opening with
    | none => setSess s { x with opening := some q } d
    | some o =>
      let g := (q.gen + 65536 - o.gen) % 65536
      if 1 ≤ g ∧ g ≤ 0x7FFF then setSess s { x with opening := some q } d else d

/-- OPEN (R484). DEDUCED (log 89). -/
def receiveOpen (s : Nat) (q : SessReq) (d : Device) : Device :=
  let x := sessOf d s
  let g := (q.gen + 65536 - x.gen) % 65536
  if ¬ sessRight d s 0 then sendResponse s q false 0x0301 false [] d
  else if ¬ x.ever ∨ (1 ≤ g ∧ g ≤ 0x7FFF) then acceptOpen s q d
  else if g = 0 ∧ x.opened ∧ ¬ x.closing then sequencedReq s q d
  else sendResponse s q false 0x0305 false [] d

/-- A message reaches the control engine through a port (R476, R488, R495). Requests are taken on ETH0 alone. DEDUCED (log 89). -/
def receiveMsg (e : Nat) (peer : Peer) (m : Msg) (t : DM) : DM :=
  let q : SessReq := { seq := m.seq, gen := m.gen, opcode := m.opcode, poison := m.poison, body := m.body, port := e, peer := peer }
  if ¬ uandiOn t.1 then (discardMsg t.1, t.2)
  else if m.opcode = opCredit then (creditMsg m t.1, t.2)
  else if e ≠ 0 then (discardMsg t.1, t.2)
  else if m.opcode = opOpen then sessionGo m.sess 65 (receiveOpen m.sess q t.1, t.2)
  else sessionGo m.sess 65 (sequencedReq m.sess q t.1, t.2)

/-- A payload for the control engine (R476). -/
def receivePayload (e : Nat) (x : RxUandi) (t : DM) : DM :=
  match parseMsg x.payload with
  | none => (discardMsg t.1, t.2)
  | some m => receiveMsg e x.peer m t

/-- A message of a command's operands, on ETH0. DEDUCED (log 89). -/
def commandMsg (h : UandiHead) (op : Nat) (body : List Byte) (t : DM) : DM :=
  if ethUp t.1 0 ∧ ¬ asleep t.1 then
    receiveMsg 0 h.peer { sess := h.sess.val, poison := h.poison, opcode := op, gen := h.gen.toNat, seq := h.seq.toNat, body := body } t
  else t

/-! ## Remote requests end (R482, R528) -/

/-- A response of another device ends a request of a session. -/
def sessAnswer (s : Nat) (o : OutReq) (status extra : Nat) (r : ReadOut) (d : Device) : Device :=
  match (sessOf d s).fly.find? (fun q => decide (.sess s q.seq = o.src)) with
  | none => d
  | some q =>
    let body :=
      if o.op = 4 then (if status = stOk then [BitVec.ofNat 8 extra, 0#8, 0#8, 0#8] else [])
      else if o.op = 2 then writeBody q status extra
      else if status = stOk then readBody q r else []
    flyEnds s q.seq status (decide (status = stOk) && decide (o.op % 2 = 1) && r.poison) body d

/-- A request of a session has had no answer for REMOTE_TO. -/
def remoteLate (d : Device) (o : OutReq) : Bool :=
  decide (o.sentAt + rdF d pgUandi Reg.UANDI.REMOTE_TO 0 16 * 1280 ≤ d.time.now)
def remoteTimeout (s seq : Nat) (d : Device) : Device :=
  match d.fab.out.find? (fun o => decide (o.src = .sess s seq)) with
  | none => d
  | some o =>
    if remoteLate d o then
      flyEnds s seq stTimeout false [] { d with fab := { d.fab with out := d.fab.out.erase o } }
    else d

end Sys2Proof.Machine
end

