-- ==== Sys2Proof/Machine/FabRun.lean ====
section
/-! DEFINITION. Messages and MAINT flits as a device performs, forwards and consumes them (spec/15, R520, R522, R528 to R543), and what
follows a command within its instant: waiting messages, scans, sessions, cores, and EDGE entries (`settled`). -/

namespace Sys2Proof.Machine

/-! ## Arrival (R520 to R522) -/

/-- A flit that cannot be taken as it came: discarded, counted, and answered with a NAK (R520, R522). DEDUCED (log 98). -/
def badFlit (l : Nat) (d : Device) : Device :=
  if ¬ linkUp d l then d
  else
    let d := raise (pgLink l) 4 (bump (pgLink l) Reg.LINK.CRC_ERR d)
    if (linkOf d l).nakAt.isNone then sendNak l d else d

/-- A flit that a message with heads of a type can hold, on the VC of its first flit (R519, R520). DEDUCED (log 98). -/
def messageFlit (typ v : Nat) (f : Flit) : Bool :=
  (decide (f.typ = typ) || decide (f.typ = 3)) && decide (f.vc = v) && (decide (v = 0) || decide (v = 2))

/-- A head with data flits behind it, none but the last with TAIL (R519, R520). DEDUCED (log 98). -/
def messageShape (typ : Nat) (fs : List Flit) : Bool :=
  match fs with
  | [] => false
  | h :: ds =>
    decide (h.typ = typ) && ds.all (fun f => decide (f.typ = 3) && decide (f.dest = h.dest) && decide (f.src = h.src)) &&
      fs.dropLast.all (fun f => !f.tail)

/-- The flits of a message that came whole (R518). -/
def messageWhole (fs : List Flit) : Bool := match fs.getLast? with | some f => f.tail | none => false

/-- Each flit passes the link's checks (R520, R522): those that were accepted. -/
def acceptAll (typ l : Nat) (fs : List Flit) (d : Device) : Device × List Flit :=
  let v := match fs with | f :: _ => f.vc | [] => 0
  fs.foldl (fun (st : Device × List Flit) f =>
    if messageFlit typ v f then
      let r := acceptSeq l f st.1
      (r.1, if r.2 then st.2 ++ [f] else st.2)
    else (badFlit l st.1, st.2)) (d, [])

/-- The flits on VC v of link l of a message that has not arrived whole (R520). -/
def partsOf (d : Device) (l v : Nat) : List Flit := (linkOf d l).parts.get (fun _ => []) v
def setParts (l v : Nat) (fs : List Flit) (d : Device) : Device :=
  setLink l { linkOf d l with parts := (linkOf d l).parts.set (fun _ => []) v fs } d

/-- The flits of a message leave their places at link l. -/
def consumed (l : Nat) (fs : List Flit) (d : Device) : Device := forEach fs (fun f => oweCredit l f.vc) d

/-! ## Requests performed here (R528 to R530) -/

/-- The requester that a head names. -/
def kindOf (n : Nat) : ReqKind := if n = 1 then .core else if n = 2 then .session else .master
def headReq (f : Flit) : Requester :=
  let b := numBE (slice f.payload 3 1)
  { devid := BitVec.ofNat 12 f.src, kind := kindOf (b / 64), index := Fin.ofNat 64 b
    uid := some (BitVec.ofNat 64 (numBE (slice f.payload 16 8))) }
def headTag (f : Flit) : Nat := numBE (slice f.payload 0 2)
def headOp (f : Flit) : Nat := numBE (slice f.payload 2 1)
def headAddr (f : Flit) : Nat := numBE (slice f.payload 4 5) % 2 ^ 36
def headLen (f : Flit) : Nat := numBE (slice f.payload 9 3)

/-- A response leaves. -/
def sendResp (h : Flit) (status extra : Nat) (data : List (Nat × Bool)) (len : Nat) (d : Device) : Device :=
  routeFlits none (respHead d h.src h.vc (headTag h) (headOp h) status extra len (decide (data = [])) ::
    dataFlits d h.src h.vc (data.length + 1) data) d

/-- The answer to a read. -/
def answerRead (h : Flit) (g : Got) (d : Device) : Device :=
  match g with
  | .ok r => sendResp h stOk 0 (wordsFor (headAddr h) r.bytes r.bad) r.bytes.length d
  | .err st => sendResp h st 0 [] 0 d

/-- A request of another device is performed. -/
def performHead (h : Flit) (ds : List Flit) (s : DM) : DM :=
  let who := headReq h
  let a := headAddr h
  let n := headLen h
  let x := bytesFrom a n (flitWords ds)
  if n = 0 ∨ 8192 < n ∨ 2 ^ 36 < a + n then (sendResp h 0x0303 0 [] 0 s.1, s.2)
  else match headOp h with
    | 1 =>
      let r := readAt who a n s.2 s.1
      (answerRead h r.2 r.1, s.2)
    | 2 =>
      let r := writeAt who a x.bytes x.bad s
      (sendResp h r.2.1 r.2.2 [] 0 r.1.1, r.1.2)
    | 3 =>
      let r := rmwAt who a (wd (numBE (slice h.payload 12 4))) (wd (numLE (x.bytes.take 4))) (x.bad.any (fun b => b)) s
      (answerRead h r.2 r.1.1, r.1.2)
    | 4 =>
      match pageAt a with
      | some (p, _) =>
        if pageMapped s.1 p then
          let d := abortStart p s.1
          ({ d with fab := { d.fab with aborts := d.fab.aborts ++ [(p, h.src, h.vc, headTag h)] } }, s.2)
        else (sendResp h stDecode 0 [] 0 s.1, s.2)
      | none => (sendResp h stDecode 0 [] 0 s.1, s.2)
    | _ => (sendResp h 0x0302 0 [] 0 s.1, s.2)

/-! ## MAINT (R541 to R543) -/

/-- A MAINT payload's fields. -/
def mtOp (p : List Byte) : Nat := numBE (slice p 0 1)
def mtHops (p : List Byte) : Nat := numBE (slice p 1 1) / 16
def mtDone (p : List Byte) : Nat := numBE (slice p 1 1) % 16
def mtPath (p : List Byte) : List Byte := slice p 2 6
def mtRpath (p : List Byte) : List Byte := slice p 8 6
def mtUid (p : List Byte) : List Byte := slice p 14 8
def mtReq (p : List Byte) : Nat := numBE (slice p 22 1)
def mtOff (p : List Byte) : Nat := numBE (slice p 24 4)
def mtData (p : List Byte) : Nat := numBE (slice p 28 4)
def mtTag (p : List Byte) : Nat := numBE (slice p 32 2)
def mtStatus (p : List Byte) : Nat := numBE (slice p 34 2)

/-- DEDUCED (log 105). -/
def pathOf (bs : List Byte) : List Nat := (List.range 12).map (nibble bs)

/-- A MAINT flit bound for a link leaves, or waits for a credit; `src` issued it, and it has `hops` left (R518, R532). DEDUCED (log 105). -/
def sendMaint (l src hops : Nat) (payload : List Byte) (ingress : Option Nat) (d : Device) : Device :=
  pumpAll (park { flit := { typ := 7, vc := 3, dest := 0xFFF, src := src, hops := hops, payload := payload }
                  ingress := ingress, via := some l } d)

/-- The response to the request p leaves on its way back. `back` is RPATH as far as it is written. -/
def answerMaint (p : List Byte) (back : List Nat) (n op data status : Nat) (d : Device) : Device :=
  let path := back.reverse
  match path with
  | [] => d
  | l :: _ =>
    if linkUp d l then
      sendMaint l (myId d) (issueHops d) (maintPayload op n 0 (packPath path) (List.replicate 6 0#8) (mtUid p) (mtReq p) (mtOff p) data (mtTag p) status) none d
    else d

/-- The access of a MAINT request at its target: data and status (R542). -/
def maintAccess (p : List Byte) (s : DM) : DM × Nat × Nat :=
  let b := mtReq p
  let who : Requester := { devid := 0xFFF#12, kind := kindOf (b / 64), index := Fin.ofNat 64 b
                           uid := some (BitVec.ofNat 64 (numBE (mtUid p))) }
  let a := pageBase + mtOff p
  if mtOp p = 1 then
    let r := readAt who a 4 s.2 s.1
    match r.2 with
    | .ok x => ((r.1, s.2), numLE x.bytes, stOk)
    | .err st => ((r.1, s.2), 0, st)
  else
    let r := writeAt who a (bytesLE 4 (mtData p)) [] s
    (r.1, 0, r.2.1)

/-- A MAINT request at its target is performed and answered. -/
def maintPerform (p : List Byte) (s : DM) : DM :=
  let n := mtHops p
  let r := maintAccess p s
  (answerMaint p ((pathOf (mtRpath p)).take n) n (if mtOp p = 1 then 3 else 4) r.2.1 r.2.2 r.1.1, r.1.2)

/-- A write of a MAINT request here waits for an abort (R45). -/
def maintWaits (d : Device) (p : List Byte) : Bool := decide (mtOp p = 2) && writeWaits d (pageBase + mtOff p) 4

/-- The response to a request of this device (R543). -/
def maintTake (p : List Byte) (d : Device) : Device :=
  match d.fab.maint with
  | some (tag, _) =>
    if tag = mtTag p then
      let d := if mtOp p = 3 ∧ mtStatus p = stOk then wr pgFab Reg.FAB.MDATA (wd (mtData p)) d else d
      maintEnd (mtStatus p) d
    else bump pgFab Reg.FAB.LATE_RESP d
  | none => bump pgFab Reg.FAB.LATE_RESP d

/-- The next hop of a MAINT flit on its way: one with no hops left is dropped (R532), a link that is not up ends a request with ROUTING, and a
response is lost. DEDUCED (log 105). -/
def maintForward (l : Nat) (f : Flit) (back : List Nat) (done : Nat) (d : Device) : Device :=
  let p := f.payload
  let next := nibble (mtPath p) done
  if f.hops = 0 then oweCredit l 3 (raise pgFab 3 (bump pgFab Reg.FAB.HOP_DROP d))
  else if next < 8 ∧ linkUp d next then
    sendMaint next f.src (f.hops - 1) (maintPayload (mtOp p) (mtHops p) done (mtPath p) (packPath back) (mtUid p) (mtReq p) (mtOff p) (mtData p) (mtTag p)
      (mtStatus p)) (some l) d
  else
    let d := oweCredit l 3 d
    if mtOp p ≤ 2 then answerMaint p (back.take done) done (mtOp p + 2) 0 stRouting d else d

/-- A MAINT flit arrives on link l. DEDUCED (log 105). -/
def maintArrives (l : Nat) (f : Flit) (s : DM) : DM :=
  let p := f.payload
  let done := mtDone p + 1
  let back := if mtOp p ≤ 2 then (pathOf (mtRpath p)).set (mtDone p) l else pathOf (mtRpath p)
  if done < mtHops p then (maintForward l f back done s.1, s.2)
  else if mtOp p = 3 ∨ mtOp p = 4 then (maintTake p (oweCredit l 3 s.1), s.2)
  else if mtOp p = 1 ∨ mtOp p = 2 then
    let q := maintPayload (mtOp p) (mtHops p) done (mtPath p) (packPath back) (mtUid p) (mtReq p) (mtOff p) (mtData p) (mtTag p) 0
    let d := oweCredit l 3 s.1
    if maintWaits d q ∨ d.fab.later.any (fun e => decide (e.2.1.typ = 7)) then
      ({ d with fab := { d.fab with later := d.fab.later ++ [(some l, { f with payload := q }, [])] } }, s.2)
    else maintPerform q (d, s.2)
  else (oweCredit l 3 s.1, s.2)

/-- The MAINT request of this device has had no response for REQ_TO (R543). -/
def maintLate (d : Device) : Bool :=
  match d.fab.maint with
  | some m => decide (m.2 + rdF d pgFab Reg.FAB.REQ_TO 0 16 * 1280 ≤ d.time.now)
  | none => false
def maintTimeout (d : Device) : Device := if maintLate d then maintEnd stTimeout d else d

/-! ## Messages that wait behind an abort (R45) -/

/-- A request would write block registers that an abort holds. DEDUCED (log 25). -/
def headWaits (d : Device) (h : Flit) : Bool :=
  (decide (headOp h = 2) || decide (headOp h = 3)) && writeWaits d (headAddr h) (headLen h)

/-- A request for this device is performed, or waits; one behind a waiting message of its source waits too. -/
def reqArrives (h : Flit) (ds : List Flit) (s : DM) : DM :=
  let d := s.1
  if headWaits d h ∨ d.fab.later.any (fun e => decide (e.2.1.typ = 1) && decide (e.2.1.src = h.src)) then
    ({ d with fab := { d.fab with later := d.fab.later ++ [(none, h, ds)] } }, s.2)
  else performHead h ds s

/-- The first waiting message that need wait no longer. -/
def laterReady (d : Device) : Option (Option Nat × Flit × List Flit) :=
  d.fab.later.find? (fun e =>
    if e.2.1.typ = 7 then !maintWaits d e.2.1.payload && decide ((d.fab.later.find? (fun x => decide (x.2.1.typ = 7))) = some e)
    else !headWaits d e.2.1 &&
      decide ((d.fab.later.find? (fun x => decide (x.2.1.typ = 1) && decide (x.2.1.src = e.2.1.src))) = some e))

/-- Waiting messages are performed. -/
def laterOn : Nat → DM → DM
  | 0, s => s
  | n + 1, s => match laterReady s.1 with
    | none => s
    | some e =>
      let s : DM := ({ s.1 with fab := { s.1.fab with later := s.1.fab.later.erase e } }, s.2)
      laterOn n (if e.2.1.typ = 7 then maintPerform e.2.1.payload s else performHead e.2.1 e.2.2 s)

/-- Aborts that other devices asked for and that are over are answered (R528). -/
def fabAborts (d : Device) : Device :=
  forEach d.fab.aborts (fun a d =>
    if aborting d a.1 then d
    else
      let d := { d with fab := { d.fab with aborts := d.fab.aborts.erase a } }
      routeFlits none [respHead d a.2.1 a.2.2.1 a.2.2.2 4 stOk (rdF d a.1 hPAGE_STAT 2 2) 0 true] d) d

/-! ## Responses (R528, R533) -/

/-- What a read of a core brought. -/
def remoteOf (status : Nat) (r : ReadOut) : RemoteData :=
  if status = stOk then .ok r.bytes r.poison else if status = stDecode then .err 1 else .err 2

/-- A request of this device ends with a status. -/
def outEnds (o : OutReq) (status extra : Nat) (r : ReadOut) (s : DM) : DM :=
  match o.src with
  | .core k => coreAnswer k (remoteOf status r) s
  | .store k id => (storeEnds k id status s.1, s.2)
  | .cvu c => (scanTake c (o.dest * 2 ^ 36 + o.addr) (if status = stOk then .ok r else .err status) s.1, s.2)
  | .sess n _ => (sessAnswer n o status extra r s.1, s.2)

/-- A response is consumed. -/
def respArrives (h : Flit) (ds : List Flit) (s : DM) : DM :=
  let t := takeOut (headTag h) h.src s.1
  match t.2 with
  | none => (t.1, s.2)
  | some o =>
    outEnds o (numBE (slice h.payload 12 2)) (numBE (slice h.payload 16 4)) (bytesFrom o.addr o.len (flitWords ds)) (t.1, s.2)

/-- Flits of this device that are addressed to itself are taken (R534, step 1): a response ends its request, whatever destination that had; an
event is granted here (R540); a request is performed; a fence needs no answer. A message is its head and the data flits behind it. -/
def loopTake (h : Flit) (ds : List Flit) (s : DM) : DM :=
  if h.typ = 2 then
    match s.1.fab.out.find? (fun o => decide (o.tag = headTag h)) with
    | none => (bump pgFab Reg.FAB.LATE_RESP s.1, s.2)
    | some o =>
      outEnds o (numBE (slice h.payload 12 2)) (numBE (slice h.payload 16 4)) (bytesFrom o.addr o.len (flitWords ds))
        ({ s.1 with fab := { s.1.fab with out := s.1.fab.out.erase o } }, s.2)
  else if h.typ = 6 then (eventArrives h.payload s.1, s.2)
  else if h.typ = 1 then reqArrives h ds s
  else s
def loopOn (s : DM) : DM :=
  let fs := s.1.fab.loop
  forEach fs.zipIdx (fun e s =>
    if e.1.typ = 3 then s else loopTake e.1 ((fs.drop (e.2 + 1)).takeWhile (fun f => decide (f.typ = 3))) s)
    ({ s.1 with fab := { s.1.fab with loop := [] } }, s.2)

/-- A request of a core or a CVU has had no response for REQ_TO. -/
def outLate (d : Device) (o : OutReq) : Bool :=
  (match o.src with
   | .sess _ _ => false
   | _ => true) && decide (o.sentAt + rdF d pgFab Reg.FAB.REQ_TO 0 16 * 1280 ≤ d.time.now)
def reqTimeout (tag : Nat) (s : DM) : DM :=
  match s.1.fab.out.find? (fun o => decide (o.tag = tag) && outLate s.1 o) with
  | none => s
  | some o => outEnds o stTimeout 0 { bytes := [], bad := [] } ({ s.1 with fab := { s.1.fab with out := s.1.fab.out.erase o } }, s.2)

/-! ## Messages on a link -/

/-- A whole message has arrived on link l: taken by this device, or forwarded. -/
def messageTake (typ l : Nat) (fs : List Flit) (s : DM) : DM :=
  match fs with
  | [] => s
  | h :: ds =>
    if mine s.1 h then
      let d := consumed l fs s.1
      if typ = 1 then reqArrives h ds (d, s.2) else respArrives h ds (d, s.2)
    else (forwardFlits l fs s.1, s.2)

/-- Flits of a message arrive on link l, in their order on their VC: those accepted stand behind those of the same message that came before
them, with flits of other VCs between (R520). What is no message is dropped. DEDUCED (log 98). -/
def messageArrives (typ l : Nat) (fs : List Flit) (s : DM) : DM :=
  let r := acceptAll typ l fs s.1
  match r.2 with
  | [] => (r.1, s.2)
  | f :: _ =>
    let all := partsOf r.1 l f.vc ++ r.2
    if ¬ messageShape typ all then (consumed l all (setParts l f.vc [] r.1), s.2)
    else if messageWhole all then messageTake typ l all (setParts l f.vc [] r.1, s.2)
    else (setParts l f.vc all r.1, s.2)

/-- A sequenced flit that is a message of its own arrives on link l: `take` consumes it here. -/
def flitArrives (typ : Nat) (vcOk : Nat → Bool) (take : Flit → Device → Device) (l : Nat) (f : Flit) (d : Device) : Device :=
  if f.typ ≠ typ ∨ ¬ vcOk f.vc then badFlit l d
  else
    let r := acceptSeq l f d
    if ¬ r.2 then r.1
    else if mine r.1 f then take f (oweCredit l f.vc r.1)
    else forwardFlits l [f] r.1

/-- A FENCE at its destination is answered (R535). DESIGN CHOICE (log 101). -/
def fenceTake (f : Flit) (d : Device) : Device :=
  routeFlits none [{ typ := 9, vc := 3, dest := f.src, src := myId d, hops := issueHops d, payload := slice f.payload 0 1 }] d

/-- A FENCE_ACK releases what its fence holds (R535). DESIGN CHOICE (log 101). -/
def fenceAckTake (f : Flit) (d : Device) : Device :=
  match fenceOf d f.src (numBE (slice f.payload 0 1) % 4) with
  | some x => if x.byTime then d else releaseFence x.dest x.vc d
  | none => d

/-! ## What follows a command within its instant -/

/-- One round: copies, scans, answers, waiting messages, a neighbour's image, sessions, cores. DESIGN CHOICE (log 100). -/
def settleOnce (s : DM) : DM :=
  let s : DM := (scanAll s.2 (copyDue s.2 s.1), s.2)
  let s := laterOn 64 (loopOn s)
  let s : DM := (fabAborts s.1, s.2)
  coresOn (sessionsOn (verifyNeighbour s))

/-- As many rounds as one thing can lead to another. DESIGN CHOICE (log 100). -/
def settleAll (s : DM) : DM := settleOnce (settleOnce (settleOnce s))

/-- A command that can start or answer accesses: its effect, EDGE entries of what moved at the gate outputs (R497), and what
follows. DESIGN CHOICE (log 100). -/
def settled (f : DM → DM) (s : State) : Host.Outcome State Fault Refusal :=
  onBoth (fun s =>
    let t := settleAll (f s)
    (streamEdges s.1 t.1, t.2)) s

/-- The same for a command that does not itself touch memory. DESIGN CHOICE (log 100). -/
def settledD (f : Device → Device) (s : State) : Host.Outcome State Fault Refusal := settled (fun t => (f t.1, t.2)) s

end Sys2Proof.Machine
end

