-- ==== Sys2Proof/Machine/PageCmds.lean ====
section
/-! DEFINITION. The commands of spec/01: writes of page registers, the header's own writes, ERR_CODE, aborts and soft resets. -/

namespace Sys2Proof.Machine

/-- A page write as a command: the access, and what follows it within its instant. DEDUCED (log 123). -/
def writeCmd (p off : Nat) (w : Wr) (s : State) : Host.Outcome State Fault Refusal := settledD (writePage p off w) s

/-- A page read as a command. -/
def readCmd (p off : Nat) (who : Requester) (s : State) : Host.Outcome State Fault Refusal := onDev (readPage p off who) s

/-- The written word with the bits of a mask set, or cleared. DEDUCED (log 123). -/
def withOnes (w : Wr) (m : Word) : Wr := { w with data := w.data ||| m }
/-- DEDUCED (log 123). -/
def without (w : Wr) (m : Word) : Wr := { w with data := w.data &&& ~~~ m }

/-- An event of the device's own: it happens where it is due. DESIGN CHOICE (log 124). -/
def dueThen (due : Device → Bool) (f : Device → Device) (d : Device) : Device := if due d then f d else d

/-- A write access at a local address (R22, R30, R31). A core checks width and alignment itself, so that such an access of a core reaches
no page (R30). -/
def registerWrite (who : Requester) (a : Nat) (width : Width) (data : Word) (poison : Bool) (t : DM) : DM :=
  match pageAt a with
  | some (p, off) =>
    let aligned := decide (width = .w4) && decide (a % 4 = 0)
    if who.kind = .core ∧ ¬ aligned then t
    else if pageMapped t.1 p then (pageWrite p off aligned { who := who, data := data, poison := poison } t.1, t.2)
    else (answer (.error .decode) t.1, t.2)
  | none =>
    let r := writeAt who a (bytesLE (widthBytes width) data.toNat) [poison, poison] t
    (answer (if r.2.1 = stOk then .done else .error .decode) r.1.1, r.1.2)

/-- REGISTER_WRITE (R31). DEDUCED (log 32). DEDUCED (log 33). -/
def execRegisterWrite (who : Requester) (addr : LocalAddr) (width : Width) (data : Word) (poison : Bool) (s : State) :
    Host.Outcome State Fault Refusal := settled (registerWrite who addr.toNat width data poison) s

/-- ERR_CODE_READ (R34): the read clears ERR_CODE and leaves ERR_INFO. -/
def execErrCodeRead (page : Page) (who : Requester) (s : State) : Host.Outcome State Fault Refusal :=
  readCmd (pageNum page) hERR_CODE who s

/-- LOCK_WRITE (R35). -/
def execLockWrite (page : Page) (w : Wr) (s : State) : Host.Outcome State Fault Refusal := writeCmd (pageNum page) hLOCK w s

/-- OWNER_WRITE (R37). -/
def execOwnerWrite (page : Page) (w : Wr) (s : State) : Host.Outcome State Fault Refusal := writeCmd (pageNum page) hOWNER w s

/-- IRQ_FORCE (R40). -/
def execIrqForce (page : Page) (w : Wr) (s : State) : Host.Outcome State Fault Refusal := writeCmd (pageNum page) hIRQ_FORCE w s

/-- PAGE_ENABLE (R38): PAGE_CTL is written with SOFT_RST and ABORT 0. -/
def execPageEnable (page : Page) (w : Wr) (s : State) : Host.Outcome State Fault Refusal :=
  writeCmd (pageNum page) hPAGE_CTL (without w 6#32) s

/-- SOFT_RST (R39): PAGE_CTL is written with SOFT_RST 1. -/
def execSoftRst (page : Page) (w : Wr) (s : State) : Host.Outcome State Fault Refusal :=
  writeCmd (pageNum page) hPAGE_CTL (withOnes w 2#32) s

/-- SOFT_RST_COMPLETE (R39). -/
def execSoftRstComplete (page : Page) (s : State) : Host.Outcome State Fault Refusal := settledD (softRstDone (pageNum page)) s

/-- ABORT (R41): PAGE_CTL is written with ABORT 1. -/
def execAbort (page : Page) (w : Wr) (s : State) : Host.Outcome State Fault Refusal :=
  writeCmd (pageNum page) hPAGE_CTL (withOnes w 4#32) s

/-- ABORT_DONE (R42 to R45): an abort in progress finishes, unless it waits on another device (R46, R455). DESIGN CHOICE (log 27). -/
def execAbortDone (page : Page) (s : State) : Host.Outcome State Fault Refusal :=
  settledD (dueThen (fun d => aborting d (pageNum page) && !cannotQuiesce d (pageNum page)) (abortEnds (pageNum page))) s

/-- FORCED_ABORT (R46): 4.0 µs after the write of ABORT. DESIGN CHOICE (log 27). -/
def execForcedAbort (page : Page) (s : State) : Host.Outcome State Fault Refusal :=
  settledD (dueThen (fun d => abortOver d (pageNum page)) (abortForced (pageNum page))) s

end Sys2Proof.Machine
end

