-- ==== Sys2Proof/Machine/TimeCmds.lean ====
section
/-! DEFINITION. The commands of spec/02: the reference, Midnight, delay lines, time line compares, synchronisation, PTP, make-up. -/

namespace Sys2Proof.Machine

/-- REF_LOCK (R49): the reference locks while REFIN is within range. -/
def execRefLock (s : State) : Host.Outcome State Fault Refusal := onDev (dueThen (fun d => d.time.refinOk) refLockDone) s

/-- REF_LOSS (R50). DEDUCED (log 17). -/
def execRefLoss (s : State) : Host.Outcome State Fault Refusal := onEdges refLost s

/-- RELOCK (R51): REF_CTL is written with RELOCK 1. DEDUCED (log 18). -/
def execRelock (w : Wr) (s : State) : Host.Outcome State Fault Refusal := writeCmd pgTb Reg.TB.REF_CTL (withOnes w 1#32) s

/-- RELOCK_DONE (R51, R75). -/
def execRelockDone (s : State) : Host.Outcome State Fault Refusal := onDev relocked s

/-- REFIN_RETURN (R51). -/
def execRefinReturn (s : State) : Host.Outcome State Fault Refusal := onDev refinBack s

/-- MIDNIGHT (R57). -/
def execMidnight (s : State) : Host.Outcome State Fault Refusal := onDev midnightRaise s

/-- DL_CALIBRATION (R56): a calibration of group g ends with an error in fines, where the group has power. DESIGN CHOICE (log 128). -/
def execDlCalibration (g : Fin 32) (err : Nat) (s : State) : Host.Outcome State Fault Refusal :=
  onDev (dueThen (fun d => domainOn d (pgLg g.val) && !asleep d) (dlCalibrate g.val err)) s

/-- TLCMP_ARM (R60): TLCMP_HI of compare c is written. -/
def execTlcmpArm (c : Fin 8) (w : Wr) (s : State) : Host.Outcome State Fault Refusal := writeCmd pgTb (Reg.TB.TLCMP_HI c.val) w s

/-- TLCMP_FIRE (R60, R61). DESIGN CHOICE (log 124). -/
def execTlcmpFire (c : Fin 8) (s : State) : Host.Outcome State Fault Refusal :=
  onNet (dueThen (fun d => tlRuns d && compareDue d c.val) (compareFire c.val false)) s

/-- SYNC_WORD_SEND (R63). -/
def execSyncWordSend (s : State) : Host.Outcome State Fault Refusal := onDev (dueThen syncSendDue syncSend) s

/-- SYNC_WORD_RECEIVE (R63 to R66). -/
def execSyncWordReceive (hop : Byte) (stop : Bool) (edge : Nat) (s : State) : Host.Outcome State Fault Refusal :=
  onDev (syncWord hop.toNat stop edge) s

/-- SYNC_TIMEOUT (R65). -/
def execSyncTimeout (s : State) : Host.Outcome State Fault Refusal :=
  onDev (dueThen syncTimeoutDue (wrB pgTb Reg.TB.SYNC_STAT 3 true)) s

/-- TSYNC_EXCHANGE_START (R67, R539). -/
def execTsyncExchangeStart (l : Fin 8) (fine : Fin 64) (s : State) : Host.Outcome State Fault Refusal :=
  onDev (dueThen (fun d => exchangeDue d l.val) (exchangeStart l.val fine.val)) s

/-- TSYNC_REQUEST (R539). -/
def execTsyncRequest (l : Fin 8) (n : Nat) (t2 t3 : BitVec 64) (s : State) : Host.Outcome State Fault Refusal :=
  onDev (tsyncAnswer l.val n t2 t3) s

/-- TSYNC_RESPONSE (R67, R69 to R71). -/
def execTsyncResponse (l : Fin 8) (n : Nat) (t2 t3 t4 : BitVec 64) (s : State) : Host.Outcome State Fault Refusal :=
  onDev (tsyncTake l.val n t2 t3 t4) s

/-- TSYNC_TIMEOUT (R539). -/
def execTsyncTimeout (l : Fin 8) (s : State) : Host.Outcome State Fault Refusal :=
  onDev (dueThen (fun d => exchangeOver d l.val) (exchangeVoid l.val)) s

/-- REACQ (R69): SYNC_CTL is written with REACQ 1. -/
def execReacq (w : Wr) (s : State) : Host.Outcome State Fault Refusal := writeCmd pgTb Reg.TB.SYNC_CTL (withOnes w 1#32) s

/-- PTP_COMMIT (R74): PTP_CTL is written with COMMIT 1. -/
def execPtpCommit (w : Wr) (s : State) : Host.Outcome State Fault Refusal := writeCmd pgTb Reg.TB.PTP_CTL (withOnes w 1#32) s

/-- PTP_COMMIT_BOUNDARY (R74). -/
def execPtpCommitBoundary (s : State) : Host.Outcome State Fault Refusal := onDev (dueThen ptpReached ptpBoundary) s

/-- MAKE_UP (R75 to R78, R159 to R161, R311). -/
def execMakeUp (s : State) : Host.Outcome State Fault Refusal := settledD (dueThen makeupReady makeUp) s

end Sys2Proof.Machine
end

