-- ==== Sys2Proof/Machine/LegCmds.lean ====
section
/-! DEFINITION. The commands of spec/03: carriers, compares, ends of delays, trip pins and zones, SAFE_N and the safe pattern. -/

namespace Sys2Proof.Machine

/-- LEGSYS_START (R87). -/
def execLegsysStart (w : Wr) (s : State) : Host.Outcome State Fault Refusal := writeCmd pgLegsys Reg.LEGSYS.START w s

/-- LEGSYS_STOP (R87). -/
def execLegsysStop (w : Wr) (s : State) : Host.Outcome State Fault Refusal := writeCmd pgLegsys Reg.LEGSYS.STOP w s

/-- CARRIER_ZERO (R85). -/
def execCarrierZero (g : Fin 32) (s : State) : Host.Outcome State Fault Refusal :=
  onNet (dueThen (fun d => zeroDue d g.val) (carrierZero g.val)) s

/-- CARRIER_PERIOD (R85). -/
def execCarrierPeriod (g : Fin 32) (s : State) : Host.Outcome State Fault Refusal :=
  onNet (dueThen (fun d => periodDue d g.val) (carrierPeriod g.val)) s

/-- COMPARE_MATCH (R98, R99, R101, R637): the match at its tick, or the catch-up of a value already passed, or, `early`, the edge of a
down-half match within the tick before. -/
def execCompareMatch (leg : Fin 128) (cmp : CmpSel) (early : Bool) (s : State) : Host.Outcome State Fault Refusal :=
  onNet (fun d =>
    if early then (if earlyDue d leg.val cmp then compareEarly leg.val cmp d else d)
    else compareMatch leg.val cmp d) s

/-- DEAD_TIME_EXPIRY (R108): of the high output, or of the low one. -/
def execDeadTimeExpiry (leg : Fin 128) (high : Bool) (s : State) : Host.Outcome State Fault Refusal :=
  onEdges (dueThen (fun d => reached d (sideOf (legOf d leg.val) high).pend) (deadTimeEnd leg.val high)) s

/-- MINP_EXPIRY (R110). -/
def execMinpExpiry (leg : Fin 128) (high : Bool) (s : State) : Host.Outcome State Fault Refusal :=
  onEdges (dueThen (fun d => reached d (sideOf (legOf d leg.val) high).minp) (minpEnd leg.val high)) s

/-- GSYNC_SW (R636): GSYNC_SW is written with bit 0. -/
def execGsyncSw (w : Wr) (s : State) : Host.Outcome State Fault Refusal := writeCmd pgLegsys Reg.LEGSYS.GSYNC_SW (withOnes w 1#32) s

/-- A TRIP pin is filtered: outside SLEEP and RETAIN, while the legs' system has power (R114, R583). DEDUCED (log 40). -/
def tripPinsLive (d : Device) : Bool := !asleep d && domainOn d pgLegsys

/-- TRIP_PIN_ASSERT (R113, R114, R116): the pin is at its asserted level; it counts as a source once it has held that for TRIP_FLT
ticks. DEDUCED (log 40). -/
def execTripPinAssert (pin : Fin 32) (s : State) : Host.Outcome State Fault Refusal :=
  onEdges (fun d =>
    let d := tripLevel pin.val (!rdB d pgLegsys Reg.LEGSYS.TRIP_POL pin.val) d
    if tripPinsLive d ∧ tripPinDue d pin.val then latchSourced (wrB pgLegsys Reg.LEGSYS.TRIP_LVL pin.val true d) else d) s

/-- TRIP_PIN_DEASSERT (R114). DEDUCED (log 40). -/
def execTripPinDeassert (pin : Fin 32) (s : State) : Host.Outcome State Fault Refusal :=
  onDev (fun d =>
    let d := tripLevel pin.val (rdB d pgLegsys Reg.LEGSYS.TRIP_POL pin.val) d
    if tripPinsLive d then wrB pgLegsys Reg.LEGSYS.TRIP_LVL pin.val false d else d) s

/-- TZ_SW (R113). -/
def execTzSw (w : Wr) (s : State) : Host.Outcome State Fault Refusal := writeCmd pgLegsys Reg.LEGSYS.TZ_SW w s

/-- TZ_CLR (R115, R121). -/
def execTzClr (w : Wr) (s : State) : Host.Outcome State Fault Refusal := writeCmd pgLegsys Reg.LEGSYS.TZ_CLR w s

/-- ILK_EXPIRY (R119): the interlock of a trip action. -/
def execIlkExpiry (leg : Fin 128) (high : Bool) (s : State) : Host.Outcome State Fault Refusal :=
  onEdges (dueThen (fun d => decide ((legOf d leg.val).stage ≠ .safe) && reached d (sideOf (legOf d leg.val) high).ilk)
    (ilkEnd leg.val high)) s

/-- SAFE_N falls (R122, R127, R586). -/
def safeNFall (d : Device) : Device :=
  let d := { d with legs := { d.legs with safeNLow := true } }
  let d := refreshLegs (raise pgLegsys 8 d)
  doIf (rdB d pgMode Reg.MODE.DUSK_CFG 0) (duskCause 2 0) d

/-- SAFE_N rises (R122, R126, R127). -/
def safeNRise (d : Device) : Device :=
  refreshLegs (raise pgLegsys 9 { d with legs := { d.legs with safeNLow := false } })

/-- SAFE_N_FALL (R127). -/
def execSafeNFall (s : State) : Host.Outcome State Fault Refusal := onEdges (dueThen (fun d => !d.legs.safeNLow) safeNFall) s

/-- SAFE_N_RISE (R127). -/
def execSafeNRise (s : State) : Host.Outcome State Fault Refusal := onEdges (dueThen (fun d => d.legs.safeNLow) safeNRise) s

/-- SAFEPAT_WRITE (R122, R125, R135): a word of PAT, or ILK, is written. -/
def execSafepatWrite (pat : Option (Fin 8)) (w : Wr) (s : State) : Host.Outcome State Fault Refusal :=
  writeCmd pgSafepat (match pat with | some i => Reg.SAFEPAT.PAT i.val | none => Reg.SAFEPAT.ILK) w s

/-- The interlock of the safe pattern has run out at a side. In SLEEP and RETAIN AON alone measures it, in no ticks. DEDUCED (log 131). -/
def safeIlkOver (d : Device) (n : Nat) (high : Bool) : Bool :=
  let t := (sideOf (legOf d n) high).ilk
  decide ((legOf d n).stage = .safe) && (reached d t || (asleep d && t.isSome))

/-- SAFEPAT_ILK_EXPIRY (R123): the interlock of the safe pattern. -/
def execSafepatIlkExpiry (leg : Fin 128) (high : Bool) (s : State) : Host.Outcome State Fault Refusal :=
  onEdges (dueThen (fun d => safeIlkOver d leg.val high) (ilkEnd leg.val high)) s

end Sys2Proof.Machine
end

