-- ==== Sys2Proof/Machine/TimerCmds.lean ====
section
/-! DEFINITION. The commands of spec/04: count steps, COUNT writes, edges at TIO pins, reads of the capture queue. -/

namespace Sys2Proof.Machine

/-- TIMER_COUNT_STEP (R136 to R151): timer n has a step at this tick; the events of the tick are delivered, and all timers act in their
order (R146, R148). It comes after the carriers' and the time line's events of the tick. DEDUCED (log 45). -/
def execTimerCountStep (n : Fin 64) (s : State) : Host.Outcome State Fault Refusal :=
  onNet (dueThen (fun d => timerDue d n.val && netQuiet d) netDeliver) s

/-- TIMER_COUNT_WRITE (R141). -/
def execTimerCountWrite (n : Fin 64) (w : Wr) (s : State) : Host.Outcome State Fault Refusal := writeCmd (pgTmr n.val) Reg.TMR.COUNT w s

/-- The board gives a TIO pin a level, and a sampled level that has held is recognised (R139); in SLEEP and RETAIN no timer samples it.
DEDUCED (log 48). -/
def tioLevel (pin : Fin 64) (level : Bool) (d : Device) : Device :=
  let d := { d with tmrs := { d.tmrs with ext := putBit d.tmrs.ext pin.val level } }
  if asleep d then d else tioTake pin.val d

/-- TIO_EDGE (R139, R143, R153). DEDUCED (log 48). -/
def execTioEdge (pin : Fin 64) (level : Bool) (s : State) : Host.Outcome State Fault Refusal := onNet (tioLevel pin level) s

/-- CAP_HEAD_READ (R156). -/
def execCapHeadRead (n : Fin 64) (who : Requester) (s : State) : Host.Outcome State Fault Refusal :=
  readCmd (pgTmr n.val) Reg.TMR.CAP_HEAD who s

end Sys2Proof.Machine
end

