-- ==== Sys2Proof/Machine/SliceCmds.lean ====
section
/-! DEFINITION. The commands of spec/05: INIT, rotation steps and handovers, overloads, the reference monitor, coefficients, stuck XBS
inputs. What the analogue parts deliver (calibration measurements, means, overloads) comes with the command. -/

namespace Sys2Proof.Machine

/-- MODG_INIT (R177): CTL is written with INIT 1. -/
def execModgInit (q : Fin 8) (w : Wr) (s : State) : Host.Outcome State Fault Refusal :=
  writeCmd (pgModg q.val) Reg.MODG.CTL (withOnes w 8#32) s

/-- INIT_DONE (R177): 1,064,960 ticks after INIT began, with the measurements of the 13 slices. DESIGN CHOICE (log 52). DESIGN CHOICE (log 128). -/
def execInitDone (q : Fin 8) (cals : List Cal) (s : State) : Host.Outcome State Fault Refusal :=
  onDev (dueThen (fun d => match (modOf d q.val).initAt with | some t => decide (t + 1064960 ≤ d.time.now) | none => false)
    (initEnd q.val cals)) s

/-- ROTATION_STEP_START (R179, R180). -/
def execRotationStepStart (q : Fin 8) (cal : Cal) (ho : List Word) (chMean : Word) (ovld : Bool) (s : State) :
    Host.Outcome State Fault Refusal :=
  onDev (dueThen (fun d => stepReady d q.val) (stepStart q.val cal ho chMean ovld)) s

/-- HANDOVER_SWITCH (R183). DEDUCED (log 50). DESIGN CHOICE (log 128). -/
def execHandoverSwitch (q : Fin 8) (s : State) : Host.Outcome State Fault Refusal :=
  onDev (dueThen (fun d => switchReady d q.val) (handover q.val)) s

/-- The old slice of a handover is free: no conversion reads it any more (R185). DESIGN CHOICE (log 124). -/
def releaseReady (d : Device) (q : Nat) : Bool :=
  match (modOf d q).held with
  | some h => !sliceBusy d (12 * q + h.1) h.2
  | none => false

/-- OLD_SLICE_RELEASE (R185, R193). -/
def execOldSliceRelease (q : Fin 8) (s : State) : Host.Outcome State Fault Refusal :=
  onDev (dueThen (fun d => releaseReady d q.val) (releaseSlice q.val)) s

/-- SLICE_OVERLOAD (R174, R190): slice s of group q, to positive full scale or negative. -/
def execSliceOverload (q : Fin 8) (sl : Fin 13) (pos : Bool) (s : State) : Host.Outcome State Fault Refusal :=
  onDev (dueThen (fun d => domainOn d (pgModg q.val) && !asleep d) (overload q.val sl.val pos)) s

/-- SLICE_OVERLOAD_END (R174): 64 ticks after the slice resumes normal bits. -/
def execSliceOverloadEnd (q : Fin 8) (sl : Fin 13) (s : State) : Host.Outcome State Fault Refusal :=
  onDev (fun d => markRuns (setMod q.val { modOf d q.val with full := (modOf d q.val).full.filter (fun e => e.1 ≠ sl.val) } d)) s

/-- REF_OK of group q falls (R173). -/
def refFail (q : Nat) (d : Device) : Device :=
  d |> wrB (pgModg q) Reg.MODG.REF_STAT 0 false |> raise (pgModg q) 4 |> cancelStep q 2

/-- The reference monitor of group q works. -/
def refMonitor (d : Device) (q : Nat) : Bool := domainOn d (pgModg q) && !asleep d

/-- REF_FAIL (R173). -/
def execRefFail (q : Fin 8) (s : State) : Host.Outcome State Fault Refusal :=
  onDev (dueThen (fun d => refMonitor d q.val && rdB d (pgModg q.val) Reg.MODG.REF_STAT 0) (refFail q.val)) s

/-- REF_OK_RESTORED (R173). -/
def execRefOkRestored (q : Fin 8) (s : State) : Host.Outcome State Fault Refusal :=
  onDev (dueThen (fun d => refMonitor d q.val) (wrB (pgModg q.val) Reg.MODG.REF_STAT 0 true)) s

/-- COEF_WRITE (R176): OFFS or GAIN of slice s. -/
def execCoefWrite (q : Fin 8) (sl : Fin 13) (gain : Bool) (w : Wr) (s : State) : Host.Outcome State Fault Refusal :=
  writeCmd (pgModg q.val) (if gain then Reg.MODG.GAIN sl.val else Reg.MODG.OFFS sl.val) w s

/-- XBS input x is watched (R200). DESIGN CHOICE (log 124). -/
def stuckWatched (d : Device) (x : Nat) : Bool :=
  enabled d pgXbs && domainOn d pgXbs && rdB d pgXbs (Reg.XBS.XCFG x) 0 && decide (rd d pgXbs Reg.XBS.STUCK_LIM ≠ 0#32) && !asleep d

/-- XBS_STUCK (R200): STUCK_LIM consecutive identical bits. -/
def execXbsStuck (x : Fin 64) (s : State) : Host.Outcome State Fault Refusal :=
  onDev (dueThen (fun d => stuckWatched d x.val) (fun d =>
    raise pgXbs 0 (wrB pgXbs (if x.val < 32 then Reg.XBS.XSTUCK_LO else Reg.XBS.XSTUCK_HI) (x.val % 32) true d))) s

end Sys2Proof.Machine
end

