-- ==== Sys2Proof/Machine/FilterCmds.lean ====
section
/-! DEFINITION. The commands of spec/06: fast-path outputs, software triggers, conversions and their results. What a filter makes of the
bit streams comes with the command. -/

namespace Sys2Proof.Machine

/-- Channel ch has an output to deliver at this tick (R207, R208). DESIGN CHOICE (log 53). DESIGN CHOICE (log 124). -/
def fastDue (d : Device) (ch : Nat) : Bool :=
  fastOn d ch && tlRuns d && fastBoundary d ch &&
    (match (filtOf d ch).hist.head? with | some o => decide (o.tick ≠ d.time.now) | none => true)

/-- The output of channel ch, and the streams' entries of it (R209, R497). DESIGN CHOICE (log 53). -/
def fastOutput (ch : Nat) (x : Word) (d : Device) : Device :=
  let v := fastValue d ch x
  let d := fastDeliver ch v.1 v.2 d
  streamFast ch (rd d (pgFf (ch / 16)) (Reg.FF.SMP (ch % 16))) d

/-- The table entry at a byte offset of bulk SRAM (R244, R245): 0 past its end; none where it arrives poisoned or its fetch meets a decode
error. -/
def tableEntry (at_ : Option Nat) (m : Memory) (d : Device) : Option Word × Device :=
  match at_ with
  | none => (some 0#32, d)
  | some off => match readMem (bulkBase + off) 4 m d with
    | none => (none, d)
    | some r => (if r.1.poison then none else some (wd (numLE r.1.bytes)), r.2)

/-- The ticks between two outputs of a channel (R207). -/
def fastPeriod (d : Device) (ch : Nat) : Nat := fastRatio d ch * (if ch < 96 then 1 else xbsDiv d (ch - 96))

/-- The engines that a channel feeds request the entry of its next output, at the index that the phase will have reached there (R246).
DESIGN CHOICE (log 142). -/
def requestEntries (ch : Nat) (m : Memory) (d : Device) : Device :=
  if safeByDusk d then d
  else forEach ((bandsOn d ch).filter (fun n => decide (beRefSrc d n = 2))) (fun n d =>
    match tblOffset (beRd d n Reg.BE.TBL_BASE) (phaseIn d n (fastPeriod d ch)).1 with
    | none => setBand n { bandOf d n with pre := none } d
    | some off =>
      let e := tableEntry (some off) m d
      setBand n { bandOf e.2 n with pre := some (off, e.1) } e.2) d

/-- FAST_OUTPUT (R209 to R213): x is the filter's output as frac32. DESIGN CHOICE (log 128). -/
def execFastOutput (ch : Fin 160) (x : Word) (s : State) : Host.Outcome State Fault Refusal :=
  onNetR (fun m d => dueThen (fun d => fastDue d ch.val) (fun d => requestEntries ch.val m (fastOutput ch.val x d)) d) s

/-- SW_TRG (R219): SW_TRG_LO or SW_TRG_HI is written. -/
def execSwTrg (hi : Bool) (w : Wr) (s : State) : Host.Outcome State Fault Refusal :=
  writeCmd pgPfeseq (if hi then Reg.PFESEQ.SW_TRG_HI else Reg.PFESEQ.SW_TRG_LO) w s

/-- CONVERSION_START (R223, R225). -/
def execConversionStart (p : Fin 24) (s : State) : Host.Outcome State Fault Refusal :=
  onDev (dueThen (fun d => convReady d p.val) (convStart p.val)) s

/-- CONVERSION_END (R217): outs are the uncorrected outputs of the window, K of them. DESIGN CHOICE (log 128). -/
def execConversionEnd (p : Fin 24) (outs : List Word) (s : State) : Host.Outcome State Fault Refusal :=
  onDev (dueThen (fun d => convOver d p.val && outputsFit d p.val outs) (convEnd p.val outs)) s

/-- A result is appended, and reaches the streams (R228, R497). -/
def appendResult (p : Nat) (d : Device) : Device :=
  let r := resultAppend p d
  match r.2 with
  | some x => streamPfe p x r.1
  | none => r.1

/-- RESULT_APPEND (R228, R231). -/
def execResultAppend (p : Fin 24) (s : State) : Host.Outcome State Fault Refusal := onDev (appendResult p.val) s

/-- RES_HEAD_READ (R229). -/
def execResHeadRead (p : Fin 24) (who : Requester) (s : State) : Host.Outcome State Fault Refusal :=
  readCmd (pgPfe p.val) Reg.PFE.RES_HEAD who s

end Sys2Proof.Machine
end

