-- ==== Sys2Proof/Machine/LoopCmds.lean ====
section
/-! DEFINITION. The commands of spec/07: band engine evaluations, outer loop units and their registers. -/

namespace Sys2Proof.Machine

/-- The evaluation in progress at engine n: a table's entry was fetched for it one output period earlier, or is fetched now (R246).
DESIGN CHOICE (log 142). -/
def bandEval (n : Nat) (m : Memory) (d : Device) : Device :=
  match (bandOf d n).wait with
  | none => d
  | some i =>
    if byTable i ∧ ¬ i.out.inv then
      match i.entry with
      | some e => bandEvaluate n i e d
      | none =>
        let e := tableEntry (tblOffset (bandReg i Reg.BE.TBL_BASE) i.ix) m d
        bandEvaluate n i e.1 e.2
    else bandEvaluate n i none d

/-- BAND_EVALUATION (R247 to R254, R275, R276). -/
def execBandEvaluation (n : Fin 128) (s : State) : Host.Outcome State Fault Refusal :=
  onDevR (fun m d => withEdges (bandEval n.val m) d) s

/-- OLU_EVALUATION (R257, R258): the trigger's inputs are taken. DESIGN CHOICE (log 58). -/
def execOluEvaluation (u : Fin 32) (s : State) : Host.Outcome State Fault Refusal := onDev (oluStart u.val) s

/-- The deadline of the running evaluation lies behind the present tick: it can no longer commit (R270). -/
def oluOverdue (d : Device) (u : Nat) : Bool :=
  match (oluOf d u).run with
  | some e => (match e.deadline with | some t => decide (t < d.time.now) | none => false)
  | none => false

/-- OLU_COMMIT (R262 to R268, R270, R277). -/
def execOluCommit (u : Fin 32) (s : State) : Host.Outcome State Fault Refusal :=
  onEdges (fun d => if oluOverdue d u.val then oluAbandon u.val d else oluCommit u.val d) s

/-- The deadline of the running evaluation has passed (R270). -/
def oluLate (d : Device) (u : Nat) : Bool :=
  match (oluOf d u).run with
  | some e => (match e.deadline with | some t => decide (t ≤ d.time.now) | none => false)
  | none => false

/-- OLU_MISS (R270). -/
def execOluMiss (u : Fin 32) (s : State) : Host.Outcome State Fault Refusal :=
  onDev (dueThen (fun d => oluLate d u.val) (oluAbandon u.val)) s

/-- BANK_SWAP (R271): BANK is written with SWAP 1. -/
def execBankSwap (u : Fin 32) (w : Wr) (s : State) : Host.Outcome State Fault Refusal :=
  writeCmd (pgOlu u.val) Reg.OLU.BANK (withOnes w 1#32) s

/-- INT_CLR (R265): BANK is written with INT_CLR 1. -/
def execIntClr (u : Fin 32) (w : Wr) (s : State) : Host.Outcome State Fault Refusal :=
  writeCmd (pgOlu u.val) Reg.OLU.BANK (withOnes w 2#32) s

/-- INT_LO_READ (R285): of INT_D_LO, or of INT_Q_LO. -/
def execIntLoRead (u : Fin 32) (q : Bool) (who : Requester) (s : State) : Host.Outcome State Fault Refusal :=
  readCmd (pgOlu u.val) (if q then Reg.OLU.INT_Q_LO else Reg.OLU.INT_D_LO) who s

/-- FE_PEAK_READ (R277). -/
def execFePeakRead (u : Fin 32) (who : Requester) (s : State) : Host.Outcome State Fault Refusal :=
  readCmd (pgOlu u.val) Reg.OLU.FE_PEAK who s

end Sys2Proof.Machine
end

