-- ==== Sys2Proof/Machine/PosCmds.lean ====
section
/-! DEFINITION. The commands of spec/08: recognised levels, probes, speed windows, SSI frames. -/

namespace Sys2Proof.Machine

/-- The board gives POSA, POSB and POSZ levels; where the sample of the present tick is to come, it is taken with them (R287, R288). At
other ticks, and asleep, only the pins move. DESIGN CHOICE (log 63). -/
def recogniseLevels (n : Nat) (a b z : Bool) (d : Device) : Device :=
  let p := posOf d n
  let d := setPos n { p with la := { p.la with pin := a }, lb := { p.lb with pin := b }, lz := { p.lz with pin := z } } d
  if posSampleDue d n then posSample n d else d

/-- The board gives PROBEn a level; the sample of the present tick is taken with it where it is to come (R302). DESIGN CHOICE (log 63). -/
def probeInput (n : Nat) (level : Bool) (d : Device) : Device :=
  let p := posOf d n
  let d := setPos n { p with lp := { p.lp with pin := level } } d
  if probeOpen d n then probeSample n d else d

/-- POS_LEVEL_RECOGNISED (R288 to R298): the levels at POSA, POSB and POSZ, sampled, filtered and counted. -/
def execPosLevelRecognised (n : Fin 32) (a b z : Bool) (s : State) : Host.Outcome State Fault Refusal :=
  onDev (recogniseLevels n.val a b z) s

/-- POS_COUNT_WRITE (R295). -/
def execPosCountWrite (n : Fin 32) (w : Wr) (s : State) : Host.Outcome State Fault Refusal := writeCmd (pgPos n.val) Reg.POS.COUNT w s

/-- PROBE (R302, R303): the level at PROBEn, sampled, filtered and latched. -/
def execProbe (n : Fin 32) (level : Bool) (s : State) : Host.Outcome State Fault Refusal := onDev (probeInput n.val level) s

/-- SPEED_WINDOW_END (R305). -/
def execSpeedWindowEnd (n : Fin 32) (s : State) : Host.Outcome State Fault Refusal :=
  onDev (dueThen (fun d => windowDue d n.val && tlRuns d) (windowEnd n.val)) s

/-- SPEED_TIMEOUT (R304). -/
def execSpeedTimeout (n : Fin 32) (s : State) : Host.Outcome State Fault Refusal :=
  onDev (dueThen (fun d => timeoutDue d n.val) (fun d => setPos n.val { posOf d n.val with timedOut := true } d)) s

/-- SSI_START (R307): SSI_CTL is written with START 1. -/
def execSsiStart (n : Fin 32) (w : Wr) (s : State) : Host.Outcome State Fault Refusal :=
  writeCmd (pgPos n.val) Reg.POS.SSI_CTL (withOnes w 1#32) s

/-- SSI_FRAME_COMPLETE (R309). -/
def execSsiFrameComplete (n : Fin 32) (s : State) : Host.Outcome State Fault Refusal :=
  onDev (dueThen (fun d => ssiDone d n.val) (ssiFinish n.val)) s

/-- SSI_DATA_LO_READ (R310). -/
def execSsiDataLoRead (n : Fin 32) (who : Requester) (s : State) : Host.Outcome State Fault Refusal :=
  readCmd (pgPos n.val) Reg.POS.SSI_DATA_LO who s

end Sys2Proof.Machine
end

