-- ==== Sys2Proof/Machine/CoreCmds.lean ====
section
/-! DEFINITION. The commands of spec/09 and spec/11 about cores: start, caches, debug, and the events of a core's own. -/

namespace Sys2Proof.Machine

/-- CORE_START (R342): CTL is written with RUN 1. -/
def execCoreStart (k : Fin 36) (w : Wr) (s : State) : Host.Outcome State Fault Refusal :=
  writeCmd (pgCore k.val) Reg.CORE.CTL (withOnes w 1#32) s

/-- CACHE_DINV (R319, R321): CACHE_CTL is written with DINV 1. -/
def execCacheDinv (k : Fin 36) (w : Wr) (s : State) : Host.Outcome State Fault Refusal :=
  writeCmd (pgCore k.val) Reg.CORE.CACHE_CTL (withOnes w 2#32) s

/-- CACHE_IINV (R319): CACHE_CTL is written with IINV 1. -/
def execCacheIinv (k : Fin 36) (w : Wr) (s : State) : Host.Outcome State Fault Refusal :=
  writeCmd (pgCore k.val) Reg.CORE.CACHE_CTL (withOnes w 1#32) s

/-- DBG_HALT (R344): DBG is written with HALT 1. -/
def execDbgHalt (k : Fin 36) (w : Wr) (s : State) : Host.Outcome State Fault Refusal :=
  writeCmd (pgCore k.val) Reg.CORE.DBG (withOnes w 1#32) s

/-- HALT_TAKES_EFFECT (R344, R331). -/
def execHaltTakesEffect (k : Fin 36) (s : State) : Host.Outcome State Fault Refusal := settledD (takeHalt k.val) s

/-- DBG_RESUME (R344): DBG is written with RESUME 1. -/
def execDbgResume (k : Fin 36) (w : Wr) (s : State) : Host.Outcome State Fault Refusal :=
  writeCmd (pgCore k.val) Reg.CORE.DBG (withOnes w 2#32) s

/-- DBG_STEP (R344): DBG is written with STEP 1. -/
def execDbgStep (k : Fin 36) (w : Wr) (s : State) : Host.Outcome State Fault Refusal :=
  writeCmd (pgCore k.val) Reg.CORE.DBG (withOnes w 4#32) s

/-- DBG_RDATA_ACCESS (R348): a write of DBG_RDATA, or of DBG_RTAG, or a read of it. DEDUCED (log 34). -/
def execDbgRdataAccess (k : Fin 36) (tag : Bool) (who : Requester) (w : Option Wr) (s : State) :
    Host.Outcome State Fault Refusal :=
  let off := if tag then Reg.CORE.DBG_RTAG else Reg.CORE.DBG_RDATA
  match w with
  | some x => writeCmd (pgCore k.val) off x s
  | none => readCmd (pgCore k.val) off who s

/-- LONG_OP_COMPLETE (R329): the oldest long operation of core k. -/
def execLongOpComplete (k : Fin 36) (s : State) : Host.Outcome State Fault Refusal := settledD (longDone k.val) s

/-- STORE_DRAIN (R332, R336): the oldest buffered store on a path of core k, to memory or, `page`, to register pages. -/
def execStoreDrain (k : Fin 36) (page : Bool) (s : State) : Host.Outcome State Fault Refusal := settled (drainOne k.val page) s

/-- IMPRECISE_ENTRY (R410). -/
def execImpreciseEntry (k : Fin 36) (s : State) : Host.Outcome State Fault Refusal := settled (takeImprecise k.val) s

/-- INTERRUPT_ENTRY (R416). -/
def execInterruptEntry (k : Fin 36) (s : State) : Host.Outcome State Fault Refusal := settled (takeInterrupt k.val) s

/-- ICU_SET (R420): SET_LO or SET_HI is written. -/
def execIcuSet (k : Fin 36) (hi : Bool) (w : Wr) (s : State) : Host.Outcome State Fault Refusal :=
  writeCmd (pgIcu k.val) (if hi then Reg.ICU.SET_HI else Reg.ICU.SET_LO) w s

end Sys2Proof.Machine
end

