-- ==== Sys2Proof/Machine/CoreInstrs.lean ====
section
/-! DEFINITION. The instructions of the cores (spec/10, R373), as commands: core k has fetched one instruction, or, on a plan core, one
syllable of a bundle. What the operation computes is in Kwesyn.lean, what it reads, writes and raises in CoreEval.lean; `issue` issues
the position, with what may come before it and what follows. -/

namespace Sys2Proof.Machine

/-- An instruction of core k is issued, its immediate as its encoding holds it. DESIGN CHOICE (log 3). -/
def issueK (k : Fin 36) (i : KInst) (s : State) : Host.Outcome State Fault Refusal :=
  settled (issue k.val (asCoded (planCore k.val) i)) s

/-- `cbXX` compares d with a in the compact encoding, and a with b in the bundle encoding (R373). -/
def compareInst (op : Nat) (k : Fin 36) (x y : Fin 32) (imm : Word) (e : Enc) : KInst :=
  if planCore k.val then { op := op, a := x.val, b := y.val, imm := imm, enc := e }
  else { op := op, d := x.val, a := y.val, imm := imm, enc := e }

/-- NOP (R373): nop does nothing. -/
def execNop (k : Fin 36) (e : Enc) (s : State) : Host.Outcome State Fault Refusal :=
  issueK k { op := 0x00, enc := e } s

/-- MOV (R373): mov copies a w register. -/
def execMov (k : Fin 36) (d a : Fin 32) (e : Enc) (s : State) : Host.Outcome State Fault Refusal :=
  issueK k { op := 0x01, d := d.val, a := a.val, enc := e } s

/-- MOVI (R373): movi writes a sign-extended immediate. -/
def execMovi (k : Fin 36) (d : Fin 32) (imm : Word) (e : Enc) (s : State) : Host.Outcome State Fault Refusal :=
  issueK k { op := 0x02, d := d.val, imm := imm, enc := e } s

/-- MOVHI (R373): movhi writes the upper half of a register and keeps the lower half. -/
def execMovhi (k : Fin 36) (d : Fin 32) (imm : Word) (e : Enc) (s : State) : Host.Outcome State Fault Refusal :=
  issueK k { op := 0x03, d := d.val, imm := imm, enc := e } s

/-- MVM_LO (R356): mvm.lo reads bits 31:0 of an m register under the multiplier visibility rule. -/
def execMvmLo (k : Fin 36) (d a : Fin 32) (e : Enc) (s : State) : Host.Outcome State Fault Refusal :=
  issueK k { op := 0x04, d := d.val, a := a.val, enc := e } s

/-- MVM_HI (R356): mvm.hi reads bits 63:32 of an m register. -/
def execMvmHi (k : Fin 36) (d a : Fin 32) (e : Enc) (s : State) : Host.Outcome State Fault Refusal :=
  issueK k { op := 0x05, d := d.val, a := a.val, enc := e } s

/-- MVM_G (R356): mvm.g reads the guard bits of an m register sign-extended. -/
def execMvmG (k : Fin 36) (d a : Fin 32) (e : Enc) (s : State) : Host.Outcome State Fault Refusal :=
  issueK k { op := 0x06, d := d.val, a := a.val, enc := e } s

/-- RND_Q31 (R353): rnd.q31 rounds an m register to frac32. -/
def execRndQ31 (k : Fin 36) (d a : Fin 32) (e : Enc) (s : State) : Host.Outcome State Fault Refusal :=
  issueK k { op := 0x07, d := d.val, a := a.val, enc := e } s

/-- MVA_LO (R373): mva.lo reads bits 31:0 of an accumulator. -/
def execMvaLo (k : Fin 36) (d a : Fin 32) (e : Enc) (s : State) : Host.Outcome State Fault Refusal :=
  issueK k { op := 0x08, d := d.val, a := a.val, enc := e } s

/-- MVA_HI (R373): mva.hi reads bits 63:32 of an accumulator. -/
def execMvaHi (k : Fin 36) (d a : Fin 32) (e : Enc) (s : State) : Host.Outcome State Fault Refusal :=
  issueK k { op := 0x09, d := d.val, a := a.val, enc := e } s

/-- MVA_G (R373): mva.g reads the guard bits of an accumulator sign-extended. -/
def execMvaG (k : Fin 36) (d a : Fin 32) (e : Enc) (s : State) : Host.Outcome State Fault Refusal :=
  issueK k { op := 0x0A, d := d.val, a := a.val, enc := e } s

/-- ARND_Q31 (R353): arnd.q31 rounds an accumulator to frac32. -/
def execArndQ31 (k : Fin 36) (d a : Fin 32) (e : Enc) (s : State) : Host.Outcome State Fault Refusal :=
  issueK k { op := 0x0B, d := d.val, a := a.val, enc := e } s

/-- SEXT_B (R373): sext.b sign-extends the low byte. -/
def execSextB (k : Fin 36) (d a : Fin 32) (e : Enc) (s : State) : Host.Outcome State Fault Refusal :=
  issueK k { op := 0x0C, d := d.val, a := a.val, enc := e } s

/-- SEXT_H (R373): sext.h sign-extends the low halfword. -/
def execSextH (k : Fin 36) (d a : Fin 32) (e : Enc) (s : State) : Host.Outcome State Fault Refusal :=
  issueK k { op := 0x0D, d := d.val, a := a.val, enc := e } s

/-- ZEXT_B (R373): zext.b zero-extends the low byte. -/
def execZextB (k : Fin 36) (d a : Fin 32) (e : Enc) (s : State) : Host.Outcome State Fault Refusal :=
  issueK k { op := 0x0E, d := d.val, a := a.val, enc := e } s

/-- ZEXT_H (R373): zext.h zero-extends the low halfword. -/
def execZextH (k : Fin 36) (d a : Fin 32) (e : Enc) (s : State) : Host.Outcome State Fault Refusal :=
  issueK k { op := 0x0F, d := d.val, a := a.val, enc := e } s

/-- ADD_I32 (R373): add.i32 adds, wrapping unless prefixed by sat. -/
def execAddI32 (k : Fin 36) (d a b : Fin 32) (e : Enc) (s : State) : Host.Outcome State Fault Refusal :=
  issueK k { op := 0x10, d := d.val, a := a.val, b := b.val, enc := e } s

/-- SUB_I32 (R373): sub.i32 subtracts. -/
def execSubI32 (k : Fin 36) (d a b : Fin 32) (e : Enc) (s : State) : Host.Outcome State Fault Refusal :=
  issueK k { op := 0x11, d := d.val, a := a.val, b := b.val, enc := e } s

/-- ADD_Q31 (R373): add.q31 adds with saturation. -/
def execAddQ31 (k : Fin 36) (d a b : Fin 32) (e : Enc) (s : State) : Host.Outcome State Fault Refusal :=
  issueK k { op := 0x12, d := d.val, a := a.val, b := b.val, enc := e } s

/-- SUB_Q31 (R373): sub.q31 subtracts with saturation. -/
def execSubQ31 (k : Fin 36) (d a b : Fin 32) (e : Enc) (s : State) : Host.Outcome State Fault Refusal :=
  issueK k { op := 0x13, d := d.val, a := a.val, b := b.val, enc := e } s

/-- ADD_I16X2 (R373): add.i16x2 adds per lane. -/
def execAddI16x2 (k : Fin 36) (d a b : Fin 32) (e : Enc) (s : State) : Host.Outcome State Fault Refusal :=
  issueK k { op := 0x14, d := d.val, a := a.val, b := b.val, enc := e } s

/-- SUB_I16X2 (R373): sub.i16x2 subtracts per lane. -/
def execSubI16x2 (k : Fin 36) (d a b : Fin 32) (e : Enc) (s : State) : Host.Outcome State Fault Refusal :=
  issueK k { op := 0x15, d := d.val, a := a.val, b := b.val, enc := e } s

/-- ADD_Q15X2 (R373): add.q15x2 adds per lane with saturation. -/
def execAddQ15x2 (k : Fin 36) (d a b : Fin 32) (e : Enc) (s : State) : Host.Outcome State Fault Refusal :=
  issueK k { op := 0x16, d := d.val, a := a.val, b := b.val, enc := e } s

/-- SUB_Q15X2 (R373): sub.q15x2 subtracts per lane with saturation. -/
def execSubQ15x2 (k : Fin 36) (d a b : Fin 32) (e : Enc) (s : State) : Host.Outcome State Fault Refusal :=
  issueK k { op := 0x17, d := d.val, a := a.val, b := b.val, enc := e } s

/-- NEG_I32 (R373): neg.i32 negates. -/
def execNegI32 (k : Fin 36) (d a : Fin 32) (e : Enc) (s : State) : Host.Outcome State Fault Refusal :=
  issueK k { op := 0x18, d := d.val, a := a.val, enc := e } s

/-- NEG_Q31 (R373): neg.q31 negates with saturation. -/
def execNegQ31 (k : Fin 36) (d a : Fin 32) (e : Enc) (s : State) : Host.Outcome State Fault Refusal :=
  issueK k { op := 0x19, d := d.val, a := a.val, enc := e } s

/-- ABS_I32 (R373): abs.i32 takes the absolute value. -/
def execAbsI32 (k : Fin 36) (d a : Fin 32) (e : Enc) (s : State) : Host.Outcome State Fault Refusal :=
  issueK k { op := 0x1A, d := d.val, a := a.val, enc := e } s

/-- ABS_Q31 (R373): abs.q31 takes the absolute value with saturation. -/
def execAbsQ31 (k : Fin 36) (d a : Fin 32) (e : Enc) (s : State) : Host.Outcome State Fault Refusal :=
  issueK k { op := 0x1B, d := d.val, a := a.val, enc := e } s

/-- MIN_I32 (R373): min.i32 takes the signed minimum. -/
def execMinI32 (k : Fin 36) (d a b : Fin 32) (e : Enc) (s : State) : Host.Outcome State Fault Refusal :=
  issueK k { op := 0x1C, d := d.val, a := a.val, b := b.val, enc := e } s

/-- MAX_I32 (R373): max.i32 takes the signed maximum. -/
def execMaxI32 (k : Fin 36) (d a b : Fin 32) (e : Enc) (s : State) : Host.Outcome State Fault Refusal :=
  issueK k { op := 0x1D, d := d.val, a := a.val, b := b.val, enc := e } s

/-- MINU_U32 (R373): minu.u32 takes the unsigned minimum. -/
def execMinuU32 (k : Fin 36) (d a b : Fin 32) (e : Enc) (s : State) : Host.Outcome State Fault Refusal :=
  issueK k { op := 0x1E, d := d.val, a := a.val, b := b.val, enc := e } s

/-- MAXU_U32 (R373): maxu.u32 takes the unsigned maximum. -/
def execMaxuU32 (k : Fin 36) (d a b : Fin 32) (e : Enc) (s : State) : Host.Outcome State Fault Refusal :=
  issueK k { op := 0x1F, d := d.val, a := a.val, b := b.val, enc := e } s

/-- AND (R373): and computes bitwise AND. -/
def execAnd (k : Fin 36) (d a b : Fin 32) (e : Enc) (s : State) : Host.Outcome State Fault Refusal :=
  issueK k { op := 0x20, d := d.val, a := a.val, b := b.val, enc := e } s

/-- OR (R373): or computes bitwise OR. -/
def execOr (k : Fin 36) (d a b : Fin 32) (e : Enc) (s : State) : Host.Outcome State Fault Refusal :=
  issueK k { op := 0x21, d := d.val, a := a.val, b := b.val, enc := e } s

/-- XOR (R373): xor computes bitwise XOR. -/
def execXor (k : Fin 36) (d a b : Fin 32) (e : Enc) (s : State) : Host.Outcome State Fault Refusal :=
  issueK k { op := 0x22, d := d.val, a := a.val, b := b.val, enc := e } s

/-- ANDN (R373): andn computes a AND NOT b. -/
def execAndn (k : Fin 36) (d a b : Fin 32) (e : Enc) (s : State) : Host.Outcome State Fault Refusal :=
  issueK k { op := 0x23, d := d.val, a := a.val, b := b.val, enc := e } s

/-- SHL (R373): shl shifts left by b[4:0]. -/
def execShl (k : Fin 36) (d a b : Fin 32) (e : Enc) (s : State) : Host.Outcome State Fault Refusal :=
  issueK k { op := 0x24, d := d.val, a := a.val, b := b.val, enc := e } s

/-- SHR (R373): shr shifts right logically. -/
def execShr (k : Fin 36) (d a b : Fin 32) (e : Enc) (s : State) : Host.Outcome State Fault Refusal :=
  issueK k { op := 0x25, d := d.val, a := a.val, b := b.val, enc := e } s

/-- SRA (R373): sra shifts right arithmetically. -/
def execSra (k : Fin 36) (d a b : Fin 32) (e : Enc) (s : State) : Host.Outcome State Fault Refusal :=
  issueK k { op := 0x26, d := d.val, a := a.val, b := b.val, enc := e } s

/-- SHL_Q31 (R373): shl.q31 shifts left with saturation. -/
def execShlQ31 (k : Fin 36) (d a b : Fin 32) (e : Enc) (s : State) : Host.Outcome State Fault Refusal :=
  issueK k { op := 0x27, d := d.val, a := a.val, b := b.val, enc := e } s

/-- SEQ (R384): seq writes 1 if the operands are equal. -/
def execSeq (k : Fin 36) (d a b : Fin 32) (e : Enc) (s : State) : Host.Outcome State Fault Refusal :=
  issueK k { op := 0x28, d := d.val, a := a.val, b := b.val, enc := e } s

/-- SNE (R384): sne writes 1 if the operands differ. -/
def execSne (k : Fin 36) (d a b : Fin 32) (e : Enc) (s : State) : Host.Outcome State Fault Refusal :=
  issueK k { op := 0x29, d := d.val, a := a.val, b := b.val, enc := e } s

/-- SLT (R384): slt writes 1 on signed less-than. -/
def execSlt (k : Fin 36) (d a b : Fin 32) (e : Enc) (s : State) : Host.Outcome State Fault Refusal :=
  issueK k { op := 0x2A, d := d.val, a := a.val, b := b.val, enc := e } s

/-- SLTU (R384): sltu writes 1 on unsigned less-than. -/
def execSltu (k : Fin 36) (d a b : Fin 32) (e : Enc) (s : State) : Host.Outcome State Fault Refusal :=
  issueK k { op := 0x2B, d := d.val, a := a.val, b := b.val, enc := e } s

/-- SGE (R384): sge writes 1 on signed greater-or-equal. -/
def execSge (k : Fin 36) (d a b : Fin 32) (e : Enc) (s : State) : Host.Outcome State Fault Refusal :=
  issueK k { op := 0x2C, d := d.val, a := a.val, b := b.val, enc := e } s

/-- SGEU (R384): sgeu writes 1 on unsigned greater-or-equal. -/
def execSgeu (k : Fin 36) (d a b : Fin 32) (e : Enc) (s : State) : Host.Outcome State Fault Refusal :=
  issueK k { op := 0x2D, d := d.val, a := a.val, b := b.val, enc := e } s

/-- CLZ (R373): clz counts leading zeros. -/
def execClz (k : Fin 36) (d a : Fin 32) (e : Enc) (s : State) : Host.Outcome State Fault Refusal :=
  issueK k { op := 0x2E, d := d.val, a := a.val, enc := e } s

/-- NOT (R373): not inverts all bits. -/
def execNot (k : Fin 36) (d a : Fin 32) (e : Enc) (s : State) : Host.Outcome State Fault Refusal :=
  issueK k { op := 0x2F, d := d.val, a := a.val, enc := e } s

/-- ADDI_I32 (R373): addi.i32 adds a sign-extended immediate. -/
def execAddiI32 (k : Fin 36) (d a : Fin 32) (imm : Word) (e : Enc) (s : State) : Host.Outcome State Fault Refusal :=
  issueK k { op := 0x30, d := d.val, a := a.val, imm := imm, enc := e } s

/-- ANDI (R373): andi ANDs with a sign-extended immediate. -/
def execAndi (k : Fin 36) (d a : Fin 32) (imm : Word) (e : Enc) (s : State) : Host.Outcome State Fault Refusal :=
  issueK k { op := 0x31, d := d.val, a := a.val, imm := imm, enc := e } s

/-- ORI (R373): ori ORs with a sign-extended immediate. -/
def execOri (k : Fin 36) (d a : Fin 32) (imm : Word) (e : Enc) (s : State) : Host.Outcome State Fault Refusal :=
  issueK k { op := 0x32, d := d.val, a := a.val, imm := imm, enc := e } s

/-- XORI (R373): xori XORs with a sign-extended immediate. -/
def execXori (k : Fin 36) (d a : Fin 32) (imm : Word) (e : Enc) (s : State) : Host.Outcome State Fault Refusal :=
  issueK k { op := 0x33, d := d.val, a := a.val, imm := imm, enc := e } s

/-- SHLI (R373): shli shifts left by an immediate. -/
def execShli (k : Fin 36) (d a : Fin 32) (imm : Word) (e : Enc) (s : State) : Host.Outcome State Fault Refusal :=
  issueK k { op := 0x34, d := d.val, a := a.val, imm := imm, enc := e } s

/-- SHRI (R373): shri shifts right logically by an immediate. -/
def execShri (k : Fin 36) (d a : Fin 32) (imm : Word) (e : Enc) (s : State) : Host.Outcome State Fault Refusal :=
  issueK k { op := 0x35, d := d.val, a := a.val, imm := imm, enc := e } s

/-- SRAI (R373): srai shifts right arithmetically by an immediate. -/
def execSrai (k : Fin 36) (d a : Fin 32) (imm : Word) (e : Enc) (s : State) : Host.Outcome State Fault Refusal :=
  issueK k { op := 0x36, d := d.val, a := a.val, imm := imm, enc := e } s

/-- SEQI (R384): seqi compares equal with an immediate. -/
def execSeqi (k : Fin 36) (d a : Fin 32) (imm : Word) (e : Enc) (s : State) : Host.Outcome State Fault Refusal :=
  issueK k { op := 0x37, d := d.val, a := a.val, imm := imm, enc := e } s

/-- SNEI (R384): snei compares not-equal with an immediate. -/
def execSnei (k : Fin 36) (d a : Fin 32) (imm : Word) (e : Enc) (s : State) : Host.Outcome State Fault Refusal :=
  issueK k { op := 0x38, d := d.val, a := a.val, imm := imm, enc := e } s

/-- SLTI (R384): slti compares signed less-than with an immediate. -/
def execSlti (k : Fin 36) (d a : Fin 32) (imm : Word) (e : Enc) (s : State) : Host.Outcome State Fault Refusal :=
  issueK k { op := 0x39, d := d.val, a := a.val, imm := imm, enc := e } s

/-- SLTUI (R384): sltui compares unsigned less-than with an immediate. -/
def execSltui (k : Fin 36) (d a : Fin 32) (imm : Word) (e : Enc) (s : State) : Host.Outcome State Fault Refusal :=
  issueK k { op := 0x3A, d := d.val, a := a.val, imm := imm, enc := e } s

/-- MUL_I32 (R356): mul.i32 writes the signed product to an m register. -/
def execMulI32 (k : Fin 36) (d a b : Fin 32) (e : Enc) (s : State) : Host.Outcome State Fault Refusal :=
  issueK k { op := 0x40, d := d.val, a := a.val, b := b.val, enc := e } s

/-- MUL_U32 (R356): mul.u32 writes the unsigned product to an m register. -/
def execMulU32 (k : Fin 36) (d a b : Fin 32) (e : Enc) (s : State) : Host.Outcome State Fault Refusal :=
  issueK k { op := 0x41, d := d.val, a := a.val, b := b.val, enc := e } s

/-- MUL_Q31 (R376): mul.q31 writes the exact Q2.62 product to an m register. -/
def execMulQ31 (k : Fin 36) (d a b : Fin 32) (e : Enc) (s : State) : Host.Outcome State Fault Refusal :=
  issueK k { op := 0x42, d := d.val, a := a.val, b := b.val, enc := e } s

/-- MAC_I32 (R357): mac.i32 accumulates a signed product modulo 2^72. -/
def execMacI32 (k : Fin 36) (d a b : Fin 32) (e : Enc) (s : State) : Host.Outcome State Fault Refusal :=
  issueK k { op := 0x43, d := d.val, a := a.val, b := b.val, enc := e } s

/-- MAC_U32 (R357): mac.u32 accumulates an unsigned product modulo 2^72. -/
def execMacU32 (k : Fin 36) (d a b : Fin 32) (e : Enc) (s : State) : Host.Outcome State Fault Refusal :=
  issueK k { op := 0x44, d := d.val, a := a.val, b := b.val, enc := e } s

/-- MAC_Q31 (R357): mac.q31 accumulates a product with 72-bit saturation. -/
def execMacQ31 (k : Fin 36) (d a b : Fin 32) (e : Enc) (s : State) : Host.Outcome State Fault Refusal :=
  issueK k { op := 0x45, d := d.val, a := a.val, b := b.val, enc := e } s

/-- MSU_Q31 (R357): msu.q31 subtracts a product with 72-bit saturation. -/
def execMsuQ31 (k : Fin 36) (d a b : Fin 32) (e : Enc) (s : State) : Host.Outcome State Fault Refusal :=
  issueK k { op := 0x46, d := d.val, a := a.val, b := b.val, enc := e } s

/-- DMAC_Q15X2 (R357): dmac.q15x2 accumulates the dual lane product. -/
def execDmacQ15x2 (k : Fin 36) (d a b : Fin 32) (e : Enc) (s : State) : Host.Outcome State Fault Refusal :=
  issueK k { op := 0x47, d := d.val, a := a.val, b := b.val, enc := e } s

/-- MTM (R373): mtm moves a w register into an m register scaled by 2^31. -/
def execMtm (k : Fin 36) (d a : Fin 32) (e : Enc) (s : State) : Host.Outcome State Fault Refusal :=
  issueK k { op := 0x48, d := d.val, a := a.val, enc := e } s

/-- CLR_M (R373): clr.m clears an m register. -/
def execClrM (k : Fin 36) (d : Fin 32) (e : Enc) (s : State) : Host.Outcome State Fault Refusal :=
  issueK k { op := 0x49, d := d.val, enc := e } s

/-- ACC_ADD (R376): acc.add adds an m register into an accumulator with saturation. -/
def execAccAdd (k : Fin 36) (d a : Fin 32) (e : Enc) (s : State) : Host.Outcome State Fault Refusal :=
  issueK k { op := 0x4A, d := d.val, a := a.val, enc := e } s

/-- ACC_SUB (R376): acc.sub subtracts an m register from an accumulator with saturation. -/
def execAccSub (k : Fin 36) (d a : Fin 32) (e : Enc) (s : State) : Host.Outcome State Fault Refusal :=
  issueK k { op := 0x4B, d := d.val, a := a.val, enc := e } s

/-- CLR_A (R373): clr.a clears an accumulator. -/
def execClrA (k : Fin 36) (d : Fin 32) (e : Enc) (s : State) : Host.Outcome State Fault Refusal :=
  issueK k { op := 0x4C, d := d.val, enc := e } s

/-- MTA (R373): mta moves a w register into an accumulator scaled by 2^31. -/
def execMta (k : Fin 36) (d a : Fin 32) (e : Enc) (s : State) : Host.Outcome State Fault Refusal :=
  issueK k { op := 0x4D, d := d.val, a := a.val, enc := e } s

/-- LD_B (R377): ld.b loads a byte sign-extended. -/
def execLdB (k : Fin 36) (d a : Fin 32) (imm : Word) (e : Enc) (s : State) : Host.Outcome State Fault Refusal :=
  issueK k { op := 0x50, d := d.val, a := a.val, imm := imm, enc := e } s

/-- LD_BU (R377): ld.bu loads a byte zero-extended. -/
def execLdBu (k : Fin 36) (d a : Fin 32) (imm : Word) (e : Enc) (s : State) : Host.Outcome State Fault Refusal :=
  issueK k { op := 0x51, d := d.val, a := a.val, imm := imm, enc := e } s

/-- LD_H (R377): ld.h loads a halfword sign-extended. -/
def execLdH (k : Fin 36) (d a : Fin 32) (imm : Word) (e : Enc) (s : State) : Host.Outcome State Fault Refusal :=
  issueK k { op := 0x52, d := d.val, a := a.val, imm := imm, enc := e } s

/-- LD_HU (R377): ld.hu loads a halfword zero-extended. -/
def execLdHu (k : Fin 36) (d a : Fin 32) (imm : Word) (e : Enc) (s : State) : Host.Outcome State Fault Refusal :=
  issueK k { op := 0x53, d := d.val, a := a.val, imm := imm, enc := e } s

/-- LD_W (R377): ld.w loads a word, waiting or forwarding under the store buffer rules. -/
def execLdW (k : Fin 36) (d a : Fin 32) (imm : Word) (e : Enc) (s : State) : Host.Outcome State Fault Refusal :=
  issueK k { op := 0x54, d := d.val, a := a.val, imm := imm, enc := e } s

/-- ST_B (R377): st.b stores a byte through the store buffer. -/
def execStB (k : Fin 36) (d a : Fin 32) (imm : Word) (e : Enc) (s : State) : Host.Outcome State Fault Refusal :=
  issueK k { op := 0x55, d := d.val, a := a.val, imm := imm, enc := e } s

/-- ST_H (R377): st.h stores a halfword. -/
def execStH (k : Fin 36) (d a : Fin 32) (imm : Word) (e : Enc) (s : State) : Host.Outcome State Fault Refusal :=
  issueK k { op := 0x56, d := d.val, a := a.val, imm := imm, enc := e } s

/-- ST_W (R377): st.w stores a word. -/
def execStW (k : Fin 36) (d a : Fin 32) (imm : Word) (e : Enc) (s : State) : Host.Outcome State Fault Refusal :=
  issueK k { op := 0x57, d := d.val, a := a.val, imm := imm, enc := e } s

/-- LD_D (R377): ld.d loads a register pair. -/
def execLdD (k : Fin 36) (d a : Fin 32) (imm : Word) (e : Enc) (s : State) : Host.Outcome State Fault Refusal :=
  issueK k { op := 0x58, d := d.val, a := a.val, imm := imm, enc := e } s

/-- ST_D (R425): st.d stores a register pair as one 8-byte store. -/
def execStD (k : Fin 36) (d a : Fin 32) (imm : Word) (e : Enc) (s : State) : Host.Outcome State Fault Refusal :=
  issueK k { op := 0x59, d := d.val, a := a.val, imm := imm, enc := e } s

/-- LDX_W (R377): ldx.w loads a word at a + b. -/
def execLdxW (k : Fin 36) (d a b : Fin 32) (e : Enc) (s : State) : Host.Outcome State Fault Refusal :=
  issueK k { op := 0x5A, d := d.val, a := a.val, b := b.val, enc := e } s

/-- STX_W (R377): stx.w stores a word at a + b. -/
def execStxW (k : Fin 36) (d a b : Fin 32) (e : Enc) (s : State) : Host.Outcome State Fault Refusal :=
  issueK k { op := 0x5B, d := d.val, a := a.val, b := b.val, enc := e } s

/-- DIV_I32 (R378): div.i32 divides signed in the LONG unit. -/
def execDivI32 (k : Fin 36) (d a b : Fin 32) (e : Enc) (s : State) : Host.Outcome State Fault Refusal :=
  issueK k { op := 0x60, d := d.val, a := a.val, b := b.val, enc := e } s

/-- DIV_U32 (R378): div.u32 divides unsigned. -/
def execDivU32 (k : Fin 36) (d a b : Fin 32) (e : Enc) (s : State) : Host.Outcome State Fault Refusal :=
  issueK k { op := 0x61, d := d.val, a := a.val, b := b.val, enc := e } s

/-- REM_I32 (R378): rem.i32 takes the signed remainder. -/
def execRemI32 (k : Fin 36) (d a b : Fin 32) (e : Enc) (s : State) : Host.Outcome State Fault Refusal :=
  issueK k { op := 0x62, d := d.val, a := a.val, b := b.val, enc := e } s

/-- REM_U32 (R378): rem.u32 takes the unsigned remainder. -/
def execRemU32 (k : Fin 36) (d a b : Fin 32) (e : Enc) (s : State) : Host.Outcome State Fault Refusal :=
  issueK k { op := 0x63, d := d.val, a := a.val, b := b.val, enc := e } s

/-- DIV_Q31 (R378): div.q31 divides in frac32 with rounding and saturation. -/
def execDivQ31 (k : Fin 36) (d a b : Fin 32) (e : Enc) (s : State) : Host.Outcome State Fault Refusal :=
  issueK k { op := 0x64, d := d.val, a := a.val, b := b.val, enc := e } s

/-- SQRT_Q31 (R378): sqrt.q31 takes the square root in frac32. -/
def execSqrtQ31 (k : Fin 36) (d a : Fin 32) (e : Enc) (s : State) : Host.Outcome State Fault Refusal :=
  issueK k { op := 0x65, d := d.val, a := a.val, enc := e } s

/-- RCP_Q31 (R378): rcp.q31 takes the reciprocal of a normalised operand. -/
def execRcpQ31 (k : Fin 36) (d a : Fin 32) (e : Enc) (s : State) : Host.Outcome State Fault Refusal :=
  issueK k { op := 0x66, d := d.val, a := a.val, enc := e } s

/-- LMAC_Q63 (R378): lmac.q63 accumulates a 64-bit pair product into an accumulator. -/
def execLmacQ63 (k : Fin 36) (d a b : Fin 32) (e : Enc) (s : State) : Host.Outcome State Fault Refusal :=
  issueK k { op := 0x67, d := d.val, a := a.val, b := b.val, enc := e } s

/-- B (R365): b branches unconditionally. -/
def execB (k : Fin 36) (imm : Word) (e : Enc) (s : State) : Host.Outcome State Fault Refusal :=
  issueK k { op := 0x70, imm := imm, enc := e } s

/-- CALL (R386): call pushes the return address and branches. -/
def execCall (k : Fin 36) (imm : Word) (e : Enc) (s : State) : Host.Outcome State Fault Refusal :=
  issueK k { op := 0x71, imm := imm, enc := e } s

/-- RET (R388): ret pops the return stack and branches, or faults when empty. -/
def execRet (k : Fin 36) (e : Enc) (s : State) : Host.Outcome State Fault Refusal :=
  issueK k { op := 0x72, enc := e } s

/-- JR (R373): jr branches to a register. -/
def execJr (k : Fin 36) (a : Fin 32) (e : Enc) (s : State) : Host.Outcome State Fault Refusal :=
  issueK k { op := 0x73, a := a.val, enc := e } s

/-- CALLR (R386): callr pushes the return address and branches to a register. -/
def execCallr (k : Fin 36) (a : Fin 32) (e : Enc) (s : State) : Host.Outcome State Fault Refusal :=
  issueK k { op := 0x74, a := a.val, enc := e } s

/-- BZ (R384): bz branches if the tested register is 0. -/
def execBz (k : Fin 36) (a : Fin 32) (imm : Word) (e : Enc) (s : State) : Host.Outcome State Fault Refusal :=
  issueK k { op := 0x75, a := a.val, imm := imm, enc := e } s

/-- BNZ (R384): bnz branches if the tested register is not 0. -/
def execBnz (k : Fin 36) (a : Fin 32) (imm : Word) (e : Enc) (s : State) : Host.Outcome State Fault Refusal :=
  issueK k { op := 0x76, a := a.val, imm := imm, enc := e } s

/-- CBEQ (R384): cbeq branches when the operands are equal. DEDUCED (log 64). -/
def execCbeq (k : Fin 36) (x y : Fin 32) (imm : Word) (e : Enc) (s : State) : Host.Outcome State Fault Refusal :=
  issueK k (compareInst 0x77 k x y imm e) s

/-- CBNE (R384): cbne branches when the operands differ. -/
def execCbne (k : Fin 36) (x y : Fin 32) (imm : Word) (e : Enc) (s : State) : Host.Outcome State Fault Refusal :=
  issueK k (compareInst 0x78 k x y imm e) s

/-- CBLT (R384): cblt branches on signed less-than. -/
def execCblt (k : Fin 36) (x y : Fin 32) (imm : Word) (e : Enc) (s : State) : Host.Outcome State Fault Refusal :=
  issueK k (compareInst 0x79 k x y imm e) s

/-- CBGE (R384): cbge branches on signed greater-or-equal. -/
def execCbge (k : Fin 36) (x y : Fin 32) (imm : Word) (e : Enc) (s : State) : Host.Outcome State Fault Refusal :=
  issueK k (compareInst 0x7A k x y imm e) s

/-- CBLTU (R384): cbltu branches on unsigned less-than. -/
def execCbltu (k : Fin 36) (x y : Fin 32) (imm : Word) (e : Enc) (s : State) : Host.Outcome State Fault Refusal :=
  issueK k (compareInst 0x7B k x y imm e) s

/-- CBGEU (R384): cbgeu branches on unsigned greater-or-equal. -/
def execCbgeu (k : Fin 36) (x y : Fin 32) (imm : Word) (e : Enc) (s : State) : Host.Outcome State Fault Refusal :=
  issueK k (compareInst 0x7C k x y imm e) s

/-- LOOP (R389): loop sets LPS, LPE and LPC for a hardware loop. -/
def execLoop (k : Fin 36) (a : Fin 32) (imm : Word) (e : Enc) (s : State) : Host.Outcome State Fault Refusal :=
  issueK k { op := 0x7D, a := a.val, imm := imm, enc := e } s

/-- TRAP (R399): trap enters descriptor 64 + n. DEDUCED (log 69). -/
def execTrap (k : Fin 36) (n : Byte) (e : Enc) (s : State) : Host.Outcome State Fault Refusal :=
  issueK k { op := 0x7E, imm := wd n.toNat, enc := e } s

/-- RETX (R406): retx restores PC, PSTAT, XCAUSE and XADDR from the frame, or faults. -/
def execRetx (k : Fin 36) (e : Enc) (s : State) : Host.Outcome State Fault Refusal :=
  issueK k { op := 0x7F, enc := e } s

/-- WAIT (R417): wait suspends issue until an enabled line is pending. -/
def execWait (k : Fin 36) (e : Enc) (s : State) : Host.Outcome State Fault Refusal :=
  issueK k { op := 0x80, enc := e } s

/-- BARRIER (R330): barrier waits for all earlier instructions and both store drain paths. -/
def execBarrier (k : Fin 36) (e : Enc) (s : State) : Host.Outcome State Fault Refusal :=
  issueK k { op := 0x81, enc := e } s

/-- MFS (R350): mfs reads a special register. -/
def execMfs (k : Fin 36) (d a : Fin 32) (e : Enc) (s : State) : Host.Outcome State Fault Refusal :=
  issueK k { op := 0x82, d := d.val, a := a.val, enc := e } s

/-- MTS (R351): mts writes a special register, context-synchronizing for PSTAT and WINBASE. -/
def execMts (k : Fin 36) (d a : Fin 32) (e : Enc) (s : State) : Host.Outcome State Fault Refusal :=
  issueK k { op := 0x83, d := d.val, a := a.val, enc := e } s

end Sys2Proof.Machine
end

