-- ==== Sys2Proof/Machine/MemCmds.lean ====
section
/-! DEFINITION. The commands of spec/12: error counts, scrubbers, check-value units. -/

namespace Sys2Proof.Machine

/-- CE_CNT_READ (R432). -/
def execCeCntRead (id : Fin 119) (who : Requester) (s : State) : Host.Outcome State Fault Refusal :=
  readCmd pgMemerr (Reg.MEMERR.CE_CNT id.val) who s

/-- UE_CNT_READ (R432). -/
def execUeCntRead (id : Fin 119) (who : Requester) (s : State) : Host.Outcome State Fault Refusal :=
  readCmd pgMemerr (Reg.MEMERR.UE_CNT id.val) who s

/-- SCRUB_REPORT (R438): CTL is written with START 1 and MODE 0. -/
def execScrubReport (n : Fin 4) (w : Wr) (s : State) : Host.Outcome State Fault Refusal :=
  writeCmd (pgScrub n.val) Reg.SCRUB.CTL (withOnes (without w 2#32) 1#32) s

/-- SCRUB_REPAIR (R439): CTL is written with START 1 and MODE 1. -/
def execScrubRepair (n : Fin 4) (w : Wr) (s : State) : Host.Outcome State Fault Refusal :=
  writeCmd (pgScrub n.val) Reg.SCRUB.CTL (withOnes w 3#32) s

/-- SCRUB_WORD (R439 to R441). -/
def execScrubWord (n : Fin 4) (s : State) : Host.Outcome State Fault Refusal :=
  onBoth (fun t => if scrubReady t.1 n.val then scrubWord n.val t else t) s

/-- CVU_COMPUTE (R448): CTL is written with START 1; CFG.MODE says what starts. DEDUCED (log 80). -/
def execCvuCompute (c : Fin 8) (w : Wr) (s : State) : Host.Outcome State Fault Refusal :=
  writeCmd (pgCvu c.val) Reg.CVU.CTL (withOnes w 1#32) s

/-- CVU_CHECK (R448): CTL is written with START 1; CFG.MODE says what starts. DEDUCED (log 80). -/
def execCvuCheck (c : Fin 8) (w : Wr) (s : State) : Host.Outcome State Fault Refusal :=
  writeCmd (pgCvu c.val) Reg.CVU.CTL (withOnes w 1#32) s

/-- CVU_MESSAGE (R449): CTL is written with START 1; CFG.MODE says what starts. DEDUCED (log 80). -/
def execCvuMessage (c : Fin 8) (w : Wr) (s : State) : Host.Outcome State Fault Refusal :=
  writeCmd (pgCvu c.val) Reg.CVU.CTL (withOnes w 1#32) s

/-- CVU_COMPLETE (R448 to R453): a scan that is over is reported. DESIGN CHOICE (log 78). -/
def execCvuComplete (c : Fin 8) (s : State) : Host.Outcome State Fault Refusal := settledD (scanReport c.val) s

/-- CLR_LAST (R451): CTL is written with CLR_LAST 1 and START 0. -/
def execClrLast (c : Fin 8) (w : Wr) (s : State) : Host.Outcome State Fault Refusal :=
  writeCmd (pgCvu c.val) Reg.CVU.CTL (withOnes (without w 1#32) 2#32) s

end Sys2Proof.Machine
end

