-- ==== Sys2Proof/Machine/UandiCmds.lean ====
section
/-! DEFINITION. The commands of spec/13: frames and ports, and the requests of Uandi sessions. A request's row stands for its message
where a frame has brought it through ETH0; FRAME_RECEIVE takes the frame itself. -/

namespace Sys2Proof.Machine

/-! ## Ports -/

/-- A frame arrives; in SLEEP a Uandi frame for the device wakes it and is discarded (R464). -/
def frameArrives (e : Nat) (bytes : List Byte) (fcsOk : Bool) (fines : Nat) (line : RxLine) (t : DM) : DM :=
  if asleep t.1 then
    let r := frameListen e bytes fcsOk line t
    (if r.2 then wakeEth r.1 else r.1, t.2)
  else
    let r := frameReceive e bytes fcsOk fines line t
    match r.2 with
    | some x => receivePayload e x r.1
    | none => r.1

/-- FRAME_RECEIVE (R465 to R476): the bytes from the destination address to the last before the FCS, the fine of arrival, and what the
port tells with it. DEDUCED (log 81). -/
def execFrameReceive (e : Fin 2) (bytes : List Byte) (fcsOk : Bool) (line : RxLine) (s : State) : Host.Outcome State Fault Refusal :=
  settled (frameArrives e.val bytes fcsOk line.fines line) s

/-- PFC_PAUSE_EXPIRY (R467). DESIGN CHOICE (log 85). -/
def execPfcPauseExpiry (e : Fin 2) (p : Fin 8) (s : State) : Host.Outcome State Fault Refusal :=
  onDev (dueThen (fun d => paused d e.val p.val) (fun d => flushAll e.val (wrB (pgEth e.val) Reg.ETH.PFC_STAT p.val false d))) s

/-- RAWTX_WR (R474). -/
def execRawtxWr (e : Fin 2) (w : Wr) (s : State) : Host.Outcome State Fault Refusal := writeCmd (pgEth e.val) Reg.ETH.RAWTX_WR w s

/-- RAWTX_DONE (R474): the next slot leaves, its stamp at a fine. -/
def execRawtxDone (e : Fin 2) (fines : Nat) (s : State) : Host.Outcome State Fault Refusal :=
  onBoth (fun t => if rawTxReady t.1 e.val then rawTxSend e.val fines t else t) s

/-- TS_HEAD_READ (R472). -/
def execTsHeadRead (e : Fin 2) (who : Requester) (s : State) : Host.Outcome State Fault Refusal :=
  readCmd (pgEth e.val) Reg.ETH.TS_HEAD who s

/-- LINK_CHG (R494): the live bits of STAT become those of v. -/
def execLinkChg (e : Fin 2) (v : Word) (s : State) : Host.Outcome State Fault Refusal :=
  onDev (dueThen (fun d => ethOn d e.val) (linkChange e.val v)) s

/-! ## Requests of sessions (R475 to R491) -/

/-- The address field of a body (R478). -/
def addrField (addr : FabAddr) : List Byte := bytesBE 2 0 ++ bytesBE 6 addr.toNat

/-- OPEN (R484). -/
def execSessOpen (h : UandiHead) (s : State) : Host.Outcome State Fault Refusal := settled (commandMsg h opOpen []) s

/-- CLOSE (R485). -/
def execClose (h : UandiHead) (s : State) : Host.Outcome State Fault Refusal := settled (commandMsg h opClose []) s

/-- READ (R478). -/
def execRead (h : UandiHead) (addr : FabAddr) (s : State) : Host.Outcome State Fault Refusal :=
  settled (commandMsg h opRead (addrField addr)) s

/-- WRITE (R478). -/
def execWrite (h : UandiHead) (addr : FabAddr) (data : Word) (s : State) : Host.Outcome State Fault Refusal :=
  settled (commandMsg h opWrite (addrField addr ++ bytesBE 4 data.toNat)) s

/-- READ_BLOCK (R478, R480). -/
def execReadBlock (h : UandiHead) (addr : FabAddr) (len : Word) (s : State) : Host.Outcome State Fault Refusal :=
  settled (commandMsg h opReadBlock (addrField addr ++ bytesBE 4 len.toNat)) s

/-- WRITE_BLOCK (R479, R480): `rest` is the data with its padding, and the poison map where the head carries POISON. -/
def execWriteBlock (h : UandiHead) (addr : FabAddr) (len : Word) (rest : List Byte) (s : State) : Host.Outcome State Fault Refusal :=
  settled (commandMsg h opWriteBlock (addrField addr ++ bytesBE 4 len.toNat ++ rest)) s

/-- RMW (R478). -/
def execRmw (h : UandiHead) (addr : FabAddr) (mask data : Word) (s : State) : Host.Outcome State Fault Refusal :=
  settled (commandMsg h opRmw (addrField addr ++ bytesBE 4 mask.toNat ++ bytesBE 4 data.toNat)) s

/-- FENCE (R482). -/
def execFence (h : UandiHead) (s : State) : Host.Outcome State Fault Refusal := settled (commandMsg h opFence []) s

/-- ABORT_FUNCTION (R487). -/
def execAbortFunction (h : UandiHead) (addr : FabAddr) (s : State) : Host.Outcome State Fault Refusal :=
  settled (commandMsg h opAbort (addrField addr)) s

/-- EVENT_SUBSCRIBE (R489): source n is bit n of `map`. -/
def execEventSubscribe (h : UandiHead) (mode : Byte) (hold : BitVec 16) (map : BitVec 1024) (s : State) :
    Host.Outcome State Fault Refusal :=
  settled (commandMsg h opSubscribe ([mode, 0#8] ++ bytesBE 2 hold.toNat ++ bytesLE 128 map.toNat)) s

/-- A message outside the sequence, through either port. DEDUCED (log 89). -/
def creditArrives (e : Nat) (h : UandiHead) (stream : Byte) (limit : Word) (t : DM) : DM :=
  if ethUp t.1 e ∧ ¬ asleep t.1 then
    receiveMsg e h.peer { sess := h.sess.val, poison := h.poison, opcode := opCredit, gen := h.gen.toNat, seq := h.seq.toNat
                          body := [stream, 0#8, 0#8, 0#8] ++ bytesBE 4 limit.toNat } t
  else t

/-- CREDIT (R488, R505). -/
def execCredit (e : Fin 2) (h : UandiHead) (stream : Byte) (limit : Word) (s : State) : Host.Outcome State Fault Refusal :=
  settled (creditArrives e.val h stream limit) s

/-- LOAD_IMAGE (R491). -/
def execLoadImage (h : UandiHead) (offset total : Word) (last : Bool) (data : List Byte) (s : State) :
    Host.Outcome State Fault Refusal :=
  settled (commandMsg h opLoadImage
    (bytesBE 4 offset.toNat ++ bytesBE 4 total.toNat ++ [if last then 1#8 else 0#8, 0#8, 0#8, 0#8] ++ data)) s

/-- REMOTE_TIMEOUT (R482). -/
def execRemoteTimeout (n : Fin 16) (seq : BitVec 32) (s : State) : Host.Outcome State Fault Refusal :=
  settledD (remoteTimeout n.val seq.toNat) s

/-- EVENT_FRAME_HOLD_EXPIRY (R489). -/
def execEventFrameHoldExpiry (n : Fin 16) (s : State) : Host.Outcome State Fault Refusal :=
  onDev (dueThen (fun d => holdOver d n.val) (eventFrame n.val)) s

/-- IMAGE_VERIFY_DONE (R491). -/
def execImageVerifyDone (s : State) : Host.Outcome State Fault Refusal := settled verifyHost s

end Sys2Proof.Machine
end

