-- ==== Sys2Proof/Machine/StreamCmds.lean ====
section
/-! DEFINITION. The commands of spec/14: flush times, frames, failover. -/

namespace Sys2Proof.Machine

/-- RECORD_FLUSH_EXPIRY (R501): the open record of stream n closes. -/
def execRecordFlushExpiry (n : Fin 16) (s : State) : Host.Outcome State Fault Refusal :=
  onDev (dueThen (fun d => recordFlushDue d n.val) (closeRecord n.val)) s

/-- FRAME_FLUSH_EXPIRY (R504): a frame of stream n becomes ready to leave. -/
def execFrameFlushExpiry (n : Fin 16) (s : State) : Host.Outcome State Fault Refusal := onDev (flushExpires n.val) s

/-- The frame of the stream whose turn it is leaves. -/
def sendTurn (d : Device) : Device :=
  match nextStream d with
  | some n => sendStream n d
  | none => d

/-- STREAM_FRAME_SEND (R503 to R505). DESIGN CHOICE (log 96). -/
def execStreamFrameSend (s : State) : Host.Outcome State Fault Refusal := onDev sendTurn s

/-- STREAM_FAILOVER (R510). -/
def execStreamFailover (n : Fin 16) (s : State) : Host.Outcome State Fault Refusal :=
  onDev (dueThen (fun d => failoverDue d n.val) (streamMove n.val)) s

/-- STREAM_FAILBACK (R510). -/
def execStreamFailback (n : Fin 16) (s : State) : Host.Outcome State Fault Refusal :=
  onDev (dueThen (fun d => failbackDue d n.val) (streamMove n.val)) s

/-- FO_FENCE_EXPIRY (R511). -/
def execFoFenceExpiry (n : Fin 16) (s : State) : Host.Outcome State Fault Refusal :=
  onDev (dueThen (fun d => foFenceOver d n.val) (foFenceEnd n.val)) s

end Sys2Proof.Machine
end

