-- ==== Sys2Proof/Machine/FabCmds.lean ====
section
/-! DEFINITION. The commands of spec/15: links, flits, messages, fences, MAINT and membership. -/

namespace Sys2Proof.Machine

/-! ## Links (R516, R517, R522 to R525) -/

/-- IDENT (R516, R517): the peer's UID, ID, link number, TGEN and FRESH, and what training found of the lanes. -/
def execIdent (l : Fin 8) (uid : BitVec 64) (id : BitVec 12) (link : Fin 8) (_tgen : BitVec 16) (fresh : Bool) (rxInv : BitVec 4)
    (reversed : Bool) (s : State) : Host.Outcome State Fault Refusal :=
  settledD (identArrives l.val uid id link.val fresh rxInv reversed) s

/-- A RESUME arrives in RETRAIN (R516, R517, R524): it returns credits as every LCTL does (R523), this end sends its own unless it has, replays
from the number, and the link is up. -/
def resumeArrives (l n vc credits : Nat) (d : Device) : Device :=
  if lstate d l = 3 ∧ domainOn d (pgLink l) then
    let d := takeCredits l vc credits d
    let d := if (linkOf d l).resumed then d else sendResume l d
    d |> resendFrom l n false |> enterUp l
  else d

/-- RESUME (R517, R523). -/
def execResume (l : Fin 8) (x : LctlWord) (s : State) : Host.Outcome State Fault Refusal :=
  settledD (resumeArrives l.val x.number.val x.vc.val x.credits.val) s

/-- LANE_LOCK_LOSS (R516): a receive lane is no longer locked. -/
def execLaneLockLoss (l : Fin 8) (lane : Fin 4) (s : State) : Host.Outcome State Fault Refusal :=
  onDev (dueThen (fun d => linkUp d l.val) (fun d => enterRetrain l.val (wrB (pgLink l.val) Reg.LINK.STAT (12 + lane.val) false d))) s

/-- The link has been in a state for a number of ticks. -/
def linkFor (d : Device) (l st n : Nat) : Bool :=
  decide (lstate d l = st) && domainOn d (pgLink l) && decide ((linkOf d l).since + n ≤ d.time.now)

/-- LINK_FAIL (R516): FAIL_TO µs in RETRAIN. -/
def failDue (d : Device) (l : Nat) : Bool := linkFor d l 3 (rdF d (pgLink l) Reg.LINK.FAIL_TO 0 16 * 1280)
def execLinkFail (l : Fin 8) (s : State) : Host.Outcome State Fault Refusal :=
  onDev (dueThen (fun d => failDue d l.val) (enterFailed l.val)) s

/-- LINK_FAILED_RETRY (R516): 10 ms in FAILED. -/
def retryDue (d : Device) (l : Nat) : Bool := linkFor d l 4 12800000
def execLinkFailedRetry (l : Fin 8) (s : State) : Host.Outcome State Fault Refusal :=
  onDev (dueThen (fun d => retryDue d l.val) (enterTrain l.val)) s

/-- LCTL_TIMEOUT (R523): 2 µs without an LCTL. -/
def lctlLate (d : Device) (l : Nat) : Bool := linkUp d l && decide ((linkOf d l).lctlAt + 2560 ≤ d.time.now)
def execLctlTimeout (l : Fin 8) (s : State) : Host.Outcome State Fault Refusal :=
  onDev (dueThen (fun d => lctlLate d l.val) (enterRetrain l.val)) s

/-- An LCTL arrives: it is noted, and returns credits (R523, R525). -/
def lctlTake (l vc credits : Nat) (d : Device) : Device :=
  takeCredits l vc credits (setLink l { linkOf d l with lctlAt := d.time.now } d)

/-- LCTL_ACK (R522, R525). -/
def execLctlAck (l : Fin 8) (n : Fin 4096) (vc : Fin 4) (credits : Fin 64) (s : State) : Host.Outcome State Fault Refusal :=
  settledD (dueThen (fun d => linkUp d l.val) (fun d => pumpAll (ackUpTo l.val n.val (lctlTake l.val vc.val credits.val d)))) s

/-- Some flit from the named number on has been resent 8 times (R524). -/
def resentOut (d : Device) (l n : Nat) : Bool :=
  (linkOf d l).replay.any (fun e => fromNo n e.1 && decide (8 ≤ e.2))

/-- A NAK is obeyed, or ends in RETRAIN (R522, R524). DEDUCED (log 102). -/
def nakTake (l n : Nat) (d : Device) : Device :=
  if resentOut d l n then enterRetrain l d else pumpAll (resendFrom l n true d)

/-- LCTL_NAK (R522, R524). -/
def execLctlNak (l : Fin 8) (n : Fin 4096) (vc : Fin 4) (credits : Fin 64) (s : State) : Host.Outcome State Fault Refusal :=
  settledD (dueThen (fun d => linkUp d l.val) (fun d => nakTake l.val n.val (lctlTake l.val vc.val credits.val d))) s

/-- ACK_TIMER_EXPIRY (R522): 200 ns after the oldest acceptance not acknowledged. With credits owed, 200 ns after the last LCTL (R525); and
1 µs after it in any case, since an end that receives none for 2 µs retrains (R523). DESIGN CHOICE (log 106). -/
def ackDue (d : Device) (l : Nat) : Bool :=
  let k := linkOf d l
  linkUp d l && ((match k.accAt with | some t => decide (t + 256 ≤ d.time.now) | none => false) ||
    (decide (k.owed ≠ []) && decide (k.lctlSent + 256 ≤ d.time.now)) || decide (k.lctlSent + 1280 ≤ d.time.now))
def execAckTimerExpiry (l : Fin 8) (s : State) : Host.Outcome State Fault Refusal :=
  onDev (dueThen (fun d => ackDue d l.val) (sendAck l.val)) s

/-- NAK_REPEAT_EXPIRY (R522): 1 µs without progress. DESIGN CHOICE (log 106). -/
def nakDue (d : Device) (l : Nat) : Bool :=
  linkUp d l && (match (linkOf d l).nakAt with | some t => decide (t + 1280 ≤ d.time.now) | none => false)
def execNakRepeatExpiry (l : Fin 8) (s : State) : Host.Outcome State Fault Refusal :=
  onDev (dueThen (fun d => nakDue d l.val) (sendNak l.val)) s

/-- CRC_ERR (R520, R522): a flit that cannot be taken. DEDUCED (log 102). -/
def execCrcErr (l : Fin 8) (s : State) : Host.Outcome State Fault Refusal := onDev (badFlit l.val) s

/-! ## Messages and flits (R519, R528 to R543) -/

/-- REQ_MESSAGE (R520, R528 to R532): flits of a request in their order, the head first. -/
def execReqMessage (l : Fin 8) (flits : List Flit) (s : State) : Host.Outcome State Fault Refusal :=
  settled (messageArrives 1 l.val flits) s

/-- RESP_MESSAGE (R528, R533). -/
def execRespMessage (l : Fin 8) (flits : List Flit) (s : State) : Host.Outcome State Fault Refusal :=
  settled (messageArrives 2 l.val flits) s

/-- A TRIP flit acts for one tick as a source of each zone it names that has FAB_IN (R538). -/
def tripArrives (l zones origin stamp : Nat) (d : Device) : Device :=
  if ¬ linkUp d l ∨ ¬ domainOn d pgLegsys then d
  else
    let zs := (List.range 8).filter (fun z => zones.testBit z && rdB d pgLegsys (Reg.LEGSYS.TZ_CFG z) 2)
    let d := forEach zs (fun z => tripZone z 6 origin (some (origin, stamp))) d
    { d with legs := { d.legs with flash := d.legs.flash ||| BitVec.ofNat 8 ((zs.map (fun z => 2 ^ z)).foldl (· + ·) 0) } }

/-- TRIP_FLIT (R538). -/
def execTripFlit (l : Fin 8) (zones : Byte) (origin : BitVec 12) (stamp : BitVec 48) (s : State) : Host.Outcome State Fault Refusal :=
  onEdges (tripArrives l.val zones.toNat origin.toNat stamp.toNat) s

/-- A repeat of the trip flit is due (R537). -/
def tripDue (d : Device) : Bool := decide (fabOutMask d ≠ 0) && decide (d.legs.tripSent + 1280 ≤ d.time.now)

/-- TRIP_REPEAT (R537). -/
def execTripRepeat (s : State) : Host.Outcome State Fault Refusal := onDev (dueThen tripDue sendTrip) s

/-- EVENT_FLIT (R564). -/
def execEventFlit (l : Fin 8) (f : Flit) (s : State) : Host.Outcome State Fault Refusal :=
  settledD (flitArrives 6 (fun v => decide (v = 1)) (fun f => eventArrives f.payload) l.val f) s

/-- FENCE_FLIT (R535). -/
def execFenceFlit (l : Fin 8) (f : Flit) (s : State) : Host.Outcome State Fault Refusal :=
  settledD (flitArrives 8 (fun v => decide (v < 4)) fenceTake l.val f) s

/-- FENCE_ACK (R535). -/
def execFenceAck (l : Fin 8) (f : Flit) (s : State) : Host.Outcome State Fault Refusal :=
  settledD (flitArrives 9 (fun v => decide (v = 3)) fenceAckTake l.val f) s

/-- FENCE_TIMEOUT (R535). -/
def execFenceTimeout (s : State) : Host.Outcome State Fault Refusal := settledD fenceTimeout s

/-- FABRIC_REQ_TIMEOUT (R533): the request with a TAG. -/
def execFabricReqTimeout (tag : BitVec 16) (s : State) : Host.Outcome State Fault Refusal := settled (reqTimeout tag.toNat) s

/-- MCTL as a write with GO and an operation. -/
def maintWord (w : Wr) (op : Nat) : Wr := { w with data := setFld (setBit w.data 31 true) 0 2 op }

/-- MAINT_READ (R543). -/
def execMaintRead (w : Wr) (s : State) : Host.Outcome State Fault Refusal := writeCmd pgFab Reg.FAB.MCTL (maintWord w 1) s

/-- MAINT_WRITE (R543). -/
def execMaintWrite (w : Wr) (s : State) : Host.Outcome State Fault Refusal := writeCmd pgFab Reg.FAB.MCTL (maintWord w 2) s

/-- A MAINT flit passes the link's checks and goes its way (R519, R522, R541). -/
def maintReceive (l : Nat) (f : Flit) (s : DM) : DM :=
  if f.typ ≠ 7 ∨ f.vc ≠ 3 then (badFlit l s.1, s.2)
  else
    let r := acceptSeq l f s.1
    if r.2 then maintArrives l f (r.1, s.2) else (r.1, s.2)

/-- MAINT_FLIT (R541, R542): a request. -/
def execMaintFlit (l : Fin 8) (f : Flit) (s : State) : Host.Outcome State Fault Refusal := settled (maintReceive l.val f) s

/-- MAINT_RESPONSE (R541, R543). -/
def execMaintResponse (l : Fin 8) (f : Flit) (s : State) : Host.Outcome State Fault Refusal := settled (maintReceive l.val f) s

/-! ## Membership (R544, R545) -/

/-- TGEN_WRITE (R544). DEDUCED (log 108). -/
def execTgenWrite (w : Wr) (s : State) : Host.Outcome State Fault Refusal := writeCmd pgFab Reg.FAB.TGEN w s

/-- RELEASE (R544): CTL is written with RELEASE 1. -/
def execRelease (w : Wr) (s : State) : Host.Outcome State Fault Refusal := writeCmd pgFab Reg.FAB.CTL (withOnes w 2#32) s

/-- ID_WRITE (R545, R546). -/
def execIdWrite (w : Wr) (s : State) : Host.Outcome State Fault Refusal := writeCmd pgFab Reg.FAB.ID w s

end Sys2Proof.Machine
end

