-- ==== Sys2Proof/Machine/OrderCmds.lean ====
section
/-! DEFINITION. The commands of spec/16: grants of the event arbiter, its log, Firefly. -/

namespace Sys2Proof.Machine

/-- EVA_GRANT (R561, R565). -/
def execEvaGrant (s : State) : Host.Outcome State Fault Refusal :=
  settledD (dueThen (fun d => decide (d.eva.pending ≠ []) && domainOn d pgEva) grantStep) s

/-- LOG_HEAD_READ (R566). -/
def execLogHeadRead (who : Requester) (s : State) : Host.Outcome State Fault Refusal := readCmd pgEva Reg.EVA.LOG_HEAD who s

/-- PEND_PEAK_READ (R561). DEDUCED (log 109). -/
def execPendPeakRead (who : Requester) (s : State) : Host.Outcome State Fault Refusal := readCmd pgEva Reg.EVA.PEND_PEAK who s

/-- FIREFLY_ARM (R574, R576, R578): CTL is written with ARM 1. DESIGN CHOICE (log 111). -/
def execFireflyArm (i : Fin 10) (w : Wr) (s : State) : Host.Outcome State Fault Refusal :=
  writeCmd (pgFirefly i.val) Reg.FIREFLY.CTL (withOnes w 1#32) s

/-- FIREFLY_REORDER_TIMEOUT (R575). -/
def execFireflyReorderTimeout (i : Fin 10) (s : State) : Host.Outcome State Fault Refusal :=
  onDev (dueThen (fun d => ffHoldOver d i.val) (ffRelease i.val)) s

end Sys2Proof.Machine
end

