-- ==== Sys2Proof/Machine/PowerCmds.lean ====
section
/-! DEFINITION. The commands of spec/17: power domains, modes, sleep and wakes, reset and boot, Dawn. -/

namespace Sys2Proof.Machine

/-! ## Domains (R581, R582) -/

/-- PD_OFF_WRITE (R581). -/
def execPdOffWrite (hi : Bool) (w : Wr) (s : State) : Host.Outcome State Fault Refusal :=
  writeCmd pgPwr (if hi then Reg.PWR.PD_OFF_HI else Reg.PWR.PD_OFF_LO) w s

/-- A domain reaches OFF or ON; the memories of domains that are off hold nothing. -/
def domainChange (k : Nat) (t : DM) : DM :=
  let d := domainReached k t.1
  (d, powerLoss d t.2)

/-- PD_CHG (R581, R582). -/
def execPdChg (k : Fin 64) (s : State) : Host.Outcome State Fault Refusal := settled (domainChange k.val) s

/-! ## Modes (R583 to R592) -/

/-- A request for a mode (R584). DESIGN CHOICE (log 112). -/
def modeCmd (m : Mode) (w : Wr) (s : State) : Host.Outcome State Fault Refusal :=
  writeCmd pgMode Reg.MODE.REQ { w with data := wd (modeCode m) } s

/-- MODE_REQ_RUN (R584, R585). -/
def execModeReqRun (w : Wr) (s : State) : Host.Outcome State Fault Refusal := modeCmd .run w s

/-- MODE_REQ_HOLD (R584). -/
def execModeReqHold (w : Wr) (s : State) : Host.Outcome State Fault Refusal := modeCmd .hold w s

/-- MODE_REQ_CONFIGURE (R584, R589). -/
def execModeReqConfigure (w : Wr) (s : State) : Host.Outcome State Fault Refusal := modeCmd .configure w s

/-- MODE_REQ_SAFE (R584, R586). -/
def execModeReqSafe (w : Wr) (s : State) : Host.Outcome State Fault Refusal := modeCmd .safe w s

/-- MODE_REQ_SELFTEST (R584, R600), with what the run will find. DESIGN CHOICE (log 128). -/
def execModeReqSelftest (x : DawnAsk) (s : State) : Host.Outcome State Fault Refusal :=
  settledD (fun d => dawnWillFind x.found d (writePage pgMode Reg.MODE.REQ { x.w with data := wd (modeCode .selftest) } d)) s

/-- MODE_REQ_SLEEP (R584, R590). -/
def execModeReqSleep (w : Wr) (s : State) : Host.Outcome State Fault Refusal := modeCmd .sleep w s

/-- MODE_REQ_RETAIN (R584, R591). -/
def execModeReqRetain (w : Wr) (s : State) : Host.Outcome State Fault Refusal := modeCmd .retain w s

/-- The bulk SRAM bank b is retained (R591). DEDUCED (log 114). -/
def bankKept (d : Device) (b : Nat) : Bool :=
  if b < 32 then rdB d pgMode Reg.MODE.RET_MASK_LO b else rdB d pgMode Reg.MODE.RET_MASK_HI (b - 32)

/-- What RETAIN leaves of the memories: the retained banks (R591). DEDUCED (log 114). -/
def retainedMemory (d : Device) (m : Memory) : Memory :=
  let m := clearRange 0 bulkBase (clearRange (bulkBase + bulkSize) (2 ^ 36) m)
  forEach ((List.range 48).filter (fun b => !bankKept d b))
    (fun b => clearRange (bulkBase + b * 0x100000) (bulkBase + (b + 1) * 0x100000)) m

/-- A transition completes. -/
def modeArrives (t : DM) : DM :=
  (transitionDone t.1, if t.1.sys.transit = some .retain then retainedMemory t.1 t.2 else t.2)

/-- MODE_CHG (R584, R591). -/
def execModeChg (s : State) : Host.Outcome State Fault Refusal := settled modeArrives s

/-- DUSK_COMPLETE (R588). -/
def execDuskComplete (s : State) : Host.Outcome State Fault Refusal := settledD (dueThen (fun d => d.sys.dusk) duskComplete) s

/-- SLEEP_ENTRY (R590). -/
def execSleepEntry (s : State) : Host.Outcome State Fault Refusal := settledD (dueThen sleepReady sleepEnter) s

/-- SLEEP_IDLE_TIMEOUT (R590). -/
def execSleepIdleTimeout (s : State) : Host.Outcome State Fault Refusal := onDev (dueThen sleepLate sleepRefuse) s

/-- WAKE_TIO (R592): AON recognises an edge at TIO0 to TIO3. -/
def execWakeTio (pin : Fin 4) (s : State) : Host.Outcome State Fault Refusal := onEdges (wakeTio pin.val) s

/-- WAKE_ETH (R464). -/
def execWakeEth (s : State) : Host.Outcome State Fault Refusal := onEdges wakeEth s

/-- WAKE_TIMER (R590, R592). -/
def execWakeTimer (s : State) : Host.Outcome State Fault Refusal := onEdges wakeTimer s

/-! ## Reset and boot (R593 to R597, R617 to R619) -/

/-- RESET (R593): the boot that follows RESET_N rising or a RETAIN wake. -/
def execReset (x : BootRun) (s : State) : Host.Outcome State Fault Refusal := settled (bootAll x) s

/-- RESET_N_PULSE (R619): the memories lose their contents with the registers. DEDUCED (log 116). DESIGN CHOICE (log 127). -/
def execResetNPulse (s : State) : Host.Outcome State Fault Refusal := onBoth (fun t => (withEdges resetPulse t.1, {})) s

/-- VERIFY (R594): BOOT.CTL is written with VERIFY 1. -/
def execVerify (w : Wr) (s : State) : Host.Outcome State Fault Refusal := writeCmd pgBoot Reg.BOOT.CTL (withOnes w 1#32) s

/-- BOOT_SOURCE_TIMEOUT (R594). -/
def execBootSourceTimeout (s : State) : Host.Outcome State Fault Refusal := settledD sourceTimeout s

/-- RB_ADV (R597): BOOT.CTL is written with RB_ADV 1. DEDUCED (log 122). -/
def execRbAdv (w : Wr) (s : State) : Host.Outcome State Fault Refusal := writeCmd pgBoot Reg.BOOT.CTL (withOnes w 2#32) s

/-! ## Dawn (R598 to R600) -/

/-- DAWN_RUN (R600): DAWN.CTL is written with RUN 1, with what the run will find. DESIGN CHOICE (log 128). -/
def execDawnRun (x : DawnAsk) (s : State) : Host.Outcome State Fault Refusal :=
  settledD (fun d => dawnWillFind x.found d (writePage pgDawn Reg.DAWN.CTL (withOnes x.w 1#32) d)) s

/-- DAWN_SLICE_TIMEOUT (R598): slices of a step, as bits in the order of its row. DESIGN CHOICE (log 128). -/
def execDawnSliceTimeout (step : Fin 20) (slices : BitVec 64) (s : State) : Host.Outcome State Fault Refusal :=
  onDev (dawnSliceTimeout step.val slices) s

/-- DAWN_DONE (R599, R600): all steps have run, with what they found besides the timeouts. -/
def execDawnDone (found : DawnSet) (s : State) : Host.Outcome State Fault Refusal :=
  settledD (dueThen dawnOver (dawnFinish 19 found)) s

end Sys2Proof.Machine
end

