-- ==== Sys2Proof/Machine/Dispatch.lean ====
section
/-! DEFINITION. One arm for each command: its meaning, or a rejection by name. -/

namespace Sys2Proof.Machine

def exec (i : Instr) (s : State) : Host.Outcome State Fault Refusal :=
  match i with
  | .registerWrite who addr width data poison => Sys2Proof.Machine.execRegisterWrite who addr width data poison s
  | .errCodeRead page who => Sys2Proof.Machine.execErrCodeRead page who s
  | .softRstComplete page => Sys2Proof.Machine.execSoftRstComplete page s
  | .abortDone page => Sys2Proof.Machine.execAbortDone page s
  | .forcedAbort page => Sys2Proof.Machine.execForcedAbort page s
  | .dlCalibration g err => Sys2Proof.Machine.execDlCalibration g err s
  | .tlcmpFire c => Sys2Proof.Machine.execTlcmpFire c s
  | .syncWordReceive hop stop edge => Sys2Proof.Machine.execSyncWordReceive hop stop edge s
  | .tsyncExchangeStart l fine => Sys2Proof.Machine.execTsyncExchangeStart l fine s
  | .tsyncRequest l n t2 t3 => Sys2Proof.Machine.execTsyncRequest l n t2 t3 s
  | .tsyncResponse l n t2 t3 t4 => Sys2Proof.Machine.execTsyncResponse l n t2 t3 t4 s
  | .tsyncTimeout l => Sys2Proof.Machine.execTsyncTimeout l s
  | .carrierZero g => Sys2Proof.Machine.execCarrierZero g s
  | .carrierPeriod g => Sys2Proof.Machine.execCarrierPeriod g s
  | .compareMatch leg cmp early => Sys2Proof.Machine.execCompareMatch leg cmp early s
  | .deadTimeExpiry leg high => Sys2Proof.Machine.execDeadTimeExpiry leg high s
  | .minpExpiry leg high => Sys2Proof.Machine.execMinpExpiry leg high s
  | .tripPinAssert pin => Sys2Proof.Machine.execTripPinAssert pin s
  | .ilkExpiry leg high => Sys2Proof.Machine.execIlkExpiry leg high s
  | .safepatIlkExpiry leg high => Sys2Proof.Machine.execSafepatIlkExpiry leg high s
  | .timerCountStep n => Sys2Proof.Machine.execTimerCountStep n s
  | .tioEdge pin level => Sys2Proof.Machine.execTioEdge pin level s
  | .capHeadRead n who => Sys2Proof.Machine.execCapHeadRead n who s
  | .initDone q cals => Sys2Proof.Machine.execInitDone q cals s
  | .rotationStepStart q cal ho chMean ovld => Sys2Proof.Machine.execRotationStepStart q cal ho chMean ovld s
  | .handoverSwitch q => Sys2Proof.Machine.execHandoverSwitch q s
  | .oldSliceRelease q => Sys2Proof.Machine.execOldSliceRelease q s
  | .sliceOverload q sl pos => Sys2Proof.Machine.execSliceOverload q sl pos s
  | .refFail q => Sys2Proof.Machine.execRefFail q s
  | .xbsStuck x => Sys2Proof.Machine.execXbsStuck x s
  | .fastOutput ch x => Sys2Proof.Machine.execFastOutput ch x s
  | .conversionStart p => Sys2Proof.Machine.execConversionStart p s
  | .conversionEnd p outs => Sys2Proof.Machine.execConversionEnd p outs s
  | .resultAppend p => Sys2Proof.Machine.execResultAppend p s
  | .resHeadRead p who => Sys2Proof.Machine.execResHeadRead p who s
  | .bandEvaluation n => Sys2Proof.Machine.execBandEvaluation n s
  | .oluEvaluation u => Sys2Proof.Machine.execOluEvaluation u s
  | .oluCommit u => Sys2Proof.Machine.execOluCommit u s
  | .oluMiss u => Sys2Proof.Machine.execOluMiss u s
  | .intLoRead u q who => Sys2Proof.Machine.execIntLoRead u q who s
  | .fePeakRead u who => Sys2Proof.Machine.execFePeakRead u who s
  | .posLevelRecognised n a b z => Sys2Proof.Machine.execPosLevelRecognised n a b z s
  | .probe n level => Sys2Proof.Machine.execProbe n level s
  | .speedWindowEnd n => Sys2Proof.Machine.execSpeedWindowEnd n s
  | .speedTimeout n => Sys2Proof.Machine.execSpeedTimeout n s
  | .ssiFrameComplete n => Sys2Proof.Machine.execSsiFrameComplete n s
  | .ssiDataLoRead n who => Sys2Proof.Machine.execSsiDataLoRead n who s
  | .haltTakesEffect k => Sys2Proof.Machine.execHaltTakesEffect k s
  | .longOpComplete k => Sys2Proof.Machine.execLongOpComplete k s
  | .storeDrain k page => Sys2Proof.Machine.execStoreDrain k page s
  | .impreciseEntry k => Sys2Proof.Machine.execImpreciseEntry k s
  | .interruptEntry k => Sys2Proof.Machine.execInterruptEntry k s
  | .nop k e => Sys2Proof.Machine.execNop k e s
  | .mov k d a e => Sys2Proof.Machine.execMov k d a e s
  | .movi k d imm e => Sys2Proof.Machine.execMovi k d imm e s
  | .movhi k d imm e => Sys2Proof.Machine.execMovhi k d imm e s
  | .mvmLo k d a e => Sys2Proof.Machine.execMvmLo k d a e s
  | .mvmHi k d a e => Sys2Proof.Machine.execMvmHi k d a e s
  | .mvmG k d a e => Sys2Proof.Machine.execMvmG k d a e s
  | .rndQ31 k d a e => Sys2Proof.Machine.execRndQ31 k d a e s
  | .mvaLo k d a e => Sys2Proof.Machine.execMvaLo k d a e s
  | .mvaHi k d a e => Sys2Proof.Machine.execMvaHi k d a e s
  | .mvaG k d a e => Sys2Proof.Machine.execMvaG k d a e s
  | .arndQ31 k d a e => Sys2Proof.Machine.execArndQ31 k d a e s
  | .sextB k d a e => Sys2Proof.Machine.execSextB k d a e s
  | .sextH k d a e => Sys2Proof.Machine.execSextH k d a e s
  | .zextB k d a e => Sys2Proof.Machine.execZextB k d a e s
  | .zextH k d a e => Sys2Proof.Machine.execZextH k d a e s
  | .addI32 k d a b e => Sys2Proof.Machine.execAddI32 k d a b e s
  | .subI32 k d a b e => Sys2Proof.Machine.execSubI32 k d a b e s
  | .addQ31 k d a b e => Sys2Proof.Machine.execAddQ31 k d a b e s
  | .subQ31 k d a b e => Sys2Proof.Machine.execSubQ31 k d a b e s
  | .addI16x2 k d a b e => Sys2Proof.Machine.execAddI16x2 k d a b e s
  | .subI16x2 k d a b e => Sys2Proof.Machine.execSubI16x2 k d a b e s
  | .addQ15x2 k d a b e => Sys2Proof.Machine.execAddQ15x2 k d a b e s
  | .subQ15x2 k d a b e => Sys2Proof.Machine.execSubQ15x2 k d a b e s
  | .negI32 k d a e => Sys2Proof.Machine.execNegI32 k d a e s
  | .negQ31 k d a e => Sys2Proof.Machine.execNegQ31 k d a e s
  | .absI32 k d a e => Sys2Proof.Machine.execAbsI32 k d a e s
  | .absQ31 k d a e => Sys2Proof.Machine.execAbsQ31 k d a e s
  | .minI32 k d a b e => Sys2Proof.Machine.execMinI32 k d a b e s
  | .maxI32 k d a b e => Sys2Proof.Machine.execMaxI32 k d a b e s
  | .minuU32 k d a b e => Sys2Proof.Machine.execMinuU32 k d a b e s
  | .maxuU32 k d a b e => Sys2Proof.Machine.execMaxuU32 k d a b e s
  | .and k d a b e => Sys2Proof.Machine.execAnd k d a b e s
  | .or k d a b e => Sys2Proof.Machine.execOr k d a b e s
  | .xor k d a b e => Sys2Proof.Machine.execXor k d a b e s
  | .andn k d a b e => Sys2Proof.Machine.execAndn k d a b e s
  | .shl k d a b e => Sys2Proof.Machine.execShl k d a b e s
  | .shr k d a b e => Sys2Proof.Machine.execShr k d a b e s
  | .sra k d a b e => Sys2Proof.Machine.execSra k d a b e s
  | .shlQ31 k d a b e => Sys2Proof.Machine.execShlQ31 k d a b e s
  | .seq k d a b e => Sys2Proof.Machine.execSeq k d a b e s
  | .sne k d a b e => Sys2Proof.Machine.execSne k d a b e s
  | .slt k d a b e => Sys2Proof.Machine.execSlt k d a b e s
  | .sltu k d a b e => Sys2Proof.Machine.execSltu k d a b e s
  | .sge k d a b e => Sys2Proof.Machine.execSge k d a b e s
  | .sgeu k d a b e => Sys2Proof.Machine.execSgeu k d a b e s
  | .clz k d a e => Sys2Proof.Machine.execClz k d a e s
  | .not k d a e => Sys2Proof.Machine.execNot k d a e s
  | .addiI32 k d a imm e => Sys2Proof.Machine.execAddiI32 k d a imm e s
  | .andi k d a imm e => Sys2Proof.Machine.execAndi k d a imm e s
  | .ori k d a imm e => Sys2Proof.Machine.execOri k d a imm e s
  | .xori k d a imm e => Sys2Proof.Machine.execXori k d a imm e s
  | .shli k d a imm e => Sys2Proof.Machine.execShli k d a imm e s
  | .shri k d a imm e => Sys2Proof.Machine.execShri k d a imm e s
  | .srai k d a imm e => Sys2Proof.Machine.execSrai k d a imm e s
  | .seqi k d a imm e => Sys2Proof.Machine.execSeqi k d a imm e s
  | .snei k d a imm e => Sys2Proof.Machine.execSnei k d a imm e s
  | .slti k d a imm e => Sys2Proof.Machine.execSlti k d a imm e s
  | .sltui k d a imm e => Sys2Proof.Machine.execSltui k d a imm e s
  | .mulI32 k d a b e => Sys2Proof.Machine.execMulI32 k d a b e s
  | .mulU32 k d a b e => Sys2Proof.Machine.execMulU32 k d a b e s
  | .mulQ31 k d a b e => Sys2Proof.Machine.execMulQ31 k d a b e s
  | .macI32 k d a b e => Sys2Proof.Machine.execMacI32 k d a b e s
  | .macU32 k d a b e => Sys2Proof.Machine.execMacU32 k d a b e s
  | .macQ31 k d a b e => Sys2Proof.Machine.execMacQ31 k d a b e s
  | .msuQ31 k d a b e => Sys2Proof.Machine.execMsuQ31 k d a b e s
  | .dmacQ15x2 k d a b e => Sys2Proof.Machine.execDmacQ15x2 k d a b e s
  | .mtm k d a e => Sys2Proof.Machine.execMtm k d a e s
  | .clrM k d e => Sys2Proof.Machine.execClrM k d e s
  | .accAdd k d a e => Sys2Proof.Machine.execAccAdd k d a e s
  | .accSub k d a e => Sys2Proof.Machine.execAccSub k d a e s
  | .clrA k d e => Sys2Proof.Machine.execClrA k d e s
  | .mta k d a e => Sys2Proof.Machine.execMta k d a e s
  | .ldB k d a imm e => Sys2Proof.Machine.execLdB k d a imm e s
  | .ldBu k d a imm e => Sys2Proof.Machine.execLdBu k d a imm e s
  | .ldH k d a imm e => Sys2Proof.Machine.execLdH k d a imm e s
  | .ldHu k d a imm e => Sys2Proof.Machine.execLdHu k d a imm e s
  | .ldW k d a imm e => Sys2Proof.Machine.execLdW k d a imm e s
  | .stB k d a imm e => Sys2Proof.Machine.execStB k d a imm e s
  | .stH k d a imm e => Sys2Proof.Machine.execStH k d a imm e s
  | .stW k d a imm e => Sys2Proof.Machine.execStW k d a imm e s
  | .ldD k d a imm e => Sys2Proof.Machine.execLdD k d a imm e s
  | .stD k d a imm e => Sys2Proof.Machine.execStD k d a imm e s
  | .ldxW k d a b e => Sys2Proof.Machine.execLdxW k d a b e s
  | .stxW k d a b e => Sys2Proof.Machine.execStxW k d a b e s
  | .divI32 k d a b e => Sys2Proof.Machine.execDivI32 k d a b e s
  | .divU32 k d a b e => Sys2Proof.Machine.execDivU32 k d a b e s
  | .remI32 k d a b e => Sys2Proof.Machine.execRemI32 k d a b e s
  | .remU32 k d a b e => Sys2Proof.Machine.execRemU32 k d a b e s
  | .divQ31 k d a b e => Sys2Proof.Machine.execDivQ31 k d a b e s
  | .sqrtQ31 k d a e => Sys2Proof.Machine.execSqrtQ31 k d a e s
  | .rcpQ31 k d a e => Sys2Proof.Machine.execRcpQ31 k d a e s
  | .lmacQ63 k d a b e => Sys2Proof.Machine.execLmacQ63 k d a b e s
  | .b k imm e => Sys2Proof.Machine.execB k imm e s
  | .call k imm e => Sys2Proof.Machine.execCall k imm e s
  | .ret k e => Sys2Proof.Machine.execRet k e s
  | .jr k a e => Sys2Proof.Machine.execJr k a e s
  | .callr k a e => Sys2Proof.Machine.execCallr k a e s
  | .bz k a imm e => Sys2Proof.Machine.execBz k a imm e s
  | .bnz k a imm e => Sys2Proof.Machine.execBnz k a imm e s
  | .cbeq k x y imm e => Sys2Proof.Machine.execCbeq k x y imm e s
  | .cbne k x y imm e => Sys2Proof.Machine.execCbne k x y imm e s
  | .cblt k x y imm e => Sys2Proof.Machine.execCblt k x y imm e s
  | .cbge k x y imm e => Sys2Proof.Machine.execCbge k x y imm e s
  | .cbltu k x y imm e => Sys2Proof.Machine.execCbltu k x y imm e s
  | .cbgeu k x y imm e => Sys2Proof.Machine.execCbgeu k x y imm e s
  | .loop k a imm e => Sys2Proof.Machine.execLoop k a imm e s
  | .trap k n e => Sys2Proof.Machine.execTrap k n e s
  | .retx k e => Sys2Proof.Machine.execRetx k e s
  | .wait k e => Sys2Proof.Machine.execWait k e s
  | .barrier k e => Sys2Proof.Machine.execBarrier k e s
  | .mfs k d a e => Sys2Proof.Machine.execMfs k d a e s
  | .mts k d a e => Sys2Proof.Machine.execMts k d a e s
  | .ceCntRead id who => Sys2Proof.Machine.execCeCntRead id who s
  | .ueCntRead id who => Sys2Proof.Machine.execUeCntRead id who s
  | .scrubWord n => Sys2Proof.Machine.execScrubWord n s
  | .cvuComplete c => Sys2Proof.Machine.execCvuComplete c s
  | .frameReceive e bytes fcsOk line => Sys2Proof.Machine.execFrameReceive e bytes fcsOk line s
  | .pfcPauseExpiry e p => Sys2Proof.Machine.execPfcPauseExpiry e p s
  | .rawtxDone e fines => Sys2Proof.Machine.execRawtxDone e fines s
  | .tsHeadRead e who => Sys2Proof.Machine.execTsHeadRead e who s
  | .sessOpen h => Sys2Proof.Machine.execSessOpen h s
  | .close h => Sys2Proof.Machine.execClose h s
  | .read h addr => Sys2Proof.Machine.execRead h addr s
  | .write h addr data => Sys2Proof.Machine.execWrite h addr data s
  | .readBlock h addr len => Sys2Proof.Machine.execReadBlock h addr len s
  | .writeBlock h addr len rest => Sys2Proof.Machine.execWriteBlock h addr len rest s
  | .rmw h addr mask data => Sys2Proof.Machine.execRmw h addr mask data s
  | .fence h => Sys2Proof.Machine.execFence h s
  | .abortFunction h addr => Sys2Proof.Machine.execAbortFunction h addr s
  | .eventSubscribe h mode hold map => Sys2Proof.Machine.execEventSubscribe h mode hold map s
  | .credit e h stream limit => Sys2Proof.Machine.execCredit e h stream limit s
  | .loadImage h offset total last data => Sys2Proof.Machine.execLoadImage h offset total last data s
  | .remoteTimeout n seq => Sys2Proof.Machine.execRemoteTimeout n seq s
  | .eventFrameHoldExpiry n => Sys2Proof.Machine.execEventFrameHoldExpiry n s
  | .recordFlushExpiry n => Sys2Proof.Machine.execRecordFlushExpiry n s
  | .frameFlushExpiry n => Sys2Proof.Machine.execFrameFlushExpiry n s
  | .streamFailover n => Sys2Proof.Machine.execStreamFailover n s
  | .streamFailback n => Sys2Proof.Machine.execStreamFailback n s
  | .ident l uid id link tgen fresh rxInv reversed => Sys2Proof.Machine.execIdent l uid id link tgen fresh rxInv reversed s
  | .resume l x => Sys2Proof.Machine.execResume l x s
  | .laneLockLoss l lane => Sys2Proof.Machine.execLaneLockLoss l lane s
  | .linkFail l => Sys2Proof.Machine.execLinkFail l s
  | .linkFailedRetry l => Sys2Proof.Machine.execLinkFailedRetry l s
  | .lctlTimeout l => Sys2Proof.Machine.execLctlTimeout l s
  | .lctlAck l n vc credits => Sys2Proof.Machine.execLctlAck l n vc credits s
  | .lctlNak l n vc credits => Sys2Proof.Machine.execLctlNak l n vc credits s
  | .ackTimerExpiry l => Sys2Proof.Machine.execAckTimerExpiry l s
  | .nakRepeatExpiry l => Sys2Proof.Machine.execNakRepeatExpiry l s
  | .reqMessage l flits => Sys2Proof.Machine.execReqMessage l flits s
  | .respMessage l flits => Sys2Proof.Machine.execRespMessage l flits s
  | .tripFlit l zones origin stamp => Sys2Proof.Machine.execTripFlit l zones origin stamp s
  | .eventFlit l f => Sys2Proof.Machine.execEventFlit l f s
  | .fenceFlit l f => Sys2Proof.Machine.execFenceFlit l f s
  | .fenceAck l f => Sys2Proof.Machine.execFenceAck l f s
  | .fabricReqTimeout tag => Sys2Proof.Machine.execFabricReqTimeout tag s
  | .maintFlit l f => Sys2Proof.Machine.execMaintFlit l f s
  | .maintResponse l f => Sys2Proof.Machine.execMaintResponse l f s
  | .logHeadRead who => Sys2Proof.Machine.execLogHeadRead who s
  | .pendPeakRead who => Sys2Proof.Machine.execPendPeakRead who s
  | .fireflyReorderTimeout n => Sys2Proof.Machine.execFireflyReorderTimeout n s
  | .wakeTio pin => Sys2Proof.Machine.execWakeTio pin s
  | .reset x => Sys2Proof.Machine.execReset x s
  | .dawnSliceTimeout step slices => Sys2Proof.Machine.execDawnSliceTimeout step slices s
  | .dawnDone found => Sys2Proof.Machine.execDawnDone found s
  | .linkChg e v => Sys2Proof.Machine.execLinkChg e v s
  | .tripPinDeassert pin => Sys2Proof.Machine.execTripPinDeassert pin s
  | .refOkRestored q => Sys2Proof.Machine.execRefOkRestored q s
  | .sliceOverloadEnd q sl => Sys2Proof.Machine.execSliceOverloadEnd q sl s
  | .pdChg k => Sys2Proof.Machine.execPdChg k s
  | .crcErr l => Sys2Proof.Machine.execCrcErr l s
  | .foFenceExpiry n => Sys2Proof.Machine.execFoFenceExpiry n s
  | .lockWrite page w => Sys2Proof.Machine.execLockWrite page w s
  | .ownerWrite page w => Sys2Proof.Machine.execOwnerWrite page w s
  | .irqForce page w => Sys2Proof.Machine.execIrqForce page w s
  | .pageEnable page w => Sys2Proof.Machine.execPageEnable page w s
  | .softRst page w => Sys2Proof.Machine.execSoftRst page w s
  | .abort page w => Sys2Proof.Machine.execAbort page w s
  | .relock w => Sys2Proof.Machine.execRelock w s
  | .tlcmpArm c w => Sys2Proof.Machine.execTlcmpArm c w s
  | .reacq w => Sys2Proof.Machine.execReacq w s
  | .ptpCommit w => Sys2Proof.Machine.execPtpCommit w s
  | .legsysStart w => Sys2Proof.Machine.execLegsysStart w s
  | .legsysStop w => Sys2Proof.Machine.execLegsysStop w s
  | .gsyncSw w => Sys2Proof.Machine.execGsyncSw w s
  | .tzSw w => Sys2Proof.Machine.execTzSw w s
  | .tzClr w => Sys2Proof.Machine.execTzClr w s
  | .safepatWrite pat w => Sys2Proof.Machine.execSafepatWrite pat w s
  | .timerCountWrite n w => Sys2Proof.Machine.execTimerCountWrite n w s
  | .modgInit q w => Sys2Proof.Machine.execModgInit q w s
  | .coefWrite q sl gain w => Sys2Proof.Machine.execCoefWrite q sl gain w s
  | .swTrg hi w => Sys2Proof.Machine.execSwTrg hi w s
  | .bankSwap u w => Sys2Proof.Machine.execBankSwap u w s
  | .intClr u w => Sys2Proof.Machine.execIntClr u w s
  | .posCountWrite n w => Sys2Proof.Machine.execPosCountWrite n w s
  | .ssiStart n w => Sys2Proof.Machine.execSsiStart n w s
  | .coreStart k w => Sys2Proof.Machine.execCoreStart k w s
  | .cacheDinv k w => Sys2Proof.Machine.execCacheDinv k w s
  | .cacheIinv k w => Sys2Proof.Machine.execCacheIinv k w s
  | .dbgHalt k w => Sys2Proof.Machine.execDbgHalt k w s
  | .dbgResume k w => Sys2Proof.Machine.execDbgResume k w s
  | .dbgStep k w => Sys2Proof.Machine.execDbgStep k w s
  | .dbgRdataAccess k tag who w => Sys2Proof.Machine.execDbgRdataAccess k tag who w s
  | .icuSet k hi w => Sys2Proof.Machine.execIcuSet k hi w s
  | .scrubReport n w => Sys2Proof.Machine.execScrubReport n w s
  | .scrubRepair n w => Sys2Proof.Machine.execScrubRepair n w s
  | .cvuCompute c w => Sys2Proof.Machine.execCvuCompute c w s
  | .cvuCheck c w => Sys2Proof.Machine.execCvuCheck c w s
  | .cvuMessage c w => Sys2Proof.Machine.execCvuMessage c w s
  | .clrLast c w => Sys2Proof.Machine.execClrLast c w s
  | .rawtxWr e w => Sys2Proof.Machine.execRawtxWr e w s
  | .maintRead w => Sys2Proof.Machine.execMaintRead w s
  | .maintWrite w => Sys2Proof.Machine.execMaintWrite w s
  | .tgenWrite w => Sys2Proof.Machine.execTgenWrite w s
  | .release w => Sys2Proof.Machine.execRelease w s
  | .idWrite w => Sys2Proof.Machine.execIdWrite w s
  | .fireflyArm n w => Sys2Proof.Machine.execFireflyArm n w s
  | .pdOffWrite hi w => Sys2Proof.Machine.execPdOffWrite hi w s
  | .modeReqRun w => Sys2Proof.Machine.execModeReqRun w s
  | .modeReqHold w => Sys2Proof.Machine.execModeReqHold w s
  | .modeReqConfigure w => Sys2Proof.Machine.execModeReqConfigure w s
  | .modeReqSafe w => Sys2Proof.Machine.execModeReqSafe w s
  | .modeReqSelftest x => Sys2Proof.Machine.execModeReqSelftest x s
  | .modeReqSleep w => Sys2Proof.Machine.execModeReqSleep w s
  | .modeReqRetain w => Sys2Proof.Machine.execModeReqRetain w s
  | .verify w => Sys2Proof.Machine.execVerify w s
  | .rbAdv w => Sys2Proof.Machine.execRbAdv w s
  | .dawnRun x => Sys2Proof.Machine.execDawnRun x s
  | .refLock => Sys2Proof.Machine.execRefLock s
  | .refLoss => Sys2Proof.Machine.execRefLoss s
  | .relockDone => Sys2Proof.Machine.execRelockDone s
  | .midnight => Sys2Proof.Machine.execMidnight s
  | .syncWordSend => Sys2Proof.Machine.execSyncWordSend s
  | .syncTimeout => Sys2Proof.Machine.execSyncTimeout s
  | .ptpCommitBoundary => Sys2Proof.Machine.execPtpCommitBoundary s
  | .makeUp => Sys2Proof.Machine.execMakeUp s
  | .safeNFall => Sys2Proof.Machine.execSafeNFall s
  | .safeNRise => Sys2Proof.Machine.execSafeNRise s
  | .imageVerifyDone => Sys2Proof.Machine.execImageVerifyDone s
  | .streamFrameSend => Sys2Proof.Machine.execStreamFrameSend s
  | .tripRepeat => Sys2Proof.Machine.execTripRepeat s
  | .fenceTimeout => Sys2Proof.Machine.execFenceTimeout s
  | .evaGrant => Sys2Proof.Machine.execEvaGrant s
  | .modeChg => Sys2Proof.Machine.execModeChg s
  | .duskComplete => Sys2Proof.Machine.execDuskComplete s
  | .sleepEntry => Sys2Proof.Machine.execSleepEntry s
  | .sleepIdleTimeout => Sys2Proof.Machine.execSleepIdleTimeout s
  | .wakeEth => Sys2Proof.Machine.execWakeEth s
  | .wakeTimer => Sys2Proof.Machine.execWakeTimer s
  | .resetNPulse => Sys2Proof.Machine.execResetNPulse s
  | .bootSourceTimeout => Sys2Proof.Machine.execBootSourceTimeout s
  | .refinReturn => Sys2Proof.Machine.execRefinReturn s

end Sys2Proof.Machine
end

