-- ==== Sys2Proof/Machine/Tick.lean ====
section
/-! DEFINITION. What the device does by itself when no command waits: which of its own events are due (spec/95), one of which a step
performs, and, where none is left, the passing of a tick or, asleep, of a slow period (spec/02, R53, R54, R75). -/

namespace Sys2Proof.Machine

/-! ## Events that are due -/

/-- The commands of a family whose events are due, by instance. -/
def dueOf (n : Nat) (c : Fin n → Instr) (due : Nat → Bool) : List Instr := ((List.finRange n).filter (fun i => due i.val)).map c

/-- A command that is due under a condition. -/
def dueIf (b : Bool) (c : Instr) : List Instr := if b then [c] else []

/-- An event with its instant in fines, in its place by instant: behind those of the same instant. DESIGN CHOICE (log 12). -/
def placeAt (e : Nat × Instr) : List (Nat × Instr) → List (Nat × Instr)
  | [] => [e]
  | x :: xs => if x.1 ≤ e.1 then x :: placeAt e xs else e :: x :: xs

/-- The end of a delay at a side of a leg. -/
def sideEnds (d : Device) (high : Bool) (n : Fin 128) : List (Nat × Instr) :=
  let l := legOf d n.val
  let s := sideOf l high
  let at_ := fun (t : Option Nat) (c : Instr) => if reached d t then [(edgeAt d n.val (t.getD 0), c)] else []
  at_ s.pend (.deadTimeExpiry n high) ++ at_ s.minp (.minpExpiry n high) ++
    at_ s.ilk (if l.stage = .safe then .safepatIlkExpiry n high else .ilkExpiry n high)

/-- The match or the catch-up of a compare of a leg, and the edge of a match of the next tick (R101, R637). DESIGN CHOICE (log 43). -/
def cmpEvents (d : Device) (c : CmpSel) (n : Fin 128) : List (Nat × Instr) :=
  (if cmpMatches d n.val c then [(matchAt d n.val c, .compareMatch n c false)]
    else if catchDue d n.val c then [(nowF d, .compareMatch n c false)] else []) ++
    (if earlyDue d n.val c then [(earlyAt d n.val c, .compareMatch n c true)] else [])

/-- Events of carriers and legs at this tick, by instant (R98, R104, R108, R110). DESIGN CHOICE (log 12). -/
def legEvents (d : Device) : List Instr :=
  let carriers := (dueOf 32 .carrierZero (zeroDue d) ++ dueOf 32 .carrierPeriod (periodDue d)).map (fun c => (nowF d, c))
  let legs := (List.finRange 128).flatMap (fun n =>
    cmpEvents d .a n ++ cmpEvents d .b n ++ sideEnds d true n ++ sideEnds d false n)
  ((carriers ++ legs).foldl (fun acc e => placeAt e acc) []).map (fun e => e.2)

/-- Compares of the time line: before the carriers' events of the tick, since the global sync may load their sets and phases (R88, R92). -/
def compareEvents (d : Device) : List Instr := dueOf 8 .tlcmpFire (fun c => tlRuns d && compareDue d c)

/-- TRIP pins whose asserted level has held (R114). -/
def pinEvents (d : Device) : List Instr := dueOf 32 .tripPinAssert (fun p => tripPinsLive d && tripPinDue d p)
/-- Levels at TIO pins that have held (R139), with what the board drives there. -/
def tioEvents (d : Device) : List Instr :=
  ((List.finRange 64).filter (fun n => tioReady d n.val)).map (fun n => .tioEdge n (d.tmrs.ext.getLsbD n.val))

/-- Samples of position channels and probes that can change something, with the levels at their pins (R287, R302). -/
def posEvents (d : Device) : List Instr :=
  ((List.finRange 32).filter (fun n => posSampleDue d n.val && posMoves d n.val)).map (fun n =>
    let p := posOf d n.val
    .posLevelRecognised n p.la.pin p.lb.pin p.lz.pin) ++
  ((List.finRange 32).filter (fun n => probeOpen d n.val && probeMoves d n.val)).map (fun n => .probe n (posOf d n.val).lp.pin)

/-- Timers with something to do, once no event of the tick is left (R148). -/
def timerEvents (d : Device) : List Instr := dueOf 64 .timerCountStep (timerDue d)

/-- Switches of slices: before conversions of the tick start (R184). -/
def sliceEvents (d : Device) : List Instr := dueOf 8 .handoverSwitch (switchReady d) ++ dueOf 8 .oldSliceRelease (releaseReady d)

/-- Events of the time base (spec/02). DESIGN CHOICE (log 13). -/
def timeEvents (d : Device) : List Instr :=
  dueIf (syncSendDue d) .syncWordSend ++
    dueIf (syncTimeoutDue d) .syncTimeout ++ dueOf 8 (fun l => .tsyncExchangeStart l 0) (exchangeDue d) ++
    dueOf 8 .tsyncTimeout (exchangeOver d) ++ dueIf (ptpReached d) .ptpCommitBoundary

/-- The reference can lock for the first time since AON came up (R49). -/
def lockDue (d : Device) : Bool := d.time.refinOk && !d.time.everLocked

/-- Relock can complete: the one of RELOCK (R51). DEDUCED (log 18). -/
def relockDue (d : Device) : Bool := rdB d pgTb Reg.TB.REF_STAT 1 && d.time.relock && d.time.refinOk

/-- Events of timers, slices, conversions, loops and positions (spec/04 to spec/08); an evaluation takes the speed of its own tick (R306).
DESIGN CHOICE (log 11). -/
def sampleEvents (d : Device) : List Instr :=
  dueOf 24 .conversionStart (convReady d) ++ dueOf 24 .resultAppend (fun p => decide ((pfeOf d p).finished ≠ [])) ++
    dueOf 128 .bandEvaluation (fun n => (bandOf d n).wait.isSome) ++
    dueOf 32 .speedWindowEnd (fun n => windowDue d n && tlRuns d) ++ dueOf 32 .speedTimeout (timeoutDue d) ++
    dueOf 32 .oluEvaluation (fun u => (oluOf d u).trig.isSome) ++ dueOf 32 .oluCommit (fun u => (oluOf d u).run.isSome) ++
    dueOf 32 .oluMiss (oluLate d) ++ dueOf 32 .ssiFrameComplete (ssiDone d)

/-- Every page, by name. -/
def pageNames : List Page :=
  [.tb, .legsys, .safepat] ++ (List.finRange 32).map .lg ++ (List.finRange 64).map .tmr ++ (List.finRange 8).map .modg ++ [.xbs] ++
    (List.finRange 10).map .ff ++ (List.finRange 24).map .pfe ++ [.pfeseq] ++ (List.finRange 128).map .be ++
    (List.finRange 32).map .olu ++ (List.finRange 32).map .pos ++ (List.finRange 36).map .core ++ (List.finRange 36).map .icu ++
    [.memerr] ++ (List.finRange 4).map .scrub ++ (List.finRange 8).map .cvu ++ [.eva] ++ (List.finRange 2).map .eth ++
    [.uandi, .stream, .fab] ++ (List.finRange 8).map .link ++ (List.finRange 4).map .route ++ (List.finRange 10).map .firefly ++
    [.mode, .pwr, .dawn, .boot, .xspi]

/-- Ends of aborts and soft resets (R39, R42, R46). -/
def pageEvents (d : Device) : List Instr :=
  (pageNames.filter (fun p => aborting d (pageNum p) && !cannotQuiesce d (pageNum p))).map .abortDone ++
    (pageNames.filter (fun p => abortOver d (pageNum p))).map .forcedAbort ++
    (pageNames.filter (fun p => softRstReady d (pageNum p))).map .softRstComplete

/-- Events of cores, memories and check-value units (spec/09, spec/11, spec/12). DESIGN CHOICE (log 11). -/
def coreEvents (d : Device) : List Instr :=
  dueOf 36 .longOpComplete (fun k => decide ((coreOf d k).longs ≠ [])) ++
    dueOf 36 (fun k => .storeDrain k false) (fun k => !pathEmpty (coreOf d k) false) ++
    dueOf 36 (fun k => .storeDrain k true) (fun k => !pathEmpty (coreOf d k) true) ++
    dueOf 36 .impreciseEntry (impreciseDue d) ++ dueOf 36 .haltTakesEffect (haltDue d) ++
    dueOf 36 .interruptEntry (interruptDue d) ++ dueOf 4 .scrubWord (scrubReady d) ++
    dueOf 8 .cvuComplete (fun c => cvuBusyB d c && scanOver d c)

/-- The time line in fines. DESIGN CHOICE (log 13). -/
def tlFines (d : Device) : Nat := d.time.tl.toNat * 64

/-- Requests of sessions at other devices whose time is over (R482), and of cores and CVUs (R533). -/
def lateRequests (d : Device) : List Instr :=
  (d.fab.out.filter (fun o => remoteLate d o)).filterMap (fun o =>
    match o.src with
    | .sess s seq => some (.remoteTimeout (Fin.ofNat 16 s) (BitVec.ofNat 32 seq))
    | _ => none) ++
  (d.fab.out.filter (outLate d)).map (fun o => .fabricReqTimeout (BitVec.ofNat 16 o.tag))

/-- Events of ports, sessions, streams, links and Firefly (spec/13 to spec/16). DESIGN CHOICE (log 11). DESIGN CHOICE (log 13). -/
def netEventsDue (d : Device) : List Instr :=
  dueOf 2 (fun e => .rawtxDone e (tlFines d)) (rawTxReady d) ++ lateRequests d ++ dueOf 16 .eventFrameHoldExpiry (holdOver d) ++
    dueIf d.sys.verify.isSome .imageVerifyDone ++ dueOf 16 .recordFlushExpiry (recordFlushDue d) ++
    dueOf 16 .frameFlushExpiry (fun s => frameFlush d s && !(streamOf d s).ready) ++
    dueOf 16 .streamFailover (failoverDue d) ++ dueOf 16 .streamFailback (failbackDue d) ++ dueOf 16 .foFenceExpiry (foFenceOver d) ++
    dueIf (nextStream d).isSome .streamFrameSend ++ dueOf 8 .linkFail (failDue d) ++ dueOf 8 .linkFailedRetry (retryDue d) ++
    dueOf 8 .lctlTimeout (lctlLate d) ++ dueOf 8 .ackTimerExpiry (ackDue d) ++ dueOf 8 .nakRepeatExpiry (nakDue d) ++
    dueIf (fenceOver d).isSome .fenceTimeout ++ dueIf (tripDue d) .tripRepeat ++
    dueOf 10 .fireflyReorderTimeout (ffHoldOver d)

/-- Ends of transitions and switchings (spec/17); grants go before the device falls asleep. DESIGN CHOICE (log 11). -/
def modeEvents (d : Device) : List Instr :=
  dueIf d.sys.dusk .duskComplete ++ dueIf (dawnOver d) (.dawnDone {}) ++ dueOf 64 .pdChg (domainDue d) ++ dueIf (sourceLate d) .bootSourceTimeout ++
    dueIf (decide (d.eva.pending ≠ [])) .evaGrant ++ dueIf d.sys.transit.isSome .modeChg ++
    dueIf (sleepReady d) .sleepEntry ++ dueIf (sleepLate d) .sleepIdleTimeout

/-- What can be due while the device sleeps or has woken and not made up yet (R75, R590, R592). DEDUCED (log 113). -/
def sleepEvents (d : Device) : List Instr :=
  dueOf 4 .wakeTio (tioWakes d) ++ dueIf (wakeTimerDue d) .wakeTimer ++
    dueIf (decide (d.sys.mode = .sleep) && d.time.wakeAt.isSome && d.time.refinOk && !rdB d pgTb Reg.TB.REF_STAT 0) .relockDone ++
    dueIf (makeupReady d) .makeUp ++ dueIf d.sys.transit.isSome .modeChg ++
    (List.finRange 128).flatMap (fun n =>
      dueIf (safeIlkOver d n.val true) (.safepatIlkExpiry n true) ++ dueIf (safeIlkOver d n.val false) (.safepatIlkExpiry n false))

/-- The own events that come first in a tick: the reference, make-up, and all that bears on the events of the tick, up to the timers.
DESIGN CHOICE (log 11). DESIGN CHOICE (log 12). -/
def firstDue (d : Device) : List Instr :=
  if asleep d then sleepEvents d
  else
    dueOf 4 .wakeTio (tioWakes d) ++ dueIf (lockDue d) .refLock ++ dueIf d.time.midnight .midnight ++ dueIf (relockDue d) .relockDone ++ dueIf (makeupReady d) .makeUp ++
      compareEvents d ++ pinEvents d ++ tioEvents d ++ posEvents d ++ legEvents d ++ sliceEvents d ++ timerEvents d

/-- The own events that follow, once the events of the tick have been delivered (R148). DESIGN CHOICE (log 11). -/
def restDue (d : Device) : List Instr :=
  if asleep d then []
  else timeEvents d ++ sampleEvents d ++ pageEvents d ++ coreEvents d ++ netEventsDue d ++ modeEvents d

/-- The own events that are due now, in their order. DESIGN CHOICE (log 1). DESIGN CHOICE (log 124). DESIGN CHOICE (log 127). -/
def dueNow (d : Device) : List Instr := firstDue d ++ (if !asleep d && netDue d then [] else restDue d)

/-- The next own event: each happens at most once in a tick. DESIGN CHOICE (log 1). -/
def nextOwn (s : State) : Option Instr := (dueNow s.dev).find? (fun c => !s.ran.contains c)

/-! ## A tick passes -/

/-- The time line counts (R53, R57). -/
def tickTime (d : Device) : Device :=
  let t := { d.time with now := d.time.now + 1 }
  if tlRuns d then
    let tl := d.time.tl + 1#64
    { d with time := { t with tl := tl, midnight := t.midnight || decide (tl.toNat % 2 ^ 48 = 0) } }
  else { d with time := t }

/-- Carriers count, and the marks of the tick's matches go (R83). -/
def tickLegs (d : Device) : Device :=
  let d := forEach ((List.range 32).filter (running d)) (fun g d => setCarrier g (tickCarrier d g) d) d
  let d := forEach ((List.range 128).filter (fun n => (legOf d n).cmpA.done || (legOf d n).cmpB.done)) (fun n d =>
    let l := legOf d n
    setLeg n { l with cmpA := { l.cmpA with done := false }, cmpB := { l.cmpB with done := false } } d) d
  { d with legs := { d.legs with flash := 0#8 } }

/-- The global sync that a match or a write asked for, or the compare that is its source, occurs at the new tick (R636); then the loads
and lengths of the carriers are decided (R92). -/
def tickSync (d : Device) : Device :=
  let byCompare := tlRuns d && (List.range 8).any (fun c => gsyncBy d c && compareDue d c)
  settleCarriers (if d.legs.gsyncDue || byCompare then gsync d else d)

/-- A slow period of a RETAIN wake ends during its boot (R591): one is 1,280 ticks. -/
def tickSlow (d : Device) : Device := if d.time.wakeAt.isSome ∧ d.time.now % 1280 = 0 then slowTick d else d

/-- One tick: what ends with the old one, the counts, and what falls at the new one without a command of its own. DESIGN CHOICE (log 1).
DESIGN CHOICE (log 15). -/
def passTick (d : Device) : Device :=
  d |> forEach (List.range 32) ssiSample |> timersTick |> phasesTick |> tickTime |> posTick |> tickLegs |> tickSlow |> applySoon
    |> bandTick |> mclkTick |> restartTick |> tickSync |> tioTick |> forEach (List.range 8) rotationTick |> relockTick |> maintTimeout
    |> dawnTick

/-- Records that went to hold regions during the tick are written to bulk SRAM (R507). DESIGN CHOICE (log 92). -/
def spillOut (s : DM) : DM :=
  forEach ((List.range 16).filter (fun n => decide ((streamOf s.1 n).spill ≠ []))) (fun n s =>
    let x := streamOf s.1 n
    forEach x.spill (fun p s => (writeMem p.1 p.2 (fun _ => false) s).getD s) (setStream n { x with spill := [] } s.1, s.2)) s

/-- What a step does on an empty queue where no own event is due: the events of the tick are delivered to those that use them, where a
timer's step has not done it, or time passes. DESIGN CHOICE (log 1). DESIGN CHOICE (log 127). -/
def passTime (s : State) : Host.Outcome State Fault Refusal :=
  if asleep s.dev then onDev slowTick { s with ran := [] }
  else if netDue s.dev then onNet netDeliver s
  else settled (fun t => spillOut (passTick t.1, t.2)) { s with ran := [] }

end Sys2Proof.Machine
end

