-- ==== Sys2Proof/Safety.lean ====
section
/-! DEFINITION. What counts as a safe step, and the conditions on a state in which a command's effect stands alone: nothing of the device
waits for another part of it, so that nothing follows the command within its instant. -/

namespace Sys2Proof.Machine

/-- A step that neither faults nor is refused. -/
def stepsOn (s : State) : Bool :=
  match step s with
  | .next _ => true
  | _ => false

/-- A check-value unit that would read on. -/
def cvuEager (d : Device) (c : Nat) : Bool := cvuBusyB d c && !cvuRemote d c && (scanOf d c).fault.isNone

/-- Nothing waits that a command could set going within its instant: no copy of a stream is due (R497), no check-value unit would read on
(R446), no message or response waits (R45, R534), no abort is owed an answer (R487, R528), no image is to be verified (R491), no session
holds a request (R481), no core waits for another device (R318), and none is to stop for a soft reset (R345). -/
def calm (d : Device) : Bool :=
  (List.range 16).all (fun s => decide ((streamOf d s).memDue = [])) && (List.range 8).all (fun c => !cvuEager d c) &&
    decide (d.fab.loop = []) && decide (d.fab.later = []) && decide (d.fab.aborts = []) && !d.sys.verifyDue &&
    (List.range 16).all (fun s => decide ((sessOf d s).slots = []) && decide ((sessOf d s).fly = [])) &&
    (List.range 36).all (fun k => (coreOf d k).await.isNone && !((coreOf d k).rstReq && (coreOf d k).rstAt.isNone))

/-- A write of an aligned word at an offset of a page is performed now: the directory lists the page and its domain is on (R22, R582), no abort
holds it (R45), no condition of R31 refuses it, and no claim bars it (R544). -/
def accepts (d : Device) (p off : Nat) (w : Wr) : Bool :=
  pageMapped d p && !holds d p off && (refusal d p off true w).isNone && !claimBars d p w

/-- No stream takes records of edges at the gate outputs (R497). -/
def edgesOff (d : Device) : Bool := decide (streamsOf d 4 = [])

/-- Every register outside a list of pages and offsets reads in `e` as in `d`. -/
def keptBut (ks : List (Nat × Nat)) (d e : Device) : Prop := ∀ q off, off < 4096 → (q, off) ∉ ks → rd e q off = rd d q off

/-- The registers that raising a cause of a page can move: its IRQ_RAW and the arbiter's two counts (R40, R560, R561). -/
def raiseRegs (p : Nat) : List (Nat × Nat) := [(p, hIRQ_RAW), (pgEva, Reg.EVA.MERGE_CNT), (pgEva, Reg.EVA.PEND_PEAK)]

/-- The device that has accepted a write of a register that time-domain logic uses: answered, and entered for the second tick boundary
after the write (R15). -/
def entered (d : Device) (p off : Nat) (w : Wr) : Device :=
  { d with resp := .done, soon := d.soon ++ [{ page := p, off := off, w := w, due := d.time.now + 2 }] }

/-- The device at the tick at which a write becomes usable, no other one waiting (R15). -/
def usable (d : Device) (p off : Nat) (w : Wr) : Device := applySoon { d with soon := [{ page := p, off := off, w := w, due := d.time.now }] }

/-! ## Positions of a core -/

/-- The instruction of core k stands alone at its position and issues now: nothing of the core is under way or due at the boundary (R414),
its encoding is in order (R369, R383), its bytes are fetched without a fault or poison (R27, R405), it carries no `rep` and does not end a
hardware loop (R390). -/
def issues (d : Device) (m : Memory) (k : Nat) (i : KInst) : Bool :=
  let c := coreOf d k
  canIssue d k && decide (c.bundle = []) && decide (c.longs = []) && decide (c.sb = []) && decide (c.imprecise = []) &&
    decide (c.mNew = []) && c.repLeft.isNone && !c.stepping && !i.enc.rep &&
    !illegal (planCore k) i && (!planCore k || (i.enc.stop && !illegalBundle [i])) &&
    decide ((fetch k c.pc.toNat (positionLen k [i]) m (freshPosition k d)).1 = .ok) &&
    (decide (srOf c 10 ≠ c.pc) || decide (srOf c 11 = 0#32))

/-- The device once core k has fetched n bytes for a new position: only its instruction cache, line buffer and count of misses, and the
counts of memory errors, can have moved. -/
def fetched (d : Device) (m : Memory) (k n : Nat) : Device := (fetch k (coreOf d k).pc.toNat n m (freshPosition k d)).2

/-- The immediate that the encoding of an instruction of core k holds of a value (R360, R368). -/
def codedImm (k op : Nat) (imm : Word) (e : Enc) : Word := (asCoded (planCore k) { op := op, imm := imm, enc := e }).imm

/-- Core k has retired one position of n bytes from `f`: the core is as `g` makes it of the core one position and n bytes further, RETIRED
counts, CTL.DET shows PSTAT.DET (R343), and no other register, no other core and nothing else has moved. -/
def retires (f t : Device) (k n : Nat) (g : Core → Core) : Prop :=
  t = { f with regs := t.regs, core := t.core } ∧ keptBut [(pgCore k, Reg.CORE.RETIRED), (pgCore k, Reg.CORE.CTL)] f t ∧
    rd t (pgCore k) Reg.CORE.RETIRED = rd f (pgCore k) Reg.CORE.RETIRED + 1#32 ∧
    rd t (pgCore k) Reg.CORE.CTL = setBit (rd f (pgCore k) Reg.CORE.CTL) 1 (bit (srOf (coreOf t k) 0) 8) ∧
    (∀ j, j ≠ k → coreOf t j = coreOf f j) ∧
    coreOf t k = g { coreOf f k with pc := (coreOf f k).pc + wd n, pos := (coreOf f k).pos + 1 }

/-- The command completes: where core k issues the instruction, a next state follows in which its position has retired with the effect `g`,
memory and queue as they were. -/
def completesAs (d : Device) (m : Memory) (q r : List Instr) (k : Nat) (i : Instr) (form : KInst) (g : Core → Core) : Prop :=
  issues d m k form = true → calm (fetched d m k (positionLen k [form])) = true →
    ∃ t, exec i ⟨d, m, q, r⟩ = .next ⟨t, m, q, r⟩ ∧ retires (fetched d m k (positionLen k [form])) t k (positionLen k [form]) g

/-- A result with its poison goes to w[r]; where it was clamped and carries none, SATF sets (R354). -/
def putW (r : Nat) (v : Word) (p clamped : Bool) (c : Core) : Core :=
  let c := setW r { v := v, p := p } c
  if clamped && !p then setSr 14 1#32 c else c

/-- The privilege that a handler entered through descriptor x runs at, whether the stack is switched, the stack pointer it starts from, and
the privilege whose limit bounds that stack (R400, R401). -/
def entryPl (c : Core) (r : EntryReq) (x : Desc) : Nat := if r.desc = 8 ∨ r.desc = 10 ∨ r.desc = 11 then 3 else max x.pl (plOf c)
def entrySwitch (c : Core) (r : EntryReq) (x : Desc) : Bool := !x.sel || decide (plOf c = 0) || decide (r.desc = 10)
def entrySp (c : Core) (r : EntryReq) (x : Desc) : Nat := if entrySwitch c r x then x.newsp else (wOf c 31).v.toNat
def entryOwner (c : Core) (r : EntryReq) (x : Desc) : Nat := if entrySwitch c r x then entryPl c r x else plOf c

/-- The stack has room for the frame (R401), and the fields are of their widths. -/
def entryRoom (k : Nat) (c : Core) (r : EntryReq) (x : Desc) : Prop :=
  (srOf c (if entryOwner c r x = 0 then 8 else if entryOwner c r x = 1 then 7 else 6)).toNat + 16 ≤ entrySp c r x ∧
    frameOk k (entrySp c r x - 16) = true ∧ x.pl < 4 ∧ x.ipl < 16 ∧ r.prio < 16

/-- Core `v` stands at the handler that descriptor x names, entered for request r out of core `c`: the address saved in XPC, the cause with
SWITCHED in XCAUSE, the fault address in XADDR, w31 below the frame, PSTAT with the handler's privilege, IE and level, the old w31 in XSP
where the stack was switched, and every other register as it was (R400 to R404). -/
def atHandler (v c : Core) (r : EntryReq) (x : Desc) : Prop :=
  v.pc = x.handler ∧ v.repLeft = none ∧ v.waiting = false ∧ srOf v 1 = r.xpc ∧
    srOf v 2 = setBit (causeWord r) 31 (entrySwitch c r x) ∧ srOf v 3 = r.xaddr ∧ wOf v 31 = { v := wd (entrySp c r x - 16), p := false } ∧
    (∀ n, n ≠ 31 → wOf v n = wOf c n) ∧ fld (srOf v 0) 0 2 = entryPl c r x ∧ bit (srOf v 0) 2 = x.ie ∧
    fld (srOf v 0) 4 4 = max x.ipl r.prio ∧ bit (srOf v 0) 8 = bit (srOf c 0) 8 ∧
    (entrySwitch c r x = true → srOf v 4 = (wOf c 31).v) ∧ (∀ n, 5 ≤ n → srOf v n = srOf c n) ∧ v.stack = c.stack

/-- What a command has made of the device stands: nothing follows within the instant, and no edge is to be recorded. -/
def still (d t : Device) : Prop := calm t = true ∧ (t.legs.leg = d.legs.leg ∨ edgesOff t = true)

/-! ## Flits -/

/-- A flit numbered n, the first of k, arrives on link l in its turn, none of its message came before it, and no ACK falls due with them
(R520, R522). -/
def inSeq (d : Device) (l n k : Nat) : Bool :=
  linkUp d l && decide (n = rdF d (pgLink l) Reg.LINK.RX_SEQ 0 12) && decide ((linkOf d l).accepted + k < 16) &&
    decide ((linkOf d l).parts = [])

/-- A flit to another device on VC v leaves on link l at once: l is the table's egress and, if the destination was used before, the last one,
a credit is free, no flit waits, no fence runs, and no fault injector is armed at l or holds a unit (R521, R525, R534, R535, R573). -/
def freeWay (d : Device) (dest v l : Nat) : Bool :=
  decide (dest ≠ myId d) && decide (dest ≠ 0xFFF) && decide (egressOf d dest v = some l) &&
    (match lastEgress d dest v with | some e => decide (e.1 = l) | none => true) && canSend d l v &&
    decide (d.fab.wait = []) && decide (d.fab.fences = []) && !ffArmed d l && decide ((fireflyOf d l).held = [])

/-- The flit has left on link l with the link's next number, and nothing else has left. -/
def leavesBy (d e : Device) (l : Nat) (f : Flit) : Prop :=
  e.sent = d.sent ++ [.unit (.flit l (sealed { f with lseq := rdF d (pgLink l) Reg.LINK.TX_SEQ 0 12 })) none]

/-- Link l has taken k more flits. -/
def tookFlits (d e : Device) (l k : Nat) : Prop :=
  rdF e (pgLink l) Reg.LINK.RX_SEQ 0 12 = (rdF d (pgLink l) Reg.LINK.RX_SEQ 0 12 + k) % 4096 ∧ (linkOf e l).accepted = (linkOf d l).accepted + k

/-! ## Requests of a session -/

/-- The next request in turn of an open session comes from its peer: port 0 is up, the control engine works, and nothing of the session
waits or is in progress (R476, R481, R484). -/
def inTurn (d : Device) (h : UandiHead) : Bool :=
  let x := sessOf d h.sess.val
  ethUp d 0 && !asleep d && uandiOn d && x.opened && !x.closing && decide (h.gen.toNat = x.gen) && boundTo d h.sess.val h.peer &&
    decide (h.seq.toNat = x.next) && decide (x.slots = []) && decide (x.fly = []) && x.opening.isNone

/-- The request that a message is. -/
def reqOf (h : UandiHead) (op : Nat) (body : List Byte) : SessReq :=
  { seq := h.seq.toNat, gen := h.gen.toNat, opcode := op, poison := h.poison, body := body, port := 0, peer := h.peer }

/-- Port 0 sends a message of the control engine at once and unprotected: its control priority is not paused, no frame waits, MACsec is off,
and no fault injector is armed at the port or holds a frame (R466, R467, R470, R573). -/
def plainPort (d : Device) : Bool :=
  !etCtl d 0 4 && !paused d 0 (rdF d (pgEth 0) Reg.ETH.CTL 13 3) && decide ((ethOf d 0).wait = []) && !ffArmed d 8 &&
    decide ((fireflyOf d 8).held = [])

/-- The frame of a request's response: RESP and POISON, the request's session, opcode, generation and number, the status, and the body
padded to a multiple of 4 (R475, R477). -/
def responseOf (d : Device) (s : Nat) (x : SessReq) (st : Nat) (poison : Bool) (body : List Byte) : Sent :=
  let b := padTo 4 body
  let bytes := msgHeader (128 + 64 * b2n poison) s x.opcode x.gen x.seq st b.length ++ b
  .unit (.frame 0 {
    tag := tagFor d 0 (rdF d (pgEth 0) Reg.ETH.CTL 13 3), macsec := none
    body := .udp x.peer (rdF d (pgEth 0) Reg.ETH.UDP_PORT 0 16) bytes }) none

/-- Session s has performed request x and answered it: the response has left, the next number has moved on, the session is open with
nothing waiting or in progress, its cache holds the response, and no other session has moved (R481, R482). -/
def answers (d e : Device) (s : Nat) (x : SessReq) (st : Nat) (poison : Bool) (body : List Byte) : Prop :=
  e.sent = d.sent ++ [responseOf d s x st poison body] ∧ (sessOf e s).next = (x.seq + 1) % 2 ^ 32 ∧ (sessOf e s).opened = true ∧
    (sessOf e s).gen = (sessOf d s).gen ∧ (sessOf e s).slots = [] ∧ (sessOf e s).fly = [] ∧ (∀ j, j ≠ s → sessOf e j = sessOf d j) ∧
    ∃ c ∈ (sessOf e s).cache, c.seq = x.seq ∧ c.opcode = x.opcode ∧ c.status = st ∧ c.poison = poison ∧
      (body.length ≤ 256 → c.long = false ∧ c.body = body) ∧ (256 < body.length → c.long = true)

/-- n bytes from a local address are in memory that answers, and all their words are clean, without a hard fault (R22, R422, R435). -/
def cleanAt (d : Device) (m : Memory) (a n : Nat) : Bool :=
  !inPages a && (wordsOf a n).all (fun w => ramOk d (8 * w) && decide (faultOf m w = {}))

/-- The bytes that memory holds from an address on. -/
def bytesAt (m : Memory) (a n : Nat) : List Byte := (List.range n).map (fun i => memByte m (a + i))

/-- Bytes have been stored from an address on, and no other byte has changed. -/
def storedAt (m m' : Memory) (a : Nat) (bs : List Byte) : Prop :=
  bytesAt m' a bs.length = bs ∧ ∀ y, y < a ∨ a + bs.length ≤ y → memByte m' y = memByte m y

/-- The local address of a core's address in its data SRAM, its code window or bulk SRAM (R27). -/
def coreLocal (k x : Nat) : Nat :=
  if x < sramSize k then 0x300000000 + k * 0x100000 + x
  else if x < 0x40000000 then codeBase k + (x - 0x10000000)
  else bulkBase + (x - 0x40000000)

/-- The n bytes at a core's address lie wholly in its data SRAM, its code window or bulk SRAM, in clean words of memory that answers. -/
def coreClean (d : Device) (m : Memory) (k x n : Nat) : Bool :=
  (decide (x + n ≤ sramSize k) || (decide (0x10000000 ≤ x) && decide (x + n ≤ 0x10000000 + codeSize k)) ||
    (decide (0x40000000 ≤ x) && decide (x + n ≤ 0x40000000 + bulkSize))) && cleanAt d m (coreLocal k x) n

/-- ATTR of descriptor n of core k, and the descriptor, as memory holds them (R397, R398). -/
def storedAttr (d : Device) (m : Memory) (k n : Nat) : Word :=
  wd (numLE (bytesAt m (coreLocal k (descAddr (coreOf d k) n + 8)) 4))
def storedDesc (d : Device) (m : Memory) (k n : Nat) : Desc :=
  let at_ := fun (o : Nat) => numLE (bytesAt m (coreLocal k (descAddr (coreOf d k) n + o)) 4)
  let attr := storedAttr d m k n
  { handler := wd (at_ 0), newsp := at_ 4 / 16 * 16, sel := bit attr 9, ie := bit attr 8, ipl := fld attr 4 4, pl := fld attr 0 2 }

/-- Descriptor n of core k can be read, is valid and names a privilege that exists (R398, R402). -/
def descReady (d : Device) (m : Memory) (k n : Nat) : Bool :=
  coreClean d m k (descAddr (coreOf d k) n) 16 && bit (storedAttr d m k n) 31 && decide (fld (storedAttr d m k n) 0 2 ≠ 2)

/-- The 16 bytes of the frame that an entry for request r through descriptor x pushes (R401). -/
def frameBytes (c : Core) (r : EntryReq) (x : Desc) : List Byte :=
  bytesLE 4 r.xpc.toNat ++ bytesLE 4 (srOf c 0).toNat ++ bytesLE 4 (setBit (causeWord r) 31 (entrySwitch c r x)).toNat ++ bytesLE 4 r.xaddr.toNat

/-- Core k can enter the handler of request r at once: no long operation runs, no store waits, the descriptor can be read, and the stack has
room for the frame in clean memory (R397 to R401). -/
def entryReady (d : Device) (m : Memory) (k : Nat) (r : EntryReq) : Prop :=
  (coreOf d k).longs = [] ∧ (coreOf d k).sb = [] ∧ descReady d m k r.desc = true ∧
    entryRoom k (coreOf d k) r (storedDesc d m k r.desc) ∧
    coreClean d m k (entrySp (coreOf d k) r (storedDesc d m k r.desc) - 16) 16 = true

/-- Core k has entered the handler of request r: it stands there, the frame is in memory and no other byte has changed, and no other core has
moved (R400 to R404). -/
def handlerEntered (d v : Device) (m m' : Memory) (k : Nat) (r : EntryReq) : Prop :=
  atHandler (coreOf v k) (coreOf d k) r (storedDesc d m k r.desc) ∧
    storedAt m m' (coreLocal k (entrySp (coreOf d k) r (storedDesc d m k r.desc) - 16)) (frameBytes (coreOf d k) r (storedDesc d m k r.desc)) ∧
    ∀ j, j ≠ k → coreOf v j = coreOf d j

/-- The device once a request in turn has been placed and taken: the session's next number has moved on. -/
def begun (d : Device) (h : UandiHead) (q : SessReq) : Device :=
  let x := sessOf d h.sess.val
  setSess h.sess.val { x with slots := [], next := (x.next + 1) % 2 ^ 32 } (setSess h.sess.val { x with slots := [q] } d)

end Sys2Proof.Machine
end

