-- ==== Sys2Proof/Certificates/Slice0/Obligations.lean ====
section
/-! DEFINITION. The statements for the provers: what the commands do, by family, and what every step keeps. -/

section

open Sys2Proof Sys2Proof.Machine

/-- The queue is first in, first out, and a step performs the front command with the rest left waiting. The model's own form of taking
commands.
The model's own choices that stand behind it: log entry 1. -/
def Obligations.StepTakesFront : Prop :=
  ∀ (c : Instr) (rest : List Instr) (s : State), step { s with pending := c :: rest } = exec c { s with pending := rest }

/-- With no command waiting, the device's own events happen, each at most once at a tick, and then the tick ends (a design choice of the
model, in the assumption log).
The model's own choices that stand behind it: log entries 1, 11 and 12. -/
def Obligations.IdleStep : Prop :=
  ∀ s : State, s.pending = [] →
    (∀ c, nextOwn s = some c → c ∉ s.ran ∧ c ∈ dueNow s.dev ∧ step s = exec c { s with ran := c :: s.ran }) ∧
    (nextOwn s = none → (∀ c ∈ dueNow s.dev, c ∈ s.ran) ∧ step s = passTime s)

/-- No command of the table ends the run, and none touches the commands that wait.
The model's own choices that stand behind it: log entries 1 and 124. -/
def Obligations.EveryCommandCompletes : Prop :=
  ∀ (c : Instr) (s : State), ∃ t, exec c s = .next t ∧ t.pending = s.pending ∧ t.ran = s.ran

/-- The base case of `Obligations.MemoryFormKept`.
The model's own choices that stand behind it: log entry 2. -/
def Obligations.MemoryFormAtReset : Prop := State.reset.mem.wf = true

/-- Equal memories are equal data after every step: the form that reading and comparing memories rests on.
The model's own choices that stand behind it: log entry 2. -/
def Obligations.MemoryFormKept : Prop :=
  ∀ s t : State, s.mem.wf = true → step s = .next t → t.mem.wf = true

/-- R31 and R34 for the writes of a page's requesters: the recorded code, the requester with the offset, and the frame.
The model's own choices that stand behind it: log entry 10. -/
def Obligations.RefusedWrite : Prop :=
  ∀ (s : State) (p off code : Nat) (w : Wr), calm s.dev = true → pageMapped s.dev p = true → holds s.dev p off = false → off < 4096 →
    refusal s.dev p off true w = some code →
    (w.who.kind = .core → w.poison = true → writeCmd p off w s = .next s) ∧
    (w.poison = true → code = 0x04) ∧ (w.poison = false → locked s.dev p = true → exempt off = false → code = 0x01) ∧
    (w.poison = false → locked s.dev p = false → exempt off = false → rd s.dev p hOWNER ≠ 0#32 →
      (rd s.dev p hOWNER ≠ reqIdent w.who ∨ byMaint w.who = true) → code = 0x02) ∧
    (w.poison = false → (locked s.dev p = false ∨ exempt off = true) →
      (exempt off = true ∨ rd s.dev p hOWNER = 0#32 ∨ (rd s.dev p hOWNER = reqIdent w.who ∧ byMaint w.who = false)) →
      code = 0x05 ∧ unusable s.dev p = true ∧ 0x040 ≤ off) ∧
    ((w.who.kind = .core → w.poison = false) → ∃ d, writeCmd p off w s = .next { s with dev := d } ∧
      d = { s.dev with regs := d.regs, resp := .error (.refused code) } ∧
      keptBut [(p, hERR_CODE), (p, hERR_INFO), (p, hPAGE_STAT)] s.dev d ∧
      (code ≠ 0x04 → rd d p hPAGE_STAT = rd s.dev p hPAGE_STAT) ∧ (code = 0x04 → rdB d p hPAGE_STAT 5 = true) ∧
      (rdF s.dev p hERR_CODE 0 8 = 0 → rdF d p hERR_CODE 0 8 = code ∧ rd d p hERR_INFO = reqIdent w.who + wd off) ∧
      (rdF s.dev p hERR_CODE 0 8 ≠ 0 → rdF d p hERR_CODE 0 8 = rdF s.dev p hERR_CODE 0 8 ∧ rdB d p hERR_CODE 31 = true ∧
        rd d p hERR_INFO = rd s.dev p hERR_INFO))

/-- The header's own writes, with their frames. -/
def Obligations.HeaderWrites : Prop :=
  ∀ (s : State) (page : Page) (w : Wr), calm s.dev = true →
    (accepts s.dev (pageNum page) hLOCK w = true → ∃ d, exec (.lockWrite page w) s = .next { s with dev := d } ∧
      d = { s.dev with regs := d.regs, resp := .done } ∧ keptBut [(pageNum page, hLOCK)] s.dev d ∧
      rd d (pageNum page) hLOCK = if w.data = 0x4C4B#32 then 1#32 else rd s.dev (pageNum page) hLOCK) ∧
    (accepts s.dev (pageNum page) hOWNER w = true → ∃ d, exec (.ownerWrite page w) s = .next { s with dev := d } ∧
      d = { s.dev with regs := d.regs, resp := .done } ∧ keptBut [(pageNum page, hOWNER)] s.dev d ∧
      rd d (pageNum page) hOWNER = if fld w.data 18 2 = 0 then 0#32 else w.data &&& 0xFFFFF000#32) ∧
    (accepts s.dev (pageNum page) hIRQ_FORCE w = true → ∃ d, exec (.irqForce page w) s = .next { s with dev := d } ∧
      d = { s.dev with regs := d.regs, eva := d.eva, resp := .done } ∧ keptBut (raiseRegs (pageNum page)) s.dev d ∧
      rd d (pageNum page) hIRQ_RAW = (rd s.dev (pageNum page) hIRQ_RAW ||| w.data) &&& irqMask (classOf (pageNum page)) ∧
      (irqPend s.dev (pageNum page) ≠ 0#32 ∨ irqPend d (pageNum page) = 0#32 → d.eva = s.dev.eva) ∧
      (irqPend s.dev (pageNum page) = 0#32 → irqPend d (pageNum page) ≠ 0#32 →
        d.eva.pending.any (fun e => sameKey e { source := pageSource (pageNum page), code := 0x1000, stamp := stampNow s.dev }) = true))

/-- Accesses as commands: the read of ERR_CODE, and the cases of a write by address.
The model's own choices that stand behind it: log entry 32. -/
def Obligations.RegisterAccess : Prop :=
  (∀ (s : State) (page : Page) (who : Requester), pageMapped s.dev (pageNum page) = true →
    ∃ d, exec (.errCodeRead page who) s = .next { s with dev := d } ∧
      d = { s.dev with regs := d.regs, resp := .data (rd s.dev (pageNum page) hERR_CODE) false } ∧
      keptBut [(pageNum page, hERR_CODE)] s.dev d ∧ rd d (pageNum page) hERR_CODE = 0#32) ∧
  (∀ (s : State) (a : LocalAddr) (who : Requester) (v : Word) (p off : Nat), calm s.dev = true → pageAt a.toNat = some (p, off) →
    (classOf p = 16 ∨ classOf p = 24 ∨ classOf p = 25 ∨ classOf p = 31) →
    a.toNat % 4 = 0 → 0x40 ≤ off → accepts s.dev p off { who := who, data := v, poison := false } = true →
    (rowAt (classOf p) off).isSome = true →
    ∃ d, exec (.registerWrite who a .w4 v false) s = .next { s with dev := d } ∧
      d = { s.dev with regs := d.regs, resp := .done } ∧ keptBut [(p, off)] s.dev d ∧
      rd d p off = storedValue s.dev p off v) ∧
  (∀ (s : State) (a : LocalAddr) (who : Requester) (width : Width) (v : Word) (poison : Bool) (p off : Nat), calm s.dev = true →
    pageAt a.toNat = some (p, off) → pageMapped s.dev p = false → (who.kind ≠ .core ∨ width = .w4 ∧ a.toNat % 4 = 0) →
    exec (.registerWrite who a width v poison) s = .next { s with dev := { s.dev with resp := .error .decode } }) ∧
  (∀ (s : State) (a : LocalAddr) (who : Requester) (width : Width) (v : Word) (poison : Bool) (p off : Nat), calm s.dev = true →
    pageAt a.toNat = some (p, off) → ¬ (width = .w4 ∧ a.toNat % 4 = 0) → who.kind = .core →
    exec (.registerWrite who a width v poison) s = .next s) ∧
  (∀ (s : State) (a : LocalAddr) (who : Requester) (width : Width) (v : Word) (poison : Bool) (p off : Nat), calm s.dev = true →
    pageAt a.toNat = some (p, off) → ¬ (width = .w4 ∧ a.toNat % 4 = 0) → who.kind ≠ .core → pageMapped s.dev p = true →
    holds s.dev p off = false →
    ∃ d, exec (.registerWrite who a width v poison) s = .next { s with dev := d } ∧
      d = { s.dev with regs := d.regs, resp := .error (.refused 0x03) } ∧ keptBut [(p, hERR_CODE), (p, hERR_INFO)] s.dev d)

/-- R44: the abort under way stands, with its outcome. That EN and the other bits of the word wait for the end of the abort while SOFT_RST is
taken at once is the model's reading (DEDUCED) of R39 and R45.
The model's own choices that stand behind it: log entries 23, 24 and 30. -/
def Obligations.SecondAbort : Prop :=
  ∀ (s : State) (page : Page) (w : Wr), calm s.dev = true → pageMapped s.dev (pageNum page) = true → aborting s.dev (pageNum page) = true →
    (bit w.data 1 = false ∨ w.poison = true ∨ locked s.dev (pageNum page) = true ∨ ownerOk s.dev (pageNum page) w.who = false ∨
        claimBars s.dev (pageNum page) w = true →
      ∃ d, exec (.abort page w) s = .next { s with dev := d } ∧ d = { s.dev with held := d.held, resp := d.resp }) ∧
    (bit w.data 1 = true → w.poison = false → locked s.dev (pageNum page) = false → ownerOk s.dev (pageNum page) w.who = true →
      claimBars s.dev (pageNum page) w = false →
      let wait : HeldWrite := { page := pageNum page, off := hPAGE_CTL, aligned := true, w := withOnes w 4#32 }
      let e := softRstStart (pageNum page) { s.dev with held := s.dev.held ++ [wait], resp := .none }
      calm e = true →
      exec (.abort page w) s = .next { s with dev := e } ∧ e.aborts = s.dev.aborts ∧ e.held = s.dev.held ++ [wait] ∧
        rdB e (pageNum page) hPAGE_CTL 1 = true ∧ (classOf (pageNum page) ≠ 21 → keptBut [(pageNum page, hPAGE_CTL)] s.dev e))

/-- What the three writes of PAGE_CTL leave in the header. Which pages' EN time-domain logic uses is the model's list (log entry 147).
The model's own choices that stand behind it: log entries 14, 23, 27, 28, 30 and 147. -/
def Obligations.PageControl : Prop :=
  ∀ (s : State) (page : Page) (w : Wr), calm s.dev = true → aborting s.dev (pageNum page) = false →
    accepts s.dev (pageNum page) hPAGE_CTL w = true → locked s.dev (pageNum page) = false →
    ownerOk s.dev (pageNum page) w.who = true →
    (classOf (pageNum page) = 22 ∨ classOf (pageNum page) = 29 ∨ (classOf (pageNum page) = 18 ∧ bit w.data 0 = true) →
      (pageNum page) ∉ s.dev.forced →
      ∃ d, exec (.pageEnable page w) s = .next { s with dev := d } ∧ d = { s.dev with regs := d.regs, resp := .done } ∧
        keptBut [(pageNum page, hPAGE_CTL)] s.dev d ∧ rdB d (pageNum page) hPAGE_CTL 0 = bit w.data 0) ∧
    (enFixed (classOf (pageNum page)) = false → timeEnable (pageNum page) = false →
      let e := writeEnable (pageNum page) (bit w.data 0) { s.dev with resp := .done }
      still s.dev e → exec (.pageEnable page w) s = .next { s with dev := e } ∧ enabled e (pageNum page) = bit w.data 0) ∧
    (timeEnable (pageNum page) = true → soonOf s.dev (pageNum page) hPAGE_CTL = [] →
      rdB s.dev (pageNum page) hPAGE_CTL 0 ≠ bit w.data 0 → (pageNum page) ∉ s.dev.forced →
      exec (.pageEnable page w) s = .next { s with dev := entered s.dev (pageNum page) hPAGE_CTL (without w 6#32) } ∧
        enabledSoon (entered s.dev (pageNum page) hPAGE_CTL (without w 6#32)) (pageNum page) = bit w.data 0) ∧
    ((enFixed (classOf (pageNum page)) = true ∨
        rdB s.dev (pageNum page) hPAGE_CTL 0 = bit w.data 0 ∧ enabledSoon s.dev (pageNum page) = bit w.data 0) → bit w.data 2 = false →
      (classOf (pageNum page) ≠ 14 → classOf (pageNum page) ≠ 21 → pageBusy s.dev (pageNum page) = false →
        ∃ d, exec (.softRst page w) s = .next { s with dev := d } ∧ d = { s.dev with regs := d.regs, resp := .done } ∧
          keptBut [(pageNum page, hPAGE_CTL)] s.dev d ∧ rdB d (pageNum page) hPAGE_CTL 1 = true) ∧
      (let e := softRstStart (pageNum page) { s.dev with resp := .done };
        calm e = true → exec (.softRst page w) s = .next { s with dev := e } ∧ rdB e (pageNum page) hPAGE_CTL 1 = true ∧
          (pageBusy s.dev (pageNum page) = true → aborting e (pageNum page) = true))) ∧
    ((enFixed (classOf (pageNum page)) = true ∨
        rdB s.dev (pageNum page) hPAGE_CTL 0 = bit w.data 0 ∧ enabledSoon s.dev (pageNum page) = bit w.data 0) → bit w.data 1 = false →
      queuedWork s.dev (pageNum page) = false →
      ∃ d, exec (.abort page w) s = .next { s with dev := d } ∧
        d = { s.dev with regs := d.regs, aborts := d.aborts, resp := .done } ∧
        keptBut [(pageNum page, hPAGE_CTL), (pageNum page, hPAGE_STAT)] s.dev d ∧ aborting d (pageNum page) = true ∧
        rdB d (pageNum page) hPAGE_CTL 2 = true ∧ rdB d (pageNum page) hPAGE_STAT 1 = false)

/-- How an abort and a soft reset end.
The model's own choices that stand behind it: log entries 27 and 30. -/
def Obligations.AbortAndResetEnds : Prop :=
  ∀ (s : State) (page : Page), calm s.dev = true → s.dev.held = [] →
    (∀ r, s.dev.aborts.find? (pageNum page) = some r → r.idle = true → cannotQuiesce s.dev (pageNum page) = false →
      domainOn s.dev (pageNum page) = true →
      ∃ d, exec (.abortDone page) s = .next { s with dev := d } ∧ aborting d (pageNum page) = false ∧
        rdB d (pageNum page) hPAGE_CTL 2 = false ∧ rdF d (pageNum page) hPAGE_STAT 1 3 = 1 ∧
        d.eva.pending.any (fun e => sameKey e { source := pageSource (pageNum page), code := 0x2000, stamp := stampNow s.dev }) = true) ∧
    (∀ c : Fin 8, page = .cvu c → abortOver s.dev (pgCvu c.val) = true → domainOn s.dev (pgCvu c.val) = true →
      ∃ d, exec (.forcedAbort page) s = .next { s with dev := d } ∧ aborting d (pgCvu c.val) = false ∧
        cvuBusyB d c.val = false ∧ rdB d (pgCvu c.val) hPAGE_CTL 0 = false ∧ rdF d (pgCvu c.val) hPAGE_STAT 1 4 = 15 ∧
        rd d (pgCvu c.val) Reg.CVU.LEN = resetVal (pgCvu c.val) Reg.CVU.LEN) ∧
    (softRstReady s.dev (pageNum page) = true →
      (let e := softRstDone (pageNum page) s.dev;
        still s.dev e → exec (.softRstComplete page) s = .next { s with dev := e } ∧ rdB e (pageNum page) hPAGE_CTL 1 = false ∧
          rdB e (pageNum page) hPAGE_CTL 0 = rdB s.dev (pageNum page) hPAGE_CTL 0 ∧ rd e (pageNum page) hIRQ_RAW = 0#32 ∧
          (∀ off ∈ [hIRQ_EN, hERR_CODE, hERR_INFO, hLOCK, hOWNER], rd e (pageNum page) off = rd s.dev (pageNum page) off)) ∧
      (classOf (pageNum page) = 9 ∨ classOf (pageNum page) = 15 ∨ classOf (pageNum page) = 25 ∨ classOf (pageNum page) = 31 →
        ∃ d, exec (.softRstComplete page) s = .next { s with dev := d } ∧
          d = { s.dev with regs := d.regs, shadow := d.shadow, soon := d.soon } ∧
          (∀ off, 0x40 ≤ off → off < 4096 → rd d (pageNum page) off = resetVal (pageNum page) off) ∧
          (∀ q off, off < 4096 → (q = pageNum page → off < 0x40 ∧ off ≠ hPAGE_CTL ∧ off ≠ hIRQ_RAW) → rd d q off = rd s.dev q off)))

/-- What becomes of REF_STAT, REF_CTL and the time line.
The model's own choices that stand behind it: log entries 4, 14 and 18. -/
def Obligations.ReferenceCommands : Prop :=
  (∀ (d : Device) (m : Memory) (q r : List Instr), asleep d = false → d.time.everLocked = false → d.time.refinOk = true →
    ∃ e, exec .refLock ⟨d, m, q, r⟩ = .next ⟨e, m, q, r⟩ ∧ keptBut [(pgTb, Reg.TB.REF_STAT)] d e ∧ rdB e pgTb Reg.TB.REF_STAT 0 = true ∧
      e = { d with regs := e.regs, time := { d.time with everLocked := true,  lockNow := d.time.now, tl := if d.sys.wakeBoot then d.time.stopTl else 0#64 } }) ∧
  (∀ (d : Device) (m : Memory) (q r : List Instr), asleep d = false → d.time.everLocked = true → d.time.refinOk = true →
    domainOn d pgTb = true → (∀ z, z < 8 → zoneSourced { d with time := { d.time with refinOk := false } } z = false) →
    ∃ e, exec .refLoss ⟨d, m, q, r⟩ = .next ⟨e, m, q, r⟩ ∧
      e = { d with regs := e.regs, eva := e.eva, time := { d.time with refinOk := false } } ∧
      keptBut ((pgTb, Reg.TB.REF_STAT) :: raiseRegs pgTb) d e ∧ rdB e pgTb Reg.TB.REF_STAT 0 = false ∧
      rdB e pgTb Reg.TB.REF_STAT 1 = true ∧ rdB e pgTb Reg.TB.REF_STAT 2 = true ∧ rdB e pgTb hIRQ_RAW 0 = true) ∧
  (∀ (d : Device) (m : Memory) (q r : List Instr),
    exec .refinReturn ⟨d, m, q, r⟩ = .next ⟨{ d with time := { d.time with refinOk := true } }, m, q, r⟩) ∧
  (∀ (d : Device) (m : Memory) (q r : List Instr) (w : Wr), calm d = true → accepts d pgTb Reg.TB.REF_CTL w = true →
    rdB d pgTb Reg.TB.REF_STAT 1 = true → (∀ z, z < 8 → zoneSourced d z = false) → d.time.refinOk = true →
    ∃ e, exec (.relock w) ⟨d, m, q, r⟩ = .next ⟨e, m, q, r⟩ ∧ e = { d with regs := e.regs, resp := .done, time := { d.time with relock := true } } ∧
      keptBut [(pgTb, Reg.TB.REF_CTL)] d e ∧ rdB e pgTb Reg.TB.REF_CTL 0 = true) ∧
  (∀ (d : Device) (m : Memory) (q r : List Instr), rdB d pgTb Reg.TB.REF_STAT 1 = true → d.time.relock = true →
    d.time.refinOk = true → asleep d = false →
    ∃ e, exec .relockDone ⟨d, m, q, r⟩ = .next ⟨e, m, q, r⟩ ∧ e = { d with regs := e.regs, time := { d.time with relock := false } } ∧
      keptBut [(pgTb, Reg.TB.REF_STAT), (pgTb, Reg.TB.REF_CTL)] d e ∧ rdB e pgTb Reg.TB.REF_STAT 0 = true ∧
      rdB e pgTb Reg.TB.REF_STAT 1 = false ∧ rdB e pgTb Reg.TB.REF_CTL 0 = false)

/-- The time line's own events.
The model's own choices that stand behind it: log entries 14, 16, 124 and 127. -/
def Obligations.TimeLineEvents : Prop :=
  (∀ (d : Device) (m : Memory) (q r : List Instr), d.time.midnight = true →
    exec .midnight ⟨d, m, q, r⟩ = .next ⟨raiseAt pgTb 4 0 0 false { d with time := { d.time with midnight := false } }, m, q, r⟩) ∧
  (∀ (d : Device) (m : Memory) (q r : List Instr) (g : Fin 32) (err : Nat), domainOn d (pgLg g.val) = true → asleep d = false → 4 < err →
    domainOn d pgTb = true →
    ∃ e, exec (.dlCalibration g err) ⟨d, m, q, r⟩ = .next ⟨e, m, q, r⟩ ∧ e = { d with regs := e.regs, eva := e.eva, time := e.time } ∧
      keptBut ([(pgTb, Reg.TB.DL_WORST), (pgTb, Reg.TB.DL_OK)] ++ raiseRegs pgTb) d e ∧ rdB e pgTb Reg.TB.DL_OK g.val = false ∧
      rdB e pgTb hIRQ_RAW 1 = true ∧ e.time.dlBad = d.time.dlBad ||| BitVec.ofNat 32 (2 ^ g.val)) ∧
  (∀ (d : Device) (m : Memory) (q r : List Instr) (g : Fin 32) (err : Nat), domainOn d (pgLg g.val) = true → asleep d = false → err ≤ 2 →
    ∃ e, exec (.dlCalibration g err) ⟨d, m, q, r⟩ = .next ⟨e, m, q, r⟩ ∧ e = { d with regs := e.regs, time := e.time } ∧
      keptBut [(pgTb, Reg.TB.DL_WORST)] d e ∧ e.time.dlGood = d.time.dlGood ||| BitVec.ofNat 32 (2 ^ g.val)) ∧
  (∀ (d : Device) (m : Memory) (q r : List Instr) (c : Fin 8) (w : Wr), calm d = true → accepts d pgTb (Reg.TB.TLCMP_HI c.val) w = true →
    exec (.tlcmpArm c w) ⟨d, m, q, r⟩ = .next ⟨entered d pgTb (Reg.TB.TLCMP_HI c.val) w, m, q, r⟩) ∧
  (∀ (d : Device) (c : Fin 8) (w : Wr), let e := usable d pgTb (Reg.TB.TLCMP_HI c.val) w
    e = { d with regs := e.regs, soon := [], time := { d.time with cmpArmed := e.time.cmpArmed, cmpVal := e.time.cmpVal } } ∧
      keptBut [(pgTb, Reg.TB.TLCMP_HI c.val)] d e ∧ e.time.cmpArmed = d.time.cmpArmed ||| BitVec.ofNat 8 (2 ^ c.val) ∧
      e.time.cmpVal = d.time.cmpVal.insert c.val (w.data.toNat * 2 ^ 32 + (rd d pgTb (Reg.TB.TLCMP_LO c.val)).toNat)) ∧
  (∀ (d : Device) (m : Memory) (q r : List Instr) (c : Fin 8) (v : Nat), tlRuns d = true → d.time.cmpArmed.getLsbD c.val = true →
    rdB d pgTb Reg.TB.TLCMP_CTL c.val = true → d.time.cmpVal.find? c.val = some v → v ≤ d.time.tl.toNat → gsyncKind d ≠ 3 →
    calm d = true →
    ∃ e, exec (.tlcmpFire c) ⟨d, m, q, r⟩ = .next ⟨e, m, q, r⟩ ∧ e = { d with
        regs := e.regs, eva := e.eva, time := { d.time with cmpArmed := d.time.cmpArmed &&& ~~~ (BitVec.ofNat 8 (2 ^ c.val)) }
        tmrs := { d.tmrs with evs := d.tmrs.evs ++ [sel 8 c.val] } } ∧
      keptBut ((pgTb, Reg.TB.TLCMP_FIRED) :: raiseRegs pgTb) d e ∧ rdB e pgTb Reg.TB.TLCMP_FIRED c.val = true ∧
      (domainOn d pgTb = true → rdB e pgTb hIRQ_RAW (8 + c.val) = true))

/-- What moves the time line and the registers of the fabric's time.
The model's own choices that stand behind it: log entries 7, 14, 19, 20, 22 and 130. -/
def Obligations.SyncCommands : Prop :=
  (∀ (d : Device) (m : Memory) (q r : List Instr), d.sys.straps.root = true → tlRuns d = true → d.time.tl.toNat = 2 ^ 18 →
    rdB d pgTb Reg.TB.SYNC_STAT 2 = false →
    exec .syncWordSend ⟨d, m, q, r⟩ = .next ⟨emit (.syncWord 0) (wrB pgTb Reg.TB.SYNC_STAT 2 true d), m, q, r⟩) ∧
  (∀ (d : Device) (m : Memory) (q r : List Instr) (hop : Byte) (edge : Nat), d.sys.straps.root = false → asleep d = false →
    d.time.everLocked = true → d.time.lockNow * 64 + edge ≤ d.time.now * 64 → d.time.syncSeen = false → hop.toNat ≠ 255 →
    d.sys.mode ≠ .run →
    ∃ e, exec (.syncWordReceive hop true edge) ⟨d, m, q, r⟩ = .next ⟨e, m, q, r⟩ ∧
      e = { d with regs := e.regs, time := e.time } ∧
      keptBut [(pgTb, Reg.TB.SYNC_STAT)] d e ∧ rdF e pgTb Reg.TB.SYNC_STAT 16 8 = hop.toNat ∧ rdB e pgTb Reg.TB.SYNC_STAT 2 = true ∧
      e.time = { d.time with
        syncSeen := true, syncFwd := some (hop.toNat + 1)
        tl := BitVec.ofNat 64 (((2 ^ 18 + 4096 * hop.toNat) * 64 + rdF d pgTb Reg.TB.SYNC_COMP 0 12 + edge) / 64) }) ∧
  (∀ (d : Device) (m : Memory) (q r : List Instr) (hop : Byte) (stop : Bool) (edge : Nat), d.sys.straps.root = false → asleep d = false →
    (d.time.everLocked = true → d.time.lockNow * 64 + edge ≤ d.time.now * 64 →
      (hop.toNat = 255 ∨ stop = false ∨ d.time.syncSeen = true ∨ d.sys.mode = .run) →
      exec (.syncWordReceive hop stop edge) ⟨d, m, q, r⟩ = .next ⟨wrB pgTb Reg.TB.SYNC_STAT 4 true d, m, q, r⟩) ∧
    ((d.time.everLocked = false ∨ d.time.now * 64 < d.time.lockNow * 64 + edge) →
      exec (.syncWordReceive hop stop edge) ⟨d, m, q, r⟩ = .next ⟨wrB pgTb Reg.TB.SYNC_STAT 5 true d, m, q, r⟩)) ∧
  (∀ (d : Device) (m : Memory) (q r : List Instr) (hop : Byte) (stop : Bool) (edge : Nat), d.sys.straps.root = true ∨ asleep d = true →
    exec (.syncWordReceive hop stop edge) ⟨d, m, q, r⟩ = .next ⟨d, m, q, r⟩) ∧
  (∀ (d : Device) (m : Memory) (q r : List Instr) (h : Nat), d.sys.straps.root = false → tlRuns d = true → d.time.syncFwd = some h →
    2 ^ 18 + 4096 * h ≤ d.time.tl.toNat →
    exec .syncWordSend ⟨d, m, q, r⟩ = .next ⟨{ d with sent := d.sent ++ [.syncWord h], time := { d.time with syncFwd := none } }, m, q, r⟩) ∧
  (∀ (d : Device) (m : Memory) (q r : List Instr), d.sys.straps.root = false → tlRuns d = true → d.time.syncSeen = false →
    d.time.lockNow + 2 ^ 20 ≤ d.time.now → rdB d pgTb Reg.TB.SYNC_STAT 3 = false →
    exec .syncTimeout ⟨d, m, q, r⟩ = .next ⟨wrB pgTb Reg.TB.SYNC_STAT 3 true d, m, q, r⟩) ∧
  (∀ (d : Device) (m : Memory) (q r : List Instr) (l : Fin 8) (fine : Fin 64), linkUp d l.val = true →
    d.time.tl.toNat % 2 ^ 20 = 4096 * l.val → d.time.exch.find? l.val = none → ffArmed d l.val = false → (fireflyOf d l.val).held = [] →
    ∃ e, exec (.tsyncExchangeStart l fine) ⟨d, m, q, r⟩ = .next ⟨e, m, q, r⟩ ∧ e.regs = d.regs ∧
      e.time = { d.time with
        exch := d.time.exch.insert l.val { t1 := (d.time.tl.toNat * 64 + fine.val) % 2 ^ 64, sentAt := d.time.now } } ∧
      e.sent = d.sent ++ [.unit (.flit l.val (sealed {
        typ := 5, vc := 1, dest := 0xFFF, src := myId d, payload := tsyncPayload 1 (d.time.tl.toNat / 2 ^ 20 % 2 ^ 32) 0 0 })) none]) ∧
  (∀ (d : Device) (m : Memory) (q r : List Instr) (l : Fin 8) (n : Nat) (t2 t3 : BitVec 64), linkUp d l.val = true →
    ffArmed d l.val = false → (fireflyOf d l.val).held = [] →
    ∃ e, exec (.tsyncRequest l n t2 t3) ⟨d, m, q, r⟩ = .next ⟨e, m, q, r⟩ ∧ e.regs = d.regs ∧ e.time = d.time ∧
      e.sent = d.sent ++ [.unit (.flit l.val
        (sealed { typ := 5, vc := 1, dest := 0xFFF, src := myId d, payload := tsyncPayload 2 n t2.toNat t3.toNat })) none]) ∧
  (∀ (d : Device) (m : Memory) (q r : List Instr) (l : Fin 8) (x : Exchange) (t2 t3 t4 : BitVec 64) (o y : Int), linkUp d l.val = true →
    d.time.exch.find? l.val = some x → parentOf d ≠ some l.val →
    (t4 - t3).toInt - (t2 - BitVec.ofNat 64 x.t1).toInt = 2 * o → (t2 - BitVec.ofNat 64 x.t1).toInt + (t4 - t3).toInt = 2 * y →
    exec (.tsyncResponse l (x.t1 / 64 / 2 ^ 20) t2 t3 t4) ⟨d, m, q, r⟩ = .next ⟨wr (pgLink l.val) Reg.LINK.TS_DELAY (wdI y)
      (wr (pgLink l.val) Reg.LINK.TS_OFFSET (wdI o) { d with time := { d.time with exch := d.time.exch.erase l.val } }), m, q, r⟩) ∧
  (∀ (d : Device) (m : Memory) (q r : List Instr) (l : Fin 8) (x : Exchange), d.time.exch.find? l.val = some x →
    x.sentAt + 65536 ≤ d.time.now → domainOn d (pgLink l.val) = true →
    ∃ e, exec (.tsyncTimeout l) ⟨d, m, q, r⟩ = .next ⟨e, m, q, r⟩ ∧
      e = { d with regs := e.regs, eva := e.eva, time := { d.time with exch := d.time.exch.erase l.val } } ∧
      keptBut ((pgLink l.val, Reg.LINK.TS_BAD) :: raiseRegs (pgLink l.val)) d e ∧
      rd e (pgLink l.val) Reg.LINK.TS_BAD = rd d (pgLink l.val) Reg.LINK.TS_BAD + 1#32 ∧ rdB e (pgLink l.val) hIRQ_RAW 5 = true) ∧
  (∀ (d : Device) (m : Memory) (q r : List Instr) (w : Wr), calm d = true → accepts d pgTb Reg.TB.SYNC_CTL w = true →
    fld w.data 8 4 < 8 →
    ∃ e, exec (.reacq w) ⟨d, m, q, r⟩ = .next ⟨e, m, q, r⟩ ∧ e = { d with regs := e.regs, resp := .done, time := e.time } ∧
      keptBut [(pgTb, Reg.TB.SYNC_CTL), (pgTb, Reg.TB.SYNC_STAT)] d e ∧ syncState e = 1) ∧
  (∀ (d : Device) (m : Memory) (q r : List Instr) (w : Wr), calm d = true → accepts d pgTb Reg.TB.PTP_CTL w = true →
    exec (.ptpCommit w) ⟨d, m, q, r⟩ = .next ⟨wrB pgTb Reg.TB.PTP_CTL 1 true
      { d with resp := .done, time := { d.time with ptpDue := d.time.ptpDue ++ [d.time.now + 2] } }, m, q, r⟩) ∧
  (∀ (d : Device) (m : Memory) (q r : List Instr) (t : Nat) (v : Word), d.time.ptpDue = [t] → t ≤ d.time.now →
    shadowOf d pgTb Reg.TB.PTP_RATE = some v → (∀ off ∈ ptpRegs, off ≠ Reg.TB.PTP_RATE → shadowOf d pgTb off = none) →
    ∃ e, exec .ptpCommitBoundary ⟨d, m, q, r⟩ = .next ⟨e, m, q, r⟩ ∧
      e = { d with regs := e.regs, shadow := e.shadow, time := { d.time with ptpDue := [] } } ∧
      keptBut [(pgTb, Reg.TB.PTP_RATE), (pgTb, Reg.TB.PTP_CTL)] d e ∧ rd e pgTb Reg.TB.PTP_RATE = v ∧
      shadowOf e pgTb Reg.TB.PTP_RATE = none ∧ rdB e pgTb Reg.TB.PTP_CTL 1 = false)

/-- The time line after sleep.
The model's own choices that stand behind it: log entries 15, 21, 47 and 63. -/
def Obligations.MakeUpAdvances : Prop :=
  ∀ (d : Device) (m : Memory) (q r : List Instr), makeupReady d = true → d.sys.mode = .sleep → edgesOff (makeUp d) = true →
    calm (makeUp d) = true →
    (∀ n, n < 64 → tmrRuns d n = false) → (∀ g, g < 32 → running d g = false) → (∀ n, n < 128 → beRd d n Reg.BE.TBL_INC = 0#32) →
    d.time.cmpArmed = 0#8 → (∀ l, l < 8 → domainOn d (pgLink l) = false) → (∀ n, n < 32 → posOn d n = false) → parentOf d = none →
    ∃ e, exec .makeUp ⟨d, m, q, r⟩ = .next ⟨e, m, q, r⟩ ∧ e.time.tl = d.time.tl + BitVec.ofNat 64 (wakeCount d * 1280) ∧
      rd e pgTb Reg.TB.WAKE_STAMP_LO = lo32 e.time.tl.toNat ∧ rd e pgTb Reg.TB.WAKE_STAMP_HI = hi32 e.time.tl.toNat ∧
      rd e pgTb Reg.TB.WAKE_ERR = wd (min 0xFFFFFFFF (1280 + (wakeCount d * 1280 + 4095) / 4096)) ∧
      (domainOn d pgTb = true → rdB e pgTb hIRQ_RAW 5 = true) ∧ e.time.wakeAt = none ∧ e.sys.transit = some (if rdB d pgMode Reg.MODE.SLEEP_CFG 0 then .hold else .configure)

/-- R87's two writes with what they leave of the registers; the two events of R85 and the order of R92 within each; R636's software source.
The model's own choices that stand behind it: log entries 14, 38, 124 and 127. -/
def Obligations.CarrierCommands : Prop :=
  (∀ (d : Device) (m : Memory) (q r : List Instr) (w : Wr), calm d = true → accepts d pgLegsys Reg.LEGSYS.START w = true →
    exec (.legsysStart w) ⟨d, m, q, r⟩ = .next ⟨entered d pgLegsys Reg.LEGSYS.START w, m, q, r⟩) ∧
  (∀ (d : Device) (w : Wr), (∀ g, g < 32 → (carrierOf d g).load = none ∧ (carrierOf d g).perWas = none) →
    let e := settleCarriers (usable d pgLegsys Reg.LEGSYS.START w)
    e = { d with regs := e.regs, soon := [], legs := e.legs } ∧ keptBut ((List.range 32).map (fun g => (pgLg g, Reg.LG.CTL))) d e ∧
      ∀ g, g < 32 → rdB e (pgLg g) Reg.LG.CTL 0 = (rdB d (pgLg g) Reg.LG.CTL 0 || bit w.data g && domainOn d (pgLg g)) ∧
        (running d g = false → running e g = true → (carrierOf e g).count = phaseEff d g)) ∧
  (∀ (d : Device) (m : Memory) (q r : List Instr) (w : Wr), calm d = true → accepts d pgLegsys Reg.LEGSYS.STOP w = true →
    exec (.legsysStop w) ⟨d, m, q, r⟩ = .next ⟨entered d pgLegsys Reg.LEGSYS.STOP w, m, q, r⟩) ∧
  (∀ (d : Device) (w : Wr), let e := usable d pgLegsys Reg.LEGSYS.STOP w
    e = { d with regs := e.regs, soon := [] } ∧ keptBut ((List.range 32).map (fun g => (pgLg g, Reg.LG.CTL))) d e ∧
      ∀ g, g < 32 → rdB e (pgLg g) Reg.LG.CTL 0 = (rdB d (pgLg g) Reg.LG.CTL 0 && !(bit w.data g && domainOn d (pgLg g)))) ∧
  (∀ (d : Device) (m : Memory) (q r : List Instr) (g : Fin 32), calm d = true → edgesOff d = true → running d g.val = true →
    (carrierOf d g.val).count = 0 → (carrierOf d g.val).zeroDone = false →
    ∃ e, exec (.carrierZero g) ⟨d, m, q, r⟩ = .next ⟨e, m, q, r⟩ ∧
      e.tmrs = { d.tmrs with evs := d.tmrs.evs ++ [sel 4 g.val] } ∧ (carrierOf e g.val).zeroDone = true ∧ (carrierOf e g.val).count = 0 ∧
      rdB e (pgLg g.val) hIRQ_RAW 0 = true ∧
      (∀ v, pload d g.val = 0 ∨ pload d g.val = 2 → shadowOf d (pgLg g.val) Reg.LG.PER = some v →
        rd e (pgLg g.val) Reg.LG.PER = v ∧ shadowOf e (pgLg g.val) Reg.LG.PER = none) ∧
      (∀ n, n < 128 → legCarrier d n = g.val → legMode d n = 1 →
        (legOf e n).state = actState (fld (legRd e n Reg.LG.ACT) 0 2) (legOf d n).state)) ∧
  (∀ (d : Device) (m : Memory) (q r : List Instr) (g : Fin 32), calm d = true → edgesOff d = true → periodDue d g.val = true →
    ∃ e, exec (.carrierPeriod g) ⟨d, m, q, r⟩ = .next ⟨e, m, q, r⟩ ∧
      e.tmrs = { d.tmrs with evs := d.tmrs.evs ++ [sel 5 g.val] } ∧ (carrierOf e g.val).perDone = true ∧
      (carrierOf e g.val).wrap = !upDown d g.val ∧ rdB e (pgLg g.val) hIRQ_RAW 1 = true ∧
      (∀ v, pload d g.val = 1 ∨ pload d g.val = 2 → shadowOf d (pgLg g.val) Reg.LG.PER = some v →
        rd e (pgLg g.val) Reg.LG.PER = v ∧ shadowOf e (pgLg g.val) Reg.LG.PER = none) ∧
      (∀ n, n < 128 → legCarrier d n = g.val → legMode d n = 1 →
        (legOf e n).state = actState (fld (legRd e n Reg.LG.ACT) 6 2) (legOf d n).state)) ∧
  (∀ (d : Device) (m : Memory) (q r : List Instr) (w : Wr), calm d = true → accepts d pgLegsys Reg.LEGSYS.GSYNC_SW w = true →
    exec (.gsyncSw w) ⟨d, m, q, r⟩ = .next ⟨entered d pgLegsys Reg.LEGSYS.GSYNC_SW (withOnes w 1#32), m, q, r⟩) ∧
  (∀ (d : Device) (w : Wr), bit w.data 0 = true → gsyncKind d = 1 →
    usable d pgLegsys Reg.LEGSYS.GSYNC_SW w = { d with soon := [], legs := { d.legs with gsyncDue := true } }) ∧
  (∀ d : Device, d.legs.gsyncDue = true → tickSync d = gsyncNow d ∧ (gsyncNow d).legs.gsyncDue = false) ∧
  (∀ d : Device, domainOn d pgLegsys = true →
    let e := gsyncNow d
    rdB e pgLegsys hIRQ_RAW 10 = true ∧ e.tmrs = { d.tmrs with evs := d.tmrs.evs ++ [sel 9 0] } ∧
    (∀ g, g < 32 → rdB d (pgLg g) Reg.LG.CTL 2 = true → running d g = true → (carrierOf e g).count = phaseEff e g) ∧
    (∀ n off, n < 128 → legLoadSel d n = 4 → legFrozen d n = false → off ∈ legShadow n → shadowOf e (pgLg (n / 4)) off = none)) ∧
  (∀ (d : Device) (w : Wr), gsyncKind d ≠ 1 → usable d pgLegsys Reg.LEGSYS.GSYNC_SW w = { d with soon := [] })

/-- What the carrier's compares and the ends of a leg's delays do.
The model's own choices that stand behind it: log entries 35, 36, 43, 44, 124, 127 and 131. -/
def Obligations.CompareAndDelays : Prop :=
  (∀ (d : Device) (m : Memory) (q r : List Instr) (leg : Fin 128) (c : CmpSel), calm d = true → edgesOff d = true →
    cmpMatches d leg.val c = true →
    ∃ e, exec (.compareMatch leg c false) ⟨d, m, q, r⟩ = .next ⟨e, m, q, r⟩ ∧
      e.tmrs = { d.tmrs with evs := d.tmrs.evs ++ [sel (cmpKind c) leg.val] } ∧ (cmpFlags (legOf e leg.val) c).done = true ∧
      rdB e (pgLg (leg.val / 4)) hIRQ_RAW (cmpBit leg.val c) = true ∧ (∀ n, n ≠ leg.val → legOf e n = legOf d n) ∧
      (legOf e leg.val).state = (if (actsAtMatch d leg.val c = true ∨ catchDue d leg.val c = true) ∧ legMode d leg.val = 1 then
        actState (fld (legRd d leg.val Reg.LG.ACT) (cmpActField c (legDown d leg.val)) 2) (legOf d leg.val).state
        else (legOf d leg.val).state)) ∧
  (∀ (d : Device) (m : Memory) (q r : List Instr) (leg : Fin 128) (c : CmpSel), calm d = true → edgesOff d = true →
    cmpMatches d leg.val c = false → catchDue d leg.val c = true →
    ∃ e, exec (.compareMatch leg c false) ⟨d, m, q, r⟩ = .next ⟨e, m, q, r⟩ ∧ e.tmrs = d.tmrs ∧
      rdB e (pgLg (leg.val / 4)) hIRQ_RAW (8 + leg.val % 4) = true ∧ catchDue e leg.val c = false ∧
      (∀ n, n ≠ leg.val → legOf e n = legOf d n) ∧
      (legOf e leg.val).state = (if legMode d leg.val = 1 then
        actState (fld (legRd d leg.val Reg.LG.ACT) (cmpActField c (legDown d leg.val)) 2) (legOf d leg.val).state
        else (legOf d leg.val).state)) ∧
  (∀ (d : Device) (m : Memory) (q r : List Instr) (leg : Fin 128) (c : CmpSel), calm d = true → edgesOff d = true →
    earlyDue d leg.val c = true →
    ∃ e, exec (.compareMatch leg c true) ⟨d, m, q, r⟩ = .next ⟨e, m, q, r⟩ ∧ e.tmrs = d.tmrs ∧
      (cmpFlags (legOf e leg.val) c).early = d.time.now + 2 ∧ (∀ n, n ≠ leg.val → legOf e n = legOf d n) ∧
      (legOf e leg.val).state = (if legMode d leg.val = 1 then
        actState (fld (legRd d leg.val Reg.LG.ACT) (cmpActField c true) 2) (legOf d leg.val).state
        else (legOf d leg.val).state)) ∧
  (∀ (d : Device) (m : Memory) (q r : List Instr) (leg : Fin 128) (high : Bool) (t : Nat), edgesOff d = true → t / 64 ≤ d.time.now →
    (sideOf (legOf d leg.val) high).pend = some t →
    let u := edgeAt d leg.val t
    exec (.deadTimeExpiry leg high) ⟨d, m, q, r⟩ = .next ⟨setLeg leg.val
      (if (sideOf (legOf d leg.val) (!high)).on = false then setSide (legOf d leg.val) high
          { sideOf (legOf d leg.val) high with on := true, onAt := u, pend := none }
       else match (sideOf (legOf d leg.val) (!high)).minp with
        | some x => if x ≤ u then setSide (setSide (legOf d leg.val) (!high)
              { sideOf (legOf d leg.val) (!high) with on := false, offAt := x, minp := none }) high
              { sideOf (legOf d leg.val) high with on := true, onAt := u, pend := none }
            else legOff u (legOf d leg.val)
        | none => legOff u (legOf d leg.val)) d, m, q, r⟩) ∧
  (∀ (d : Device) (m : Memory) (q r : List Instr) (leg : Fin 128) (high : Bool) (t : Nat), edgesOff d = true → t / 64 ≤ d.time.now →
    (sideOf (legOf d leg.val) high).minp = some t →
    let u := edgeAt d leg.val t
    exec (.minpExpiry leg high) ⟨d, m, q, r⟩ = .next ⟨setLeg leg.val (setSide (legOf d leg.val) high
      { sideOf (legOf d leg.val) high with on := false, offAt := u, minp := none }) d, m, q, r⟩) ∧
  (∀ (d : Device) (m : Memory) (q r : List Instr) (leg : Fin 128) (high : Bool) (t : Nat), edgesOff d = true →
    (t / 64 ≤ d.time.now ∨ (asleep d = true ∧ (legOf d leg.val).stage = .safe)) →
    (sideOf (legOf d leg.val) high).ilk = some t → (sideOf (legOf d leg.val) (!high)).on = false →
    let u := edgeAt d leg.val t
    exec (if (legOf d leg.val).stage = .safe then .safepatIlkExpiry leg high else .ilkExpiry leg high) ⟨d, m, q, r⟩ =
      .next ⟨setLeg leg.val (setSide (legOf d leg.val) high
        { sideOf (legOf d leg.val) high with on := true, onAt := u, ilk := none }) d, m, q, r⟩) ∧
  (∀ (d : Device) (n t : Nat), edgeAt d n t = if d.time.dlCoarse.getLsbD (n / 4) then t / 64 * 64 else t)

/-- R108 to R110 on one action, through the operation that the carrier's and the compares' commands share; the two halves of a leg are
each other's mirror image.
The model's own choices that stand behind it: log entries 35 and 36. -/
def Obligations.LegStateChange : Prop :=
  ∀ (d : Device) (n t : Nat), n < 128 → legMode d n = 1 → (legOf d n).stage = .follow → (legOf d n).driven ≠ .a → moreAt d n t = false →
    (legOf d n).high.on = false → domainOn d (pgLg (n / 4)) = true →
    ((legOf d n).low.on = true → (legOf d n).low.onAt + legMinp d n ≤ t → 0 < legDtr d n →
      pwmAct n t 1 d = setLeg n ({ legOf d n with
        state := .a, driven := .a, low := { (legOf d n).low with on := false, offAt := t, minp := none, pend := none },
        high := { (legOf d n).high with pend := some (t + legDtr d n), ilk := none } }) d) ∧
    ((legOf d n).low.on = true → t < (legOf d n).low.onAt + legMinp d n → (legOf d n).low.minp = none →
      legOf (pwmAct n t 1 d) n = { legOf d n with
        state := .a, driven := .a, low := { (legOf d n).low with minp := some ((legOf d n).low.onAt + legMinp d n), pend := none },
        high := { (legOf d n).high with pend := some ((legOf d n).low.onAt + legMinp d n + legDtr d n), ilk := none } } ∧
      rd (pwmAct n t 1 d) (pgLg (n / 4)) (Reg.LG.MINP_CNT (n % 4)) = rd d (pgLg (n / 4)) (Reg.LG.MINP_CNT (n % 4)) + 1#32 ∧
      rdB (pwmAct n t 1 d) (pgLg (n / 4)) (Reg.LG.LEGSTAT (n % 4)) 6 = true ∧
      rdB (pwmAct n t 1 d) (pgLg (n / 4)) hIRQ_RAW (4 + n % 4) = true) ∧
    ((legOf d n).low.on = false → legDtr d n = 0 →
      pwmAct n t 1 d = setLeg n ({ legOf d n with
        state := .a, driven := .a, low := { (legOf d n).low with pend := none },
        high := { (legOf d n).high with on := true, onAt := t, pend := none, minp := none, ilk := none } }) d)

/-- The trip zones: levels, latching with the first cause, and clearing.
The model's own choices that stand behind it: log entries 14, 17, 39 and 40. -/
def Obligations.TripZonesLatch : Prop :=
  (∀ (d : Device) (p s : Nat), p < 32 → tripAsserted d p = true → d.legs.tripAt.get (fun _ => 0) p = s →
    tripPinDue d p = (!rdB d pgLegsys Reg.LEGSYS.TRIP_LVL p && decide (s + max 1 (rdF d pgLegsys Reg.LEGSYS.TRIP_FLT 0 8) ≤ d.time.now + 1))) ∧
  (∀ (d : Device) (m : Memory) (q r : List Instr) (pin : Fin 32), asleep d = false → domainOn d pgLegsys = true →
    let x := tripLevel pin.val (rdB d pgLegsys Reg.LEGSYS.TRIP_POL pin.val) d
    tripAsserted x pin.val = false ∧
    exec (.tripPinDeassert pin) ⟨d, m, q, r⟩ = .next ⟨wrB pgLegsys Reg.LEGSYS.TRIP_LVL pin.val false x, m, q, r⟩) ∧
  (∀ (d : Device) (m : Memory) (q r : List Instr) (pin : Fin 32), asleep d = false → domainOn d pgLegsys = true →
    let x := tripLevel pin.val (!rdB d pgLegsys Reg.LEGSYS.TRIP_POL pin.val) d
    tripAsserted x pin.val = true ∧ x = { d with legs := { d.legs with trip := x.legs.trip, tripAt := x.legs.tripAt } } ∧
    (tripPinDue x pin.val = false → exec (.tripPinAssert pin) ⟨d, m, q, r⟩ = .next ⟨x, m, q, r⟩) ∧
    (tripPinDue x pin.val = true →
      (∀ z, z < 8 → zoneSourced (wrB pgLegsys Reg.LEGSYS.TRIP_LVL pin.val true x) z = true → zoneLatched d z = true) →
      exec (.tripPinAssert pin) ⟨d, m, q, r⟩ = .next ⟨wrB pgLegsys Reg.LEGSYS.TRIP_LVL pin.val true x, m, q, r⟩) ∧
    (∀ z, tripPinDue x pin.val = true → edgesOff d = true →
      (List.range 8).filter (zoneSourced (wrB pgLegsys Reg.LEGSYS.TRIP_LVL pin.val true x)) = [z] →
      bitsOf (zonePins (wrB pgLegsys Reg.LEGSYS.TRIP_LVL pin.val true x) z) 32 = [pin.val] →
      exec (.tripPinAssert pin) ⟨d, m, q, r⟩ = .next ⟨tripZone z 1 pin.val none (wrB pgLegsys Reg.LEGSYS.TRIP_LVL pin.val true x), m, q, r⟩)) ∧
  (∀ (d : Device) (z kind index : Nat), z < 8 → zoneLatched d z = false → domainOn d pgLegsys = true → kind < 8 →
    zoneLatched (tripZone z kind index none d) z = true ∧
    rd (tripZone z kind index none d) pgLegsys (Reg.LEGSYS.TZ_CAUSE z) = wd (kind * 2 ^ 28 + index % 2 ^ 12) ∧
    rdB (tripZone z kind index none d) pgLegsys hIRQ_RAW z = true) ∧
  (∀ (d : Device) (m : Memory) (q r : List Instr) (w : Wr), calm d = true →
    (accepts d pgLegsys Reg.LEGSYS.TZ_SW w = true →
      exec (.tzSw w) ⟨d, m, q, r⟩ = .next ⟨entered d pgLegsys Reg.LEGSYS.TZ_SW w, m, q, r⟩) ∧
    (accepts d pgLegsys Reg.LEGSYS.TZ_CLR w = true →
      exec (.tzClr w) ⟨d, m, q, r⟩ = .next ⟨entered d pgLegsys Reg.LEGSYS.TZ_CLR w, m, q, r⟩)) ∧
  (∀ (d : Device) (w : Wr), domainOn d pgLegsys = true → ∀ z, z < 8 → w.data.getLsbD z = true →
    zoneLatched (usable d pgLegsys Reg.LEGSYS.TZ_SW w) z = true) ∧
  (∀ (d : Device) (w : Wr), ∃ x, usable d pgLegsys Reg.LEGSYS.TZ_CLR w = refreshLegs x ∧
      x = { d with regs := x.regs, soon := [], legs := { d.legs with trips := x.legs.trips } } ∧
      keptBut [(pgLegsys, Reg.LEGSYS.TZ_LATCH)] d x ∧
      ∀ z, z < 8 → zoneLatched x z = (zoneLatched d z && !(w.data.getLsbD z && !zoneSourced d z)))

/-- The safe pattern over all 128 legs.
The model's own choices that stand behind it: log entries 14, 36 and 40. -/
def Obligations.SafePattern : Prop :=
  (∀ (d : Device) (m : Memory) (q r : List Instr), d.legs.safeNLow = false → edgesOff (safeNFall d) = true →
    rdB d pgMode Reg.MODE.DUSK_CFG 0 = false →
    exec .safeNFall ⟨d, m, q, r⟩ = .next ⟨refreshLegs (raise pgLegsys 8 { d with legs := { d.legs with safeNLow := true } }), m, q, r⟩) ∧
  (∀ (d : Device) (m : Memory) (q r : List Instr), d.legs.safeNLow = true → edgesOff (safeNRise d) = true →
    exec .safeNRise ⟨d, m, q, r⟩ = .next ⟨refreshLegs (raise pgLegsys 9 { d with legs := { d.legs with safeNLow := false } }), m, q, r⟩) ∧
  (∀ (d : Device) (m : Memory) (q r : List Instr) (i : Option (Fin 8)) (w : Wr),
    let off := match i with | some j => Reg.SAFEPAT.PAT j.val | none => Reg.SAFEPAT.ILK
    calm d = true → accepts d pgSafepat off w = true →
    exec (.safepatWrite i w) ⟨d, m, q, r⟩ = .next ⟨entered d pgSafepat off w, m, q, r⟩) ∧
  (∀ (d : Device) (i : Fin 8) (w : Wr),
    usable d pgSafepat (Reg.SAFEPAT.PAT i.val) w = refreshLegs (wr pgSafepat (Reg.SAFEPAT.PAT i.val) w.data { d with soon := [] })) ∧
  (∀ (d : Device) (n : Nat), n < 128 → safeApplied d = true →
    (legOf (refreshLegs d) n).stage = .safe ∧
    (safePat d n = 0 ∨ safePat d n = 3 → (legOf (refreshLegs d) n).high.on = false ∧ (legOf (refreshLegs d) n).low.on = false ∧
      (legOf (refreshLegs d) n).high.ilk = none ∧ (legOf (refreshLegs d) n).low.ilk = none) ∧
    (safePat d n = 1 → (legOf (refreshLegs d) n).low.on = false) ∧ (safePat d n = 2 → (legOf (refreshLegs d) n).high.on = false)) ∧
  (∀ (d : Device) (n : Nat), n < 128 → safeApplied d = false → domainOn d (pgLg (n / 4)) = true → (legOf (refreshLegs d) n).stage ≠ .safe)

/-- The step of R148 as the operation that the commands of spec/04 share, for a step that the timer's own ticks give.
The model's own choices that stand behind it: log entry 46. -/
def Obligations.TimerCountsAndDecides : Prop :=
  ∀ (d : Device) (n : Nat), n < 64 → tmrOn d n = true → slvMode d n = 0 → (tickStep n d).2 = true → (timerOf d n).noStep ≠ tickMark d →
    let top := tmrRd d n Reg.TMR.TOP
    let c := if (tmrRd d n Reg.TMR.COUNT).toNat < top.toNat then tmrRd d n Reg.TMR.COUNT + 1#32 else 0#32
    let ovf := decide (top.toNat ≤ (tmrRd d n Reg.TMR.COUNT).toNat)
    let m0 := decide (c = tmrRd d n Reg.TMR.MATCH0)
    let m1 := decide (c = tmrRd d n Reg.TMR.MATCH1)
    let cfg := tmrRd d n Reg.TMR.TIO_CFG
    let e := (timerAct n [] d).1
    (timerAct n [] d).2 = (if ovf then [sel 3 n] else []) ++ (if m0 then [sel 1 n] else []) ++ (if m1 then [sel 2 n] else []) ∧
    e = { d with regs := e.regs, eva := e.eva, tmrs := e.tmrs } ∧
    keptBut ([(pgTmr n, Reg.TMR.COUNT), (pgTmr n, Reg.TMR.CTL)] ++ raiseRegs (pgTmr n)) d e ∧
    tmrRd e n Reg.TMR.COUNT = c ∧ (timerOf e n).presc = 0 ∧
    rdB e (pgTmr n) Reg.TMR.CTL 0 = (rdB d (pgTmr n) Reg.TMR.CTL 0 && !(ovf && rdB d (pgTmr n) Reg.TMR.CTL 1)) ∧
    rdB e (pgTmr n) hIRQ_RAW 2 = (rdB d (pgTmr n) hIRQ_RAW 2 || ovf) ∧ rdB e (pgTmr n) hIRQ_RAW 0 = (rdB d (pgTmr n) hIRQ_RAW 0 || m0) ∧
    rdB e (pgTmr n) hIRQ_RAW 1 = (rdB d (pgTmr n) hIRQ_RAW 1 || m1) ∧
    (timerOf e n).out = (let o1 := if ovf then outAction (fld cfg 8 2) (timerOf d n).out else (timerOf d n).out
      let o2 := if m0 then outAction (fld cfg 4 2) o1 else o1
      if m1 then outAction (fld cfg 6 2) o2 else o2) ∧
    (timerOf e n).queue = (timerOf d n).queue ∧ (∀ k, k ≠ n → timerOf e k = timerOf d k)

/-- The commands of the timers over the shared operations.
The model's own choices that stand behind it: log entries 14, 45, 46, 48 and 129. -/
def Obligations.TimerCommands : Prop :=
  (∀ (d : Device) (m : Memory) (q r : List Instr) (n : Fin 64), tmrOn d n.val = true → slvMode d n.val = 0 →
    (tickStep n.val d).2 = true → (timerOf d n.val).noStep ≠ tickMark d → d.tmrs.given ≠ tickMark d → netQuiet d = true →
    let top := tmrRd d n.val Reg.TMR.TOP
    let c := if (tmrRd d n.val Reg.TMR.COUNT).toNat < top.toNat then tmrRd d n.val Reg.TMR.COUNT + 1#32 else 0#32
    ∃ e, exec (.timerCountStep n) ⟨d, m, q, r⟩ = .next ⟨e, m, q, r⟩ ∧ tmrRd e n.val Reg.TMR.COUNT = c ∧
      (timerOf e n.val).presc = 0 ∧
      rdB e (pgTmr n.val) hIRQ_RAW 2 = (rdB d (pgTmr n.val) hIRQ_RAW 2 || decide (top.toNat ≤ (tmrRd d n.val Reg.TMR.COUNT).toNat)) ∧
      rdB e (pgTmr n.val) hIRQ_RAW 0 = (rdB d (pgTmr n.val) hIRQ_RAW 0 || decide (c = tmrRd d n.val Reg.TMR.MATCH0)) ∧
      rdB e (pgTmr n.val) hIRQ_RAW 1 = (rdB d (pgTmr n.val) hIRQ_RAW 1 || decide (c = tmrRd d n.val Reg.TMR.MATCH1))) ∧
  (∀ (d : Device) (m : Memory) (q r : List Instr) (n : Fin 64) (w : Wr), calm d = true → accepts d (pgTmr n.val) Reg.TMR.COUNT w = true →
    exec (.timerCountWrite n w) ⟨d, m, q, r⟩ = .next ⟨entered d (pgTmr n.val) Reg.TMR.COUNT w, m, q, r⟩) ∧
  (∀ (d : Device) (n : Fin 64) (w : Wr), usable d (pgTmr n.val) Reg.TMR.COUNT w =
    setTimer n.val { timerOf d n.val with presc := 0, seen := tickMark d, noStep := tickMark d }
      (wr (pgTmr n.val) Reg.TMR.COUNT w.data { d with soon := [] })) ∧
  (∀ (d : Device) (m : Memory) (q r : List Instr) (pin : Fin 64) (level : Bool), calm d = true →
    let x : Device := { d with tmrs := { d.tmrs with ext := putBit d.tmrs.ext pin.val level } }
    tioPin x pin.val = (if rdB d (pgTmr pin.val) Reg.TMR.TIO_CFG 0 && tmrOn d pin.val then (timerOf d pin.val).out else level) ∧
    (asleep d = true → exec (.tioEdge pin level) ⟨d, m, q, r⟩ = .next ⟨x, m, q, r⟩) ∧
    (asleep d = false → d.tmrs.samp.getLsbD pin.val = d.tmrs.tio.getLsbD pin.val →
      exec (.tioEdge pin level) ⟨d, m, q, r⟩ = .next ⟨x, m, q, r⟩) ∧
    (asleep d = false →
      d.time.now + 1 < d.tmrs.sampAt.get (fun _ => 0) pin.val + max 1 (rdF d (pgTmr pin.val) Reg.TMR.TIO_CFG 16 8) →
      exec (.tioEdge pin level) ⟨d, m, q, r⟩ = .next ⟨x, m, q, r⟩) ∧
    (asleep d = false → d.tmrs.samp.getLsbD pin.val ≠ d.tmrs.tio.getLsbD pin.val →
      d.tmrs.sampAt.get (fun _ => 0) pin.val + max 1 (rdF d (pgTmr pin.val) Reg.TMR.TIO_CFG 16 8) ≤ d.time.now + 1 →
      exec (.tioEdge pin level) ⟨d, m, q, r⟩ = .next ⟨{ x with tmrs := { x.tmrs with
        tio := putBit d.tmrs.tio pin.val (d.tmrs.samp.getLsbD pin.val),
        evs := d.tmrs.evs ++ [if d.tmrs.samp.getLsbD pin.val then sel 10 pin.val else tioFall pin.val] } }, m, q, r⟩)) ∧
  (∀ (d : Device) (n : Nat), n < 64 →
    let e := tioTick d
    e.tmrs.inA.getLsbD n = tioPin d n ∧ e.tmrs.inB = d.tmrs.inA ∧ e.tmrs.samp = d.tmrs.inB ∧ e.tmrs.tio = d.tmrs.tio ∧
      (d.tmrs.inB.getLsbD n ≠ d.tmrs.samp.getLsbD n → e.tmrs.sampAt.find? n = some d.time.now) ∧
      (d.tmrs.inB.getLsbD n = d.tmrs.samp.getLsbD n → e.tmrs.sampAt.find? n = d.tmrs.sampAt.find? n))

/-- Every command that reads a register with an effect, but for ERR_CODE.
The model's own choices that stand behind it: log entry 109. -/
def Obligations.ReadEffects : Prop :=
  (∀ (d : Device) (m : Memory) (q r : List Instr) (n : Fin 64) (who : Requester) (c : Capture) (cs : List Capture),
    pageMapped d (pgTmr n.val) = true → (timerOf d n.val).queue = c :: cs →
    exec (.capHeadRead n who) ⟨d, m, q, r⟩ = .next ⟨{ (wr (pgTmr n.val) Reg.TMR.CAP_POP_STAMP (wd c.stamp)
      (wr (pgTmr n.val) Reg.TMR.CAP_POP_INFO (wd (2 ^ 31 + c.edge * 2 ^ 16 + c.stamp / 2 ^ 32))
        (setTimer n.val { timerOf d n.val with queue := cs } d))) with resp := .data c.count false }, m, q, r⟩) ∧
  (∀ (d : Device) (m : Memory) (q r : List Instr) (n : Fin 64) (who : Requester), pageMapped d (pgTmr n.val) = true →
    (timerOf d n.val).queue = [] →
    exec (.capHeadRead n who) ⟨d, m, q, r⟩ =
      .next ⟨{ (wrB (pgTmr n.val) Reg.TMR.CAP_POP_INFO 31 false d) with resp := .data 0#32 false }, m, q, r⟩) ∧
  (∀ (d : Device) (m : Memory) (q r : List Instr) (p : Fin 24) (who : Requester) (x : PfeRes) (xs : List PfeRes),
    pageMapped d (pgPfe p.val) = true → (pfeOf d p.val).fifo = x :: xs →
    ∃ e, exec (.resHeadRead p who) ⟨d, m, q, r⟩ = .next ⟨e, m, q, r⟩ ∧
      e = { setPfe p.val { pfeOf d p.val with fifo := xs } d with regs := e.regs, resp := .data (resHeadWord x) false } ∧
      keptBut [(pgPfe p.val, Reg.PFE.RES_POP_INFO), (pgPfe p.val, Reg.PFE.RES_POP_STAMP), (pgPfe p.val, Reg.PFE.RES_POP_SEQ)] d e ∧
      rd e (pgPfe p.val) Reg.PFE.RES_POP_INFO = resInfoWord x ∧ rd e (pgPfe p.val) Reg.PFE.RES_POP_STAMP = wd x.req.stamp ∧
      rd e (pgPfe p.val) Reg.PFE.RES_POP_SEQ = x.req.seq) ∧
  (∀ (d : Device) (m : Memory) (q r : List Instr) (u : Fin 32) (who : Requester), pageMapped d (pgOlu u.val) = true →
    exec (.intLoRead u false who) ⟨d, m, q, r⟩ = .next ⟨{ setOlu u.val { oluOf d u.val with
      holdD := some (intPart (oluOf d u.val).intD 1, intPart (oluOf d u.val).intD 2) } d with
        resp := .data (intPart (oluOf d u.val).intD 0) false }, m, q, r⟩ ∧
    exec (.intLoRead u true who) ⟨d, m, q, r⟩ = .next ⟨{ setOlu u.val { oluOf d u.val with
      holdQ := some (intPart (oluOf d u.val).intQ 1, intPart (oluOf d u.val).intQ 2) } d with
        resp := .data (intPart (oluOf d u.val).intQ 0) false }, m, q, r⟩ ∧
    exec (.fePeakRead u who) ⟨d, m, q, r⟩ = .next ⟨{ wr (pgOlu u.val) Reg.OLU.FE_PEAK 0#32 d with
      resp := .data (rd d (pgOlu u.val) Reg.OLU.FE_PEAK) false }, m, q, r⟩) ∧
  (∀ (d : Device) (m : Memory) (q r : List Instr) (n : Fin 32) (who : Requester), pageMapped d (pgPos n.val) = true →
    exec (.ssiDataLoRead n who) ⟨d, m, q, r⟩ = .next ⟨{ setPos n.val { posOf d n.val with
      ssiHold := some (rd d (pgPos n.val) Reg.POS.SSI_DATA_HI, rd d (pgPos n.val) Reg.POS.SSI_STAMP_LO) } d with
        resp := .data (rd d (pgPos n.val) Reg.POS.SSI_DATA_LO) false }, m, q, r⟩) ∧
  (∀ (d : Device) (m : Memory) (q r : List Instr) (id : Fin 119) (who : Requester), pageMapped d pgMemerr = true →
    exec (.ceCntRead id who) ⟨d, m, q, r⟩ = .next ⟨{ wr pgMemerr (Reg.MEMERR.CE_CNT id.val) 0#32 d with
      resp := .data (rd d pgMemerr (Reg.MEMERR.CE_CNT id.val)) false }, m, q, r⟩ ∧
    exec (.ueCntRead id who) ⟨d, m, q, r⟩ = .next ⟨{ wr pgMemerr (Reg.MEMERR.UE_CNT id.val) 0#32 d with
      resp := .data (rd d pgMemerr (Reg.MEMERR.UE_CNT id.val)) false }, m, q, r⟩) ∧
  (∀ (d : Device) (m : Memory) (q r : List Instr) (i : Fin 2) (who : Requester) (t : TsEntry) (ts : List TsEntry),
    pageMapped d (pgEth i.val) = true → (ethOf d i.val).ts = t :: ts →
    ∃ e, exec (.tsHeadRead i who) ⟨d, m, q, r⟩ = .next ⟨e, m, q, r⟩ ∧
      e = { setEth i.val { ethOf d i.val with ts := ts } d with regs := e.regs, resp := .data (tsHead d i.val) false } ∧
      keptBut [(pgEth i.val, Reg.ETH.TS_POP_LO), (pgEth i.val, Reg.ETH.TS_POP_HI)] d e ∧
      rd e (pgEth i.val) Reg.ETH.TS_POP_LO = wd t.fines) ∧
  (∀ (d : Device) (m : Memory) (q r : List Instr) (who : Requester) (x : EvRec) (xs : List EvRec),
    pageMapped d pgEva = true → d.eva.log = x :: xs →
    ∃ e, exec (.logHeadRead who) ⟨d, m, q, r⟩ = .next ⟨e, m, q, r⟩ ∧
      e = { d with regs := e.regs, eva := { d.eva with log := xs }, resp := .data (wd x.seq) false } ∧
      keptBut [(pgEva, Reg.EVA.LOG_POP_INFO), (pgEva, Reg.EVA.LOG_POP_STAMP), (pgEva, Reg.EVA.LOG_POP_CODE)] d e ∧
      rd e pgEva Reg.EVA.LOG_POP_STAMP = wd x.stamp ∧ rd e pgEva Reg.EVA.LOG_POP_CODE = wd x.code) ∧
  (∀ (d : Device) (m : Memory) (q r : List Instr) (who : Requester), pageMapped d pgEva = true →
    exec (.pendPeakRead who) ⟨d, m, q, r⟩ = .next ⟨{ wr pgEva Reg.EVA.PEND_PEAK (wd (min 0xFFFF d.eva.pending.length)) d with
      resp := .data (rd d pgEva Reg.EVA.PEND_PEAK) false }, m, q, r⟩)

/-- The commands that move the slices of a modulator group.
The model's own choices that stand behind it: log entries 14, 49, 50, 51, 52, 128 and 148. -/
def Obligations.SliceRotation : Prop :=
  (∀ (d : Device) (m : Memory) (q r : List Instr) (g : Fin 8) (w : Wr), calm d = true → accepts d (pgModg g.val) Reg.MODG.CTL w = true →
    enabled d (pgModg g.val) = true →
    ∃ e, exec (.modgInit g w) ⟨d, m, q, r⟩ = .next ⟨e, m, q, r⟩ ∧ e = { d with regs := e.regs, resp := .error (.refused 0x81) } ∧
      keptBut [(pgModg g.val, hERR_CODE), (pgModg g.val, hERR_INFO)] d e) ∧
  (∀ (d : Device) (m : Memory) (q r : List Instr) (g : Fin 8) (w : Wr), calm d = true → accepts d (pgModg g.val) Reg.MODG.CTL w = true →
    enabled d (pgModg g.val) = false → d.sys.mode = .configure ∨ d.sys.mode = .hold ∨ d.sys.mode = .safe →
    exec (.modgInit g w) ⟨d, m, q, r⟩ = .next ⟨entered (wrB (pgModg g.val) Reg.MODG.CTL 3 true d) (pgModg g.val) Reg.MODG.CTL
      (withOnes w 8#32), m, q, r⟩) ∧
  (∀ (d : Device) (g : Fin 8) (w : Wr), bit w.data 3 = true → (modOf d g.val).initAt = none →
    let e := usable d (pgModg g.val) Reg.MODG.CTL w
    e = { d with regs := e.regs, modg := e.modg, pfe := e.pfe, soon := [] } ∧ keptBut [(pgModg g.val, Reg.MODG.CTL)] d e ∧
    rdB e (pgModg g.val) Reg.MODG.CTL 3 = true ∧ modOf e g.val = { modOf d g.val with initAt := some d.time.now, held := none } ∧
    ∀ p x, p < 24 → (pfeOf d p).run = some x → inGroup g.val x.req.chan = true → (pfeOf e p).run = some { x with inv := true }) ∧
  (∀ (d : Device) (m : Memory) (q r : List Instr) (g : Fin 8) (cals : List Cal) (t : Nat), (modOf d g.val).initAt = some t →
    t + 1064960 ≤ d.time.now → cals.length = 13 → cals.all (calPasses (mgRd d g.val Reg.MODG.LIN_LIM)) = true →
    mgRd d g.val Reg.MODG.SLICE_BAD = 0#32 →
    ∃ e, exec (.initDone g cals) ⟨d, m, q, r⟩ = .next ⟨e, m, q, r⟩ ∧ e = { d with regs := e.regs, modg := e.modg, eva := e.eva } ∧
      keptBut ([(pgModg g.val, Reg.MODG.CTL), (pgModg g.val, Reg.MODG.STAT)] ++ (List.range 12).map (fun c => (pgModg g.val, Reg.MODG.MAP c)) ++
        (List.range 13).map (fun s => (pgModg g.val, Reg.MODG.OFFS s)) ++ (List.range 13).map (fun s => (pgModg g.val, Reg.MODG.GAIN s)) ++
        raiseRegs (pgModg g.val)) d e ∧
      (modOf e g.val).initAt = none ∧ (modOf e g.val).needInit = false ∧ rdB e (pgModg g.val) Reg.MODG.CTL 3 = false ∧
      spareOf e g.val = 12 ∧ noSpare e g.val = false ∧
      (∀ c, c < 12 → sliceOf e g.val c = c ∧ chanDead e g.val c = false) ∧
      (∀ s c, cals[s]? = some c → mgRd e g.val (Reg.MODG.OFFS s) = c.z ∧ mgRd e g.val (Reg.MODG.GAIN s) = wd (calGain c))) ∧
  (∀ (d : Device) (m : Memory) (q r : List Instr) (g : Fin 8) (cal : Cal) (ho : List Word) (ch : Word) (ov : Bool) (t : Nat), stepReady d g.val = true →
    nextTarget d g.val = some t →
    ∃ e, exec (.rotationStepStart g cal ho ch ov) ⟨d, m, q, r⟩ = .next ⟨e, m, q, r⟩ ∧ e = { d with regs := e.regs, modg := e.modg } ∧
      keptBut [(pgModg g.val, Reg.MODG.STAT)] d e ∧ rdF e (pgModg g.val) Reg.MODG.STAT 4 4 = t ∧
      modOf e g.val = { modOf d g.val with
        rot := some { origin := d.time.now, target := t, cal := cal, ho := ho, chMean := ch, ovld := ov }
        nextOrigin := d.time.now + stepPer d g.val }) ∧
  (∀ (d : Device) (m : Memory) (q r : List Instr) (g : Fin 8) (x : Rotation), switchReady d g.val = true → (modOf d g.val).rot = some x →
    pinned d g.val x.target = false → x.target < 12 → spareOf d g.val < 13 →
    sliceBusy d (12 * g.val + x.target) (sliceOf d g.val x.target) = true →
    ∃ e, exec (.handoverSwitch g) ⟨d, m, q, r⟩ = .next ⟨e, m, q, r⟩ ∧ e = { d with regs := e.regs, modg := e.modg, eva := e.eva } ∧
      keptBut ([(pgModg g.val, Reg.MODG.OFFS (spareOf d g.val)), (pgModg g.val, Reg.MODG.GAIN (spareOf d g.val)),
        (pgModg g.val, Reg.MODG.MAP x.target), (pgModg g.val, Reg.MODG.HO_CNT), (pgModg g.val, Reg.MODG.OVLD)] ++
        raiseRegs (pgModg g.val)) d e ∧
      (sliceFull d g.val (spareOf d g.val) = none → mgRd e g.val Reg.MODG.OVLD = mgRd d g.val Reg.MODG.OVLD) ∧
      ((sliceFull d g.val (spareOf d g.val)).isSome = true → domainOn d (pgModg g.val) = true →
        rdB e (pgModg g.val) Reg.MODG.OVLD x.target = true ∧ rdB e (pgModg g.val) hIRQ_RAW (8 + x.target) = true) ∧
      sliceOf e g.val x.target = spareOf d g.val ∧ mgRd e g.val (Reg.MODG.OFFS (spareOf d g.val)) = x.cal.z ∧
      mgRd e g.val (Reg.MODG.GAIN (spareOf d g.val)) = wd (calGain x.cal) ∧
      mgRd e g.val Reg.MODG.HO_CNT = mgRd d g.val Reg.MODG.HO_CNT + 1#32 ∧
      (modOf e g.val).held = some (x.target, sliceOf d g.val x.target) ∧ (modOf e g.val).rot = none) ∧
  (∀ (d : Device) (m : Memory) (q r : List Instr) (g : Fin 8) (c s : Nat), (modOf d g.val).held = some (c, s) → s < 13 →
    sliceBusy d (12 * g.val + c) s = false → d.time.now < (modOf d g.val).nextOrigin →
    ∃ e, exec (.oldSliceRelease g) ⟨d, m, q, r⟩ = .next ⟨e, m, q, r⟩ ∧ e = { d with regs := e.regs, modg := e.modg } ∧
      keptBut [(pgModg g.val, Reg.MODG.STAT)] d e ∧ spareOf e g.val = s ∧ modOf e g.val = { modOf d g.val with held := none })

/-- What the analogue parts report, and the coefficients.
The model's own choices that stand behind it: log entries 14, 50 and 124. -/
def Obligations.SliceEvents : Prop :=
  (∀ (d : Device) (m : Memory) (q r : List Instr) (g : Fin 8) (sl : Fin 13) (pos : Bool), domainOn d (pgModg g.val) = true →
    asleep d = false → (modOf d g.val).rot = none →
    ∃ e, exec (.sliceOverload g sl pos) ⟨d, m, q, r⟩ = .next ⟨e, m, q, r⟩ ∧
      e = { d with regs := e.regs, modg := e.modg, eva := e.eva, pfe := e.pfe } ∧
      keptBut ((pgModg g.val, Reg.MODG.OVLD) :: raiseRegs (pgModg g.val)) d e ∧
      modOf e g.val = { modOf d g.val with full := (sl.val, pos) :: (modOf d g.val).full.filter (fun x => x.1 ≠ sl.val) } ∧
      ∀ c, c < 12 → sliceOf d g.val c = sl.val → chanDead d g.val c = false →
        rdB e (pgModg g.val) Reg.MODG.OVLD c = true ∧ rdB e (pgModg g.val) hIRQ_RAW (8 + c) = true) ∧
  (∀ (d : Device) (m : Memory) (q r : List Instr) (g : Fin 8) (sl : Fin 13),
    ∃ e, exec (.sliceOverloadEnd g sl) ⟨d, m, q, r⟩ = .next ⟨e, m, q, r⟩ ∧
      e = { setMod g.val { modOf d g.val with full := (modOf d g.val).full.filter (fun x => x.1 ≠ sl.val) } d with pfe := e.pfe } ∧
      ∀ p, pfeOf e p = { pfeOf d p with run := (pfeOf e p).run } ∧
        (pfeOf e p).run.map (fun z => (z.req, z.w, z.len, z.inv, z.ovl)) = (pfeOf d p).run.map (fun z => (z.req, z.w, z.len, z.inv, z.ovl))) ∧
  (∀ (d : Device) (m : Memory) (q r : List Instr) (g : Fin 8), domainOn d (pgModg g.val) = true → asleep d = false →
    rdB d (pgModg g.val) Reg.MODG.REF_STAT 0 = true →
    ∃ e, exec (.refFail g) ⟨d, m, q, r⟩ = .next ⟨e, m, q, r⟩ ∧ e = { d with regs := e.regs, modg := e.modg, eva := e.eva } ∧
      keptBut ([(pgModg g.val, Reg.MODG.REF_STAT), (pgModg g.val, Reg.MODG.FAIL_CNT), (pgModg g.val, Reg.MODG.STAT)] ++
        raiseRegs (pgModg g.val)) d e ∧
      rdB e (pgModg g.val) Reg.MODG.REF_STAT 0 = false ∧ rdB e (pgModg g.val) hIRQ_RAW 4 = true ∧ (modOf e g.val).rot = none ∧
      (∀ x, (modOf d g.val).rot = some x → mgRd e g.val Reg.MODG.FAIL_CNT = mgRd d g.val Reg.MODG.FAIL_CNT + 1#32 ∧
        rdF e (pgModg g.val) Reg.MODG.STAT 14 2 = 2 ∧ rdB e (pgModg g.val) hIRQ_RAW 1 = true)) ∧
  (∀ (d : Device) (m : Memory) (q r : List Instr) (g : Fin 8), domainOn d (pgModg g.val) = true → asleep d = false →
    exec (.refOkRestored g) ⟨d, m, q, r⟩ = .next ⟨wrB (pgModg g.val) Reg.MODG.REF_STAT 0 true d, m, q, r⟩) ∧
  (∀ (d : Device) (m : Memory) (q r : List Instr) (g : Fin 8) (sl : Fin 13) (gain : Bool) (w : Wr), calm d = true →
    accepts d (pgModg g.val) (if gain then Reg.MODG.GAIN sl.val else Reg.MODG.OFFS sl.val) w = true →
    (enabled d (pgModg g.val) = false ∨ sliceUsed d g.val sl.val = false →
      exec (.coefWrite g sl gain w) ⟨d, m, q, r⟩ =
        .next ⟨entered d (pgModg g.val) (if gain then Reg.MODG.GAIN sl.val else Reg.MODG.OFFS sl.val) w, m, q, r⟩) ∧
    (enabled d (pgModg g.val) = true → sliceUsed d g.val sl.val = true →
      ∃ e, exec (.coefWrite g sl gain w) ⟨d, m, q, r⟩ = .next ⟨e, m, q, r⟩ ∧ e = { d with regs := e.regs, resp := .error (.refused 0x80) } ∧
        keptBut [(pgModg g.val, hERR_CODE), (pgModg g.val, hERR_INFO)] d e)) ∧
  (∀ (d : Device) (g : Fin 8) (sl : Fin 13) (gain : Bool) (w : Wr), (∀ p, p < 24 → (pfeOf d p).run = none) →
    usable d (pgModg g.val) (if gain then Reg.MODG.GAIN sl.val else Reg.MODG.OFFS sl.val) w =
      wr (pgModg g.val) (if gain then Reg.MODG.GAIN sl.val else Reg.MODG.OFFS sl.val) w.data { d with soon := [] }) ∧
  (∀ (d : Device) (m : Memory) (q r : List Instr) (x : Fin 64), stuckWatched d x.val = true →
    ∃ e, exec (.xbsStuck x) ⟨d, m, q, r⟩ = .next ⟨e, m, q, r⟩ ∧ e = { d with regs := e.regs, eva := e.eva } ∧
      keptBut ((pgXbs, if x.val < 32 then Reg.XBS.XSTUCK_LO else Reg.XBS.XSTUCK_HI) :: raiseRegs pgXbs) d e ∧
      rdB e pgXbs (if x.val < 32 then Reg.XBS.XSTUCK_LO else Reg.XBS.XSTUCK_HI) (x.val % 32) = true ∧ rdB e pgXbs hIRQ_RAW 0 = true)

/-- R210's word and R212's counting.
The model's own choices that stand behind it: log entry 53. -/
def Obligations.FastPathOutputs : Prop :=
  (∀ (d : Device) (m : Memory) (q r : List Instr) (ch : Fin 160) (x : Word), fastDue d ch.val = true →
    ∃ e, exec (.fastOutput ch x) ⟨d, m, q, r⟩ = .next ⟨e, m, q, r⟩ ∧
      rd e (pgFf (ch.val / 16)) (Reg.FF.SMP (ch.val % 16)) = smpWord (fastValue d ch.val x).1.y (fastValue d ch.val x).1.inv
        (fullScale d ch.val).isSome (rdF d (pgFf (ch.val / 16)) (Reg.FF.SMP (ch.val % 16)) 0 6 + 1) ∧
      (filtOf e ch.val).hist = ((fastValue d ch.val x).1 :: (filtOf d ch.val).hist).take 4) ∧
  (∀ (d : Device) (m : Memory) (q r : List Instr) (ch : Fin 160) (x : Word), calm d = true → fastDue d ch.val = true →
    bandsOn d ch.val = [] → streamsOf d 1 = [] → streamsOf d 2 = [] → fld (cmpCfg d ch.val) 0 2 = 0 →
    rdB d (pgFf (ch.val / 16)) (Reg.FF.CFG (ch.val % 16)) 9 = false →
    ∃ e, exec (.fastOutput ch x) ⟨d, m, q, r⟩ = .next ⟨e, m, q, r⟩ ∧ e = { d with regs := e.regs, filt := e.filt, modg := e.modg } ∧
      keptBut [(pgFf (ch.val / 16), Reg.FF.SMP (ch.val % 16))] d e ∧
      rd e (pgFf (ch.val / 16)) (Reg.FF.SMP (ch.val % 16)) = smpWord (fastValue d ch.val x).1.y (fastValue d ch.val x).1.inv
        (fullScale d ch.val).isSome (rdF d (pgFf (ch.val / 16)) (Reg.FF.SMP (ch.val % 16)) 0 6 + 1) ∧
      (filtOf e ch.val).hist = ((fastValue d ch.val x).1 :: (filtOf d ch.val).hist).take 4 ∧
      (filtOf e ch.val).restart = (filtOf d ch.val).restart - 1 ∧ (∀ k, k ≠ ch.val → filtOf e k = filtOf d k)) ∧
  (∀ (d : Device) (ch : Nat) (y : Word), ch < 160 → bit (cmpCfg d ch) 0 = true →
    let cnt := max 1 (fld (cmpCfg d ch) 8 8)
    let thr := sw (rd d (pgFf (ch / 16)) (Reg.FF.THR_HI (ch % 16)))
    let back := max (thr - (rdF d (pgFf (ch / 16)) (Reg.FF.HYS (ch % 16)) 0 31 : Nat)) (-(2 ^ 31))
    let f := filtOf d ch
    let g := filtOf (comparators ch y d).1 ch
    (f.hi = false → sw y ≤ thr → g.hi = false ∧ g.hiRun = 0) ∧
    (f.hi = false → thr < sw y → f.hiRun + 1 < cnt → g.hi = false ∧ g.hiRun = f.hiRun + 1) ∧
    (f.hi = false → thr < sw y → cnt ≤ f.hiRun + 1 → g.hi = true ∧ g.hiRun = 0 ∧ (comparators ch y d).2.1 = true) ∧
    (f.hi = true → back ≤ sw y → g.hi = true ∧ g.hiRun = 0 ∧ (comparators ch y d).2.1 = false) ∧
    (f.hi = true → sw y < back → cnt ≤ f.hiRun + 1 → g.hi = false ∧ g.hiRun = 0))

/-- The precision filter engines' commands.
The model's own choices that stand behind it: log entries 14, 54 and 124. -/
def Obligations.Conversions : Prop :=
  (∀ (d : Device) (m : Memory) (q r : List Instr) (hi : Bool) (w : Wr), calm d = true →
    accepts d pgPfeseq (if hi then Reg.PFESEQ.SW_TRG_HI else Reg.PFESEQ.SW_TRG_LO) w = true →
    exec (.swTrg hi w) ⟨d, m, q, r⟩ =
      .next ⟨entered d pgPfeseq (if hi then Reg.PFESEQ.SW_TRG_HI else Reg.PFESEQ.SW_TRG_LO) w, m, q, r⟩) ∧
  (∀ (d : Device) (hi : Bool) (w : Wr), usable d pgPfeseq (if hi then Reg.PFESEQ.SW_TRG_HI else Reg.PFESEQ.SW_TRG_LO) w =
    { d with soon := [], swTrg := d.swTrg ||| (if hi then w.data.setWidth 64 <<< 32 else w.data.setWidth 64) }) ∧
  (∀ (d : Device) (t : Nat), t < 64 → d.swTrg = BitVec.ofNat 64 (2 ^ t) → fireEntries [] d = fireEntry t { d with swTrg := 0#64 }) ∧
  (∀ (d : Device) (t : Nat), t < 64 → trgArmed d t = true → pfeTakes d (fld (trgConv d t) 22 5) = true →
    (pfeOf d (fld (trgConv d t) 22 5)).queue.length < 16 →
    (pfeOf (fireEntry t d) (fld (trgConv d t) 22 5)).queue = queuePlace
      { due := d.time.now + rdF d pgPfeseq (Reg.PFESEQ.TRG_SRC t) 16 16, stamp := stampNow d
        seq := rd d (pgPfe (fld (trgConv d t) 22 5)) Reg.PFE.SEQ_NEXT, trg := t, chan := fld (trgConv d t) 0 8
        osr := fld (trgConv d t) 27 3, k := fld (trgConv d t) 14 8 + 1, urgent := bit (trgConv d t) 30 }
      (pfeOf d (fld (trgConv d t) 22 5)).queue ∧
    rdB (fireEntry t d) pgPfeseq (if t < 32 then Reg.PFESEQ.FIRED_LO else Reg.PFESEQ.FIRED_HI) (t % 32) = true) ∧
  (∀ (d : Device) (m : Memory) (q r : List Instr) (p : Fin 24) (x : PfeReq) (xs : List PfeReq), convReady d p.val = true →
    (pfeOf d p.val).queue = x :: xs → (pfeOf d p.val).run = none → x.chan < 96 → x.urgent = true ∨ (∀ y ∈ xs, y.urgent = false) →
    ∃ e, exec (.conversionStart p) ⟨d, m, q, r⟩ = .next ⟨e, m, q, r⟩ ∧ e = { d with regs := e.regs, eva := e.eva, pfe := e.pfe } ∧
      keptBut (raiseRegs (pgPfe p.val)) d e ∧
      rdB e (pgPfe p.val) hIRQ_RAW 4 = (rdB d (pgPfe p.val) hIRQ_RAW 4 || (decide (x.due < d.time.now) || decide (0 < x.restarts))) ∧
      pfeOf e p.val = { pfeOf d p.val with queue := xs, run := some {
        req := x, w := d.time.now, len := windowLen x.osr x.k, slice := some (sliceOf d (x.chan / 12) (x.chan % 12))
        segs := [{ first := d.time.now, step := 1, before := 0 }]
        marks := [{
          at_ := d.time.now, offs := mgRd d (x.chan / 12) (Reg.MODG.OFFS (sliceOf d (x.chan / 12) (x.chan % 12)))
          gain := mgRd d (x.chan / 12) (Reg.MODG.GAIN (sliceOf d (x.chan / 12) (x.chan % 12)))
          full := sliceFull d (x.chan / 12) (sliceOf d (x.chan / 12) (x.chan % 12)) }]
        late := decide (x.due < d.time.now) || decide (0 < x.restarts), inv := channelInvalid d x.chan
        ovl := (sliceFull d (x.chan / 12) (sliceOf d (x.chan / 12) (x.chan % 12))).isSome } }) ∧
  (∀ (d : Device) (m : Memory) (q r : List Instr) (p : Fin 24) (x : PfeReq) (xs : List PfeReq) (y : PfeRun), convReady d p.val = true →
    (pfeOf d p.val).queue = x :: xs → (pfeOf d p.val).run = some y → x.chan < 96 →
    ∃ e, exec (.conversionStart p) ⟨d, m, q, r⟩ = .next ⟨e, m, q, r⟩ ∧ e = { d with regs := e.regs, eva := e.eva, pfe := e.pfe } ∧
      keptBut ((pgPfe p.val, Reg.PFE.RESTART_CNT) :: raiseRegs (pgPfe p.val)) d e ∧
      rd e (pgPfe p.val) Reg.PFE.RESTART_CNT = rd d (pgPfe p.val) Reg.PFE.RESTART_CNT + 1#32 ∧ rdB e (pgPfe p.val) hIRQ_RAW 3 = true ∧
      (pfeOf e p.val).queue = queueReturn { y.req with restarts := min 15 (y.req.restarts + 1) } xs ∧
      (pfeOf e p.val).run.map (fun z => (z.req, z.w)) = some (x, d.time.now)) ∧
  (∀ (d : Device) (m : Memory) (q r : List Instr) (p : Fin 24) (outs : List Word) (y : PfeRun), (pfeOf d p.val).run = some y →
    runEnd y ≤ d.time.now → outs.length = y.req.k →
    exec (.conversionEnd p outs) ⟨d, m, q, r⟩ = .next ⟨setPfe p.val { pfeOf d p.val with
      run := none
      finished := (pfeOf d p.val).finished ++ [{
        value := if y.inv then 0 else wrapN 24 (satI 24 (roundEven
          (roundEven (((runOutputs (outs.map (xbsValue d y.req.chan)) y).map sw).foldl (· + ·) 0) (max 1 outs.length)) 256))
        req := y.req, late := y.late, inv := y.inv, ovl := y.ovl }] } d, m, q, r⟩) ∧
  (∀ (outs : List Word) (y : PfeRun) (x : RunMark) (g : RunSeg), y.marks = [x] → y.segs = [g] → g.before = 0 → x.at_ ≤ g.first → x.full = none →
    runOutputs outs y = outs.map (fun o => corrected o x.offs x.gain)) ∧
  (∀ (d : Device) (m : Memory) (q r : List Instr) (p : Fin 24) (x : PfeRes) (xs : List PfeRes), (pfeOf d p.val).finished = x :: xs →
    streamsOf d 3 = [] →
    ∃ e, exec (.resultAppend p) ⟨d, m, q, r⟩ = .next ⟨e, m, q, r⟩ ∧
      e = { d with regs := e.regs, eva := e.eva, pfe := e.pfe, latest := d.latest.insert (p.val * 256 + x.req.chan) {
        at_ := d.time.now, res := x
        prev := match d.latest.find? (p.val * 256 + x.req.chan) with
          | some l => if l.at_ = d.time.now then l.prev else some l.res
          | none => none } } ∧
      keptBut ((pgPfe p.val, Reg.PFE.RES_STAT) :: raiseRegs (pgPfe p.val)) d e ∧
      ((pfeOf d p.val).fifo.length < 32 → pfeOf e p.val = { pfeOf d p.val with finished := xs, fifo := (pfeOf d p.val).fifo ++ [x] } ∧
        rd e (pgPfe p.val) Reg.PFE.RES_STAT = rd d (pgPfe p.val) Reg.PFE.RES_STAT ∧
        (domainOn d (pgPfe p.val) = true → rdB e (pgPfe p.val) hIRQ_RAW 0 = true)) ∧
      (32 ≤ (pfeOf d p.val).fifo.length → pfeOf e p.val = { pfeOf d p.val with finished := xs } ∧
        rdF e (pgPfe p.val) Reg.PFE.RES_STAT 16 16 = min 0xFFFF (rdF d (pgPfe p.val) Reg.PFE.RES_STAT 16 16 + 1) ∧
        rdB e (pgPfe p.val) Reg.PFE.RES_STAT 8 = true))

/-- R247's law with R248's dwell, as the command's effect, on the registers that the evaluation began with (R243).
The model's own choices that stand behind it: log entries 41, 42, 56, 57 and 142. -/
def Obligations.BandEngines : Prop :=
  (∀ (d : Device) (m : Memory) (q r : List Instr) (n : Fin 128), (bandOf d n.val).wait = none →
    exec (.bandEvaluation n) ⟨d, m, q, r⟩ = .next ⟨d, m, q, r⟩) ∧
  (∀ (d : Device) (m : Memory) (q r : List Instr) (n : Fin 128) (i : BandIn), (bandOf d n.val).wait = some i → i.out.inv = true →
    legMode d n.val ≠ 2 ∨ (legOf d n.val).stage = .follow → domainOn d (pgBe n.val) = true →
    ∃ e, exec (.bandEvaluation n) ⟨d, m, q, r⟩ = .next ⟨e, m, q, r⟩ ∧ e = { d with regs := e.regs, eva := e.eva, band := e.band } ∧
      keptBut ([(pgBe n.val, Reg.BE.INV_CNT), (pgBe n.val, Reg.BE.STAT)] ++ raiseRegs (pgBe n.val)) d e ∧
      beRd e n.val Reg.BE.INV_CNT = beRd d n.val Reg.BE.INV_CNT + 1#32 ∧ rdB e (pgBe n.val) Reg.BE.STAT 5 = true ∧
      rdB e (pgBe n.val) hIRQ_RAW 1 = true ∧ bandOf e n.val = { bandOf d n.val with wait := none }) ∧
  (∀ (d : Device) (m : Memory) (q r : List Instr) (n : Fin 128) (i : BandIn) (ref : Word), (bandOf d n.val).wait = some i →
    i.out.inv = false → (byTable i = false ∧ ref = bandReg i Reg.BE.REF) ∨ (byTable i = true ∧ ∃ w, i.entry = some (some w) ∧ ref = tblRef i w) ∨
      (byTable i = true ∧ i.entry = none ∧ tblOffset (bandReg i Reg.BE.TBL_BASE) i.ix = none ∧ ref = tblRef i 0#32) →
    legMode d n.val ≠ 2 ∨ (legOf d n.val).stage = .follow → bandRegF i Reg.BE.SUP_CFG 0 16 = 0 → bit (bandReg i Reg.BE.CFG) 12 = false →
    let err := satI 32 (sw ref - bandMeas i)
    let b := bandOf d n.val
    let want := bandRequest (bandRegF i Reg.BE.BAND_HI 0 31) (bandRegF i Reg.BE.BAND_LO 0 31) err b.state
    let moves := decide (want ≠ b.state) &&
      (decide (b.state = .off) || decide (b.since + dwellOf (bandReg i Reg.BE.DWELL) b.state ≤ i.out.tick))
    ∃ e, exec (.bandEvaluation n) ⟨d, m, q, r⟩ = .next ⟨e, m, q, r⟩ ∧ e = { d with regs := e.regs, band := e.band } ∧
      keptBut [(pgBe n.val, Reg.BE.ERR), (pgBe n.val, Reg.BE.SW_CNT)] d e ∧ beRd e n.val Reg.BE.ERR = wdI err ∧
      (bandOf e n.val).state = (if moves then want else b.state) ∧
      (bandOf e n.val).since = (if moves then d.time.now + 2 else b.since) ∧
      (bandOf e n.val).due = (if moves then b.due ++ [(d.time.now + 2, want)] else b.due) ∧
      (bandOf e n.val).wait = none ∧ (bandOf e n.val).refUsed = ref ∧
      beRd e n.val Reg.BE.SW_CNT = (if moves then beRd d n.val Reg.BE.SW_CNT + 1#32 else beRd d n.val Reg.BE.SW_CNT)) ∧
  (∀ (d : Device) (m : Memory) (q r : List Instr) (n : Fin 128) (i : BandIn), (bandOf d n.val).wait = some i → i.out.inv = false →
    byTable i = true → i.entry = some none → legMode d n.val ≠ 2 ∨ (legOf d n.val).stage = .follow → domainOn d (pgBe n.val) = true →
    ∃ e, exec (.bandEvaluation n) ⟨d, m, q, r⟩ = .next ⟨e, m, q, r⟩ ∧ e = { d with regs := e.regs, eva := e.eva, band := e.band } ∧
      keptBut ((pgBe n.val, Reg.BE.STAT) :: raiseRegs (pgBe n.val)) d e ∧ rdB e (pgBe n.val) Reg.BE.STAT 6 = true ∧
      rdB e (pgBe n.val) hIRQ_RAW 2 = true ∧ bandOf e n.val = { bandOf d n.val with wait := none }) ∧
  (∀ (d : Device) (m : Memory) (q r : List Instr) (n : Fin 128) (i : BandIn), (bandOf d n.val).wait = some i → i.out.inv = false →
    byTable i = true → i.entry = none →
    exec (.bandEvaluation n) ⟨d, m, q, r⟩ = .next ⟨withEdges (fun d =>
      let e := tableEntry (tblOffset (bandReg i Reg.BE.TBL_BASE) i.ix) m d
      bandEvaluate n.val i e.1 e.2) d, m, q, r⟩) ∧
  (∀ (d : Device) (n t : Nat) (st : LegState), n < 128 → (bandOf d n).due = [(t, st)] → t ≤ d.time.now → legMode d n = 2 →
    (∀ k, k ≠ n → (bandOf d k).due = []) →
    bandTick d = setLegState n (nowF d) false st (setBand n { bandOf d n with due := [] } d))

/-- The outer loop unit's commands.
The model's own choices that stand behind it: log entries 14, 58, 59 and 60. -/
def Obligations.OuterLoops : Prop :=
  (∀ (d : Device) (m : Memory) (q r : List Instr) (u : Fin 32),
    (oluOf d u.val).trig = none → exec (.oluEvaluation u) ⟨d, m, q, r⟩ = .next ⟨d, m, q, r⟩) ∧
  (∀ (d : Device) (m : Memory) (q r : List Instr) (u : Fin 32) (t : Nat), (oluOf d u.val).trig = some t →
    rdB d (pgOlu u.val) Reg.OLU.BANK 0 = false →
    ∃ x, exec (.oluEvaluation u) ⟨d, m, q, r⟩ = .next ⟨x, m, q, r⟩ ∧ x = { d with regs := x.regs, olu := x.olu } ∧
      keptBut [(pgOlu u.val, Reg.OLU.BANK), (pgOlu u.val, Reg.OLU.STAT), (pgOlu u.val, Reg.OLU.ANG_USED)] d x ∧
      (oluOf x u.val).trig = none ∧ rdB x (pgOlu u.val) Reg.OLU.BANK 1 = false ∧
      (oluOf x u.val).intD = (if rdB d (pgOlu u.val) Reg.OLU.BANK 1 then 0 else (oluOf d u.val).intD) ∧
      (oluOf x u.val).intQ = (if rdB d (pgOlu u.val) Reg.OLU.BANK 1 then 0 else (oluOf d u.val).intQ) ∧
      oluRd x u.val Reg.OLU.ANG_USED = (if oluModeOf (oluRd d u.val Reg.OLU.CFG) = 0 then oluRd d u.val Reg.OLU.ANG_USED
        else if bit (oluRd d u.val Reg.OLU.CFG) 23 then
          posRd d (fld (oluRd d u.val Reg.OLU.CFG) 24 5) Reg.POS.COUNT * oluRd d u.val Reg.OLU.ANG_MUL + oluRd d u.val Reg.OLU.ANG_OFFS
        else oluRd d u.val Reg.OLU.ANG_REG) ∧
      ∃ e, (oluOf x u.val).run = some e ∧ e.trig = t ∧ (∀ off, off ∈ oluTaken → taken e off = oluRd d u.val off) ∧
        e.fa = (oluInput d u.val (fbKindOf (oluRd d u.val Reg.OLU.CFG)) (fld (oluRd d u.val Reg.OLU.FB_SEL) 24 5)
          (fld (oluRd d u.val Reg.OLU.FB_SEL) 0 8) t).raw) ∧
  (∀ (d : Device) (m : Memory) (q r : List Instr) (u : Fin 32) (t : Nat), (oluOf d u.val).trig = some t →
    rdB d (pgOlu u.val) Reg.OLU.BANK 0 = true → domainOn d (pgOlu u.val) = true →
    ∃ x, exec (.oluEvaluation u) ⟨d, m, q, r⟩ = .next ⟨x, m, q, r⟩ ∧ (oluOf x u.val).trig = none ∧
      (∀ i, i < 8 → oluRd x u.val (Reg.OLU.ACT i) = oluRd d u.val (Reg.OLU.SHD i) ∧
        oluRd x u.val (Reg.OLU.SHD i) = oluRd d u.val (Reg.OLU.ACT i)) ∧
      rdB x (pgOlu u.val) Reg.OLU.BANK 8 = (!rdB d (pgOlu u.val) Reg.OLU.BANK 8) ∧ rdB x (pgOlu u.val) Reg.OLU.BANK 0 = false ∧
      rdB x (pgOlu u.val) hIRQ_RAW 6 = true) ∧
  (∀ (d : Device) (m : Memory) (q r : List Instr) (u : Fin 32) (e : OluEval), (oluOf d u.val).run = some e →
    oluOverdue d u.val = false → e.inv = true →
    exec (.oluCommit u) ⟨d, m, q, r⟩ = .next ⟨raise (pgOlu u.val) 2 (wrB (pgOlu u.val) Reg.OLU.STAT 5 true
      (setOlu u.val { oluOf d u.val with run := none } d)), m, q, r⟩) ∧
  (∀ (d : Device) (m : Memory) (q r : List Instr) (u : Fin 32) (e : OluEval), (oluOf d u.val).run = some e →
    oluOverdue d u.val = false → e.inv = false →
    oluModeOf (taken e Reg.OLU.CFG) = 0 → taken e Reg.OLU.TGT_SEL = 0#32 → taken e Reg.OLU.FE_LIM = 0x7FFFFFFF#32 →
    let er := oluErrors e
    let ax := oluAxis e er.1.1 er.1.2 (taken e Reg.OLU.FF_D) (oluOf d u.val).intD (oluRd d u.val Reg.OLU.OUT_D)
    ∃ x, exec (.oluCommit u) ⟨d, m, q, r⟩ = .next ⟨x, m, q, r⟩ ∧ x = { d with regs := x.regs, eva := x.eva, olu := x.olu } ∧
      keptBut ([(pgOlu u.val, Reg.OLU.OUT_D), (pgOlu u.val, Reg.OLU.ERR_D), (pgOlu u.val, Reg.OLU.STAT), (pgOlu u.val, Reg.OLU.EVAL_CNT),
        (pgOlu u.val, Reg.OLU.FE_PEAK)] ++ raiseRegs (pgOlu u.val)) d x ∧
      oluRd x u.val Reg.OLU.OUT_D = wdI ax.out ∧ oluRd x u.val Reg.OLU.ERR_D = wdI er.1.2 ∧
      oluRd x u.val Reg.OLU.EVAL_CNT = oluRd d u.val Reg.OLU.EVAL_CNT + 1#32 ∧ (oluOf x u.val).intD = ax.integ ∧
      (oluOf x u.val).intQ = (oluOf d u.val).intQ ∧ (oluOf x u.val).run = none ∧ (oluOf x u.val).feRun = none) ∧
  (∀ (d : Device) (m : Memory) (q r : List Instr) (u : Fin 32), oluOverdue d u.val = true →
    exec (.oluCommit u) ⟨d, m, q, r⟩ = .next ⟨raise (pgOlu u.val) 1 (bump (pgOlu u.val) Reg.OLU.MISS_CNT
      (wrB (pgOlu u.val) Reg.OLU.STAT 4 true (setOlu u.val { oluOf d u.val with run := none, trig := none } d))), m, q, r⟩) ∧
  (∀ (d : Device) (m : Memory) (q r : List Instr) (u : Fin 32), oluLate d u.val = true →
    exec (.oluMiss u) ⟨d, m, q, r⟩ = .next ⟨raise (pgOlu u.val) 1 (bump (pgOlu u.val) Reg.OLU.MISS_CNT
      (wrB (pgOlu u.val) Reg.OLU.STAT 4 true (setOlu u.val { oluOf d u.val with run := none, trig := none } d))), m, q, r⟩) ∧
  (∀ (d : Device) (m : Memory) (q r : List Instr) (u : Fin 32) (w : Wr), calm d = true → accepts d (pgOlu u.val) Reg.OLU.BANK w = true →
    exec (.bankSwap u w) ⟨d, m, q, r⟩ = .next ⟨entered d (pgOlu u.val) Reg.OLU.BANK (withOnes w 1#32), m, q, r⟩ ∧
    exec (.intClr u w) ⟨d, m, q, r⟩ = .next ⟨entered d (pgOlu u.val) Reg.OLU.BANK (withOnes w 2#32), m, q, r⟩ ∧
    bit (pageView (pgOlu u.val) Reg.OLU.BANK (entered d (pgOlu u.val) Reg.OLU.BANK (withOnes w 1#32))) 0 = true ∧
    bit (pageView (pgOlu u.val) Reg.OLU.BANK (entered d (pgOlu u.val) Reg.OLU.BANK (withOnes w 2#32))) 1 = true) ∧
  (∀ (d : Device) (u : Fin 32) (w : Wr),
    (w.data = 1#32 → usable d (pgOlu u.val) Reg.OLU.BANK w = wrB (pgOlu u.val) Reg.OLU.BANK 0 true { d with soon := [] }) ∧
    (w.data = 2#32 → usable d (pgOlu u.val) Reg.OLU.BANK w = wrB (pgOlu u.val) Reg.OLU.BANK 1 true { d with soon := [] }))

/-- Counting in every mode, through the move that the mode gives.
The model's own choices that stand behind it: log entries 14, 62 and 63. -/
def Obligations.PositionCounting : Prop :=
  (∀ (d : Device) (m : Memory) (q r : List Instr) (n : Fin 32) (a b z : Bool), posSampleDue d n.val = false →
    exec (.posLevelRecognised n a b z) ⟨d, m, q, r⟩ = .next ⟨setPos n.val { posOf d n.val with
      la := { (posOf d n.val).la with pin := a }, lb := { (posOf d n.val).lb with pin := b },
      lz := { (posOf d n.val).lz with pin := z } } d, m, q, r⟩) ∧
  (∀ (d : Device) (m : Memory) (q r : List Instr) (n : Fin 32) (a b z : Bool), posSampleDue d n.val = true →
    let p := posOf d n.val
    let flt := rdF d (pgPos n.val) Reg.POS.CFG 16 8
    let la := lineSample d.posNo (if posOn d n.val = true ∧ posMode d n.val = 4 then ssiClock d n.val else a) { p.la with pin := a }
    let lb := lineSample d.posNo b { p.lb with pin := b }
    let lz := lineSample d.posNo z { p.lz with pin := z }
    let a' := lineLevel d.posNo flt la p.a
    let b' := lineLevel d.posNo flt lb p.b
    let z' := lineLevel d.posNo flt lz p.z
    let x : Pos := { p with la := la, lb := lb, lz := lz, sampled := d.posNo, a := a', b := b', z := z' }
    ∃ e, exec (.posLevelRecognised n a b z) ⟨d, m, q, r⟩ = .next ⟨e, m, q, r⟩ ∧
      e = { d with regs := e.regs, eva := e.eva, pos := e.pos } ∧ (∀ k, k ≠ n.val → posOf e k = posOf d k) ∧
      ((a' = p.a ∧ b' = p.b ∧ z' = p.z) ∨ posOn d n.val = false → e = { d with pos := e.pos } ∧ posOf e n.val = x) ∧
      (posOn d n.val = true → indexHit d n.val a' b' z' = false → posMove d n.val a' b' z' = .none →
        e = { d with pos := e.pos } ∧ posOf e n.val = x) ∧
      (∀ s, posOn d n.val = true → indexHit d n.val a' b' z' = false → posMove d n.val a' b' z' = .step s → posCfgB d n.val 4 = false →
        let t := if posCfgB d n.val 5 then -s else s
        let v := wd (((posRd d n.val Reg.POS.RAW).toNat + t) % ((posModulus d n.val : Nat) : Int)).toNat
        keptBut [(pgPos n.val, Reg.POS.RAW), (pgPos n.val, Reg.POS.COUNT), (pgPos n.val, Reg.POS.STAT)] d e ∧
        posRd e n.val Reg.POS.RAW = v ∧ posRd e n.val Reg.POS.COUNT = v ∧ rdB e (pgPos n.val) Reg.POS.STAT 0 = decide (t < 0) ∧
        (posOf e n.val).a = a' ∧ (posOf e n.val).b = b' ∧ (posOf e n.val).z = z') ∧
      (posOn d n.val = true → indexHit d n.val a' b' z' = false → posMove d n.val a' b' z' = .err →
        keptBut ([(pgPos n.val, Reg.POS.STAT), (pgPos n.val, Reg.POS.QERR_CNT)] ++ raiseRegs (pgPos n.val)) d e ∧ posOf e n.val = x ∧
        rdB e (pgPos n.val) Reg.POS.STAT 10 = true ∧ posRd e n.val Reg.POS.QERR_CNT = posRd d n.val Reg.POS.QERR_CNT + 1#32 ∧
        rdB e (pgPos n.val) hIRQ_RAW 2 = true) ∧
      (posOn d n.val = true → indexHit d n.val a' b' z' = true → posMove d n.val a' b' z' = .none → rdF d (pgPos n.val) Reg.POS.CFG 8 2 ≠ 2 →
        posOf e n.val = x ∧
        (rdB d (pgPos n.val) Reg.POS.STAT 6 = false → posRd e n.val Reg.POS.IDX_CNT = posRd d n.val Reg.POS.RAW ∧
          posRd e n.val Reg.POS.IDX_STAMP_LO = wd (stampNow d) ∧ posRd e n.val Reg.POS.IDX_STAMP_HI = wd (stampNow d / 2 ^ 32) ∧
          rdB e (pgPos n.val) Reg.POS.STAT 6 = true ∧ rdB e (pgPos n.val) hIRQ_RAW 0 = true) ∧
        (rdB d (pgPos n.val) Reg.POS.STAT 6 = true → posRd e n.val Reg.POS.IDX_CNT = posRd d n.val Reg.POS.IDX_CNT ∧
          rdB e (pgPos n.val) Reg.POS.STAT 7 = true ∧ rdB e (pgPos n.val) hIRQ_RAW 6 = true))) ∧
  (∀ a b a' b' : Bool, quadMove a b a' b' = if a = a' ∧ b = b' then .none else if a ≠ a' ∧ b ≠ b' then .err
    else if (a == b) = (a ≠ a') then .step 1 else .step (-1)) ∧
  (∀ (d : Device) (m : Memory) (q r : List Instr) (n : Fin 32) (w : Wr), calm d = true → accepts d (pgPos n.val) Reg.POS.COUNT w = true →
    exec (.posCountWrite n w) ⟨d, m, q, r⟩ = .next ⟨entered d (pgPos n.val) Reg.POS.COUNT w, m, q, r⟩) ∧
  (∀ (d : Device) (n : Fin 32) (w : Wr),
    let e := usable d (pgPos n.val) Reg.POS.COUNT w
    e = { d with regs := e.regs, pos := e.pos, soon := [] } ∧
    keptBut [(pgPos n.val, Reg.POS.RAW), (pgPos n.val, Reg.POS.COUNT)] d e ∧
    posRd e n.val Reg.POS.COUNT = wd (w.data.toNat % posModulus d n.val) ∧
    posRd e n.val Reg.POS.RAW = wd (w.data.toNat % posModulus d n.val))

/-- The commands of spec/08 other than counting.
The model's own choices that stand behind it: log entries 9, 14, 61, 62 and 63. -/
def Obligations.ProbesSpeedSsi : Prop :=
  (∀ (d : Device) (m : Memory) (q r : List Instr) (n : Fin 32) (level : Bool), probeOpen d n.val = false →
    exec (.probe n level) ⟨d, m, q, r⟩ = .next ⟨setPos n.val { posOf d n.val with lp := { (posOf d n.val).lp with pin := level } } d, m, q, r⟩) ∧
  (∀ (d : Device) (m : Memory) (q r : List Instr) (n : Fin 32) (level : Bool), probeOpen d n.val = true →
    let p := posOf d n.val
    let l := lineSample d.time.now level { p.lp with pin := level }
    let v := lineLevel d.time.now (rdF d (pgPos n.val) Reg.POS.PRB_CFG 16 8) l p.prb
    let back := d.time.now - l.since
    let stamp := (d.time.tl - BitVec.ofNat 64 back).toNat % 2 ^ 48
    ∃ e, exec (.probe n level) ⟨d, m, q, r⟩ = .next ⟨e, m, q, r⟩ ∧ e = { d with regs := e.regs, eva := e.eva, pos := e.pos } ∧
      posOf e n.val = { p with lp := l, prbAt := some d.time.now, prb := v } ∧ (∀ k, k ≠ n.val → posOf e k = posOf d k) ∧
      keptBut ([(pgPos n.val, Reg.POS.PRB_CNT), (pgPos n.val, Reg.POS.PRB_STAMP_LO), (pgPos n.val, Reg.POS.PRB_STAMP_HI),
        (pgPos n.val, Reg.POS.STAT)] ++ raiseRegs (pgPos n.val)) d e ∧
      (v = p.prb ∨ posOn d n.val = false → e = { d with pos := e.pos }) ∧
      (posOn d n.val = true → v ≠ p.prb → bit (rd d (pgPos n.val) Reg.POS.PRB_CFG) (if v then 8 else 9) = true →
        (rdB d (pgPos n.val) Reg.POS.STAT 8 = false →
          posRd e n.val Reg.POS.PRB_CNT = rawAt d (rdF d (pgPos n.val) Reg.POS.PRB_CFG 0 5) (d.time.now - back) ∧
          posRd e n.val Reg.POS.PRB_STAMP_LO = wd stamp ∧
          posRd e n.val Reg.POS.PRB_STAMP_HI = wd ((if v then 1 else 2) * 2 ^ 16 + stamp / 2 ^ 32) ∧
          rdB e (pgPos n.val) Reg.POS.STAT 8 = true ∧ rdB e (pgPos n.val) hIRQ_RAW 1 = true) ∧
        (rdB d (pgPos n.val) Reg.POS.STAT 8 = true → posRd e n.val Reg.POS.PRB_CNT = posRd d n.val Reg.POS.PRB_CNT ∧
          rdB e (pgPos n.val) Reg.POS.STAT 9 = true ∧ rdB e (pgPos n.val) hIRQ_RAW 6 = true))) ∧
  (∀ (d : Device) (m : Memory) (q r : List Instr) (n : Fin 32), windowDue d n.val = true → tlRuns d = true →
    (posOf d n.val).winSkip = false → posRd d n.val Reg.POS.MODULO = 0#32 →
    ∃ e, exec (.speedWindowEnd n) ⟨d, m, q, r⟩ = .next ⟨e, m, q, r⟩ ∧ e = { d with regs := e.regs, pos := e.pos } ∧
      keptBut [(pgPos n.val, Reg.POS.CNT_WIN)] d e ∧
      posRd e n.val Reg.POS.CNT_WIN = posRd d n.val Reg.POS.COUNT - (posOf d n.val).winBase ∧
      posOf e n.val = { posOf d n.val with winBase := posRd d n.val Reg.POS.COUNT, winDone := tickMark d, winSh := winShift d n.val }) ∧
  (∀ (d : Device) (m : Memory) (q r : List Instr) (n : Fin 32), timeoutDue d n.val = true →
    exec (.speedTimeout n) ⟨d, m, q, r⟩ = .next ⟨setPos n.val { posOf d n.val with timedOut := true } d, m, q, r⟩) ∧
  (∀ (d : Device) (m : Memory) (q r : List Instr) (n : Fin 32) (w : Wr), calm d = true → accepts d (pgPos n.val) Reg.POS.SSI_CTL w = true →
    exec (.ssiStart n w) ⟨d, m, q, r⟩ = .next ⟨entered d (pgPos n.val) Reg.POS.SSI_CTL (withOnes w 1#32), m, q, r⟩) ∧
  (∀ (d : Device) (n : Fin 32) (w : Wr), bit w.data 0 = true → posOn d n.val = true → posMode d n.val = 4 →
    let e := usable d (pgPos n.val) Reg.POS.SSI_CTL w
    ((posOf d n.val).ssi = none → (posOf d n.val).b = true → e = { d with pos := e.pos, soon := [] } ∧
      (posOf e n.val).ssi.map (fun f => (f.f, f.stamp, f.bits)) = some (d.time.now, stampNow d, [])) ∧
    (∀ f, (posOf d n.val).ssi = some f → e = ssiError n.val 2 { d with soon := [] }) ∧
    ((posOf d n.val).ssi = none → (posOf d n.val).b = false → e = ssiError n.val 0 { d with soon := [] })) ∧
  (∀ (d : Device) (m : Memory) (q r : List Instr) (n : Fin 32) (f : SsiFrame), ssiDone d n.val = true → (posOf d n.val).ssi = some f →
    domainOn d (pgPos n.val) = true →
    ∃ e, exec (.ssiFrameComplete n) ⟨d, m, q, r⟩ = .next ⟨e, m, q, r⟩ ∧ e = { d with regs := e.regs, eva := e.eva, pos := e.pos } ∧
      (posOf e n.val).ssi = none ∧ posRd e n.val Reg.POS.SSI_DATA_LO = wd (bitsNum f.bits) ∧ posRd e n.val Reg.POS.SSI_STAMP_LO = wd f.stamp ∧
      rdB e (pgPos n.val) hIRQ_RAW 3 = true ∧
      (f.bits.all (fun b => b) = true → rdF e (pgPos n.val) Reg.POS.STAT 14 2 = 1 ∧ rdB e (pgPos n.val) Reg.POS.STAT 13 = true ∧
        rdB e (pgPos n.val) hIRQ_RAW 4 = true ∧ posRd e n.val Reg.POS.COUNT = posRd d n.val Reg.POS.COUNT) ∧
      (f.bits.all (fun b => b) = false → (posOf d n.val).ssiPrev = none → rdF d (pgPos n.val) Reg.POS.SSI_CFG 6 8 = 0 →
        posRd e n.val Reg.POS.COUNT = wd (bitsNum (f.bits.take f.len) % 2 ^ min 32 f.len % posModulus d n.val)))

/-- The page commands of a core, and its halt.
The model's own choices that stand behind it: log entries 3, 30, 34 and 72. -/
def Obligations.CoreControl : Prop :=
  (∀ (d : Device) (m : Memory) (q r : List Instr) (k : Fin 36) (w : Wr), calm d = true →
    accepts d (pgCore k.val) Reg.CORE.CTL (withOnes w 1#32) = true →
    (coreCtl d k.val 0 = false → ∃ e, exec (.coreStart k w) ⟨d, m, q, r⟩ = .next ⟨e, m, q, r⟩ ∧
      e = { d with regs := e.regs, core := e.core, resp := .done } ∧ keptBut [(pgCore k.val, Reg.CORE.CTL)] d e ∧
      coreCtl e k.val 0 = true ∧ coreCtl e k.val 1 = bit w.data 1 ∧ (∀ j, j ≠ k.val → coreOf e j = coreOf d j) ∧
      coreOf e k.val = (let c : Core := { pc := rd d (pgCore k.val) Reg.CORE.START_PC, rstReq := (coreOf d k.val).rstReq, rstAt := (coreOf d k.val).rstAt }
        if bit w.data 1 then setSr 0 0x103#32 c else c)) ∧
    (coreCtl d k.val 0 = true → bit w.data 1 ≠ coreCtl d k.val 1 → ∃ e, exec (.coreStart k w) ⟨d, m, q, r⟩ = .next ⟨e, m, q, r⟩ ∧
      e = { d with regs := e.regs, resp := .error (.refused 0x80) } ∧
      keptBut [(pgCore k.val, hERR_CODE), (pgCore k.val, hERR_INFO)] d e)) ∧
  (∀ (d : Device) (m : Memory) (q r : List Instr) (k : Fin 36) (w : Wr), calm d = true →
    accepts d (pgCore k.val) Reg.CORE.CACHE_CTL w = true →
    (∃ e, exec (.cacheDinv k w) ⟨d, m, q, r⟩ = .next ⟨e, m, q, r⟩ ∧ e = { d with core := e.core, resp := .done } ∧
      (∀ j, j ≠ k.val → coreOf e j = coreOf d j) ∧ coreOf e k.val = { coreOf d k.val with
        dcache := [], icache := if bit w.data 0 then [] else (coreOf d k.val).icache,
        lbuf := if bit w.data 0 then [] else (coreOf d k.val).lbuf }) ∧
    (∃ e, exec (.cacheIinv k w) ⟨d, m, q, r⟩ = .next ⟨e, m, q, r⟩ ∧ e = { d with core := e.core, resp := .done } ∧
      (∀ j, j ≠ k.val → coreOf e j = coreOf d j) ∧ coreOf e k.val = { coreOf d k.val with
        icache := [], lbuf := [], dcache := if bit w.data 1 then [] else (coreOf d k.val).dcache })) ∧
  (∀ (d : Device) (m : Memory) (q r : List Instr) (k : Fin 36) (w : Wr), calm d = true →
    accepts d (pgCore k.val) Reg.CORE.DBG w = true →
    (coreRuns d k.val = true → bit w.data 1 = false → bit w.data 2 = false →
      exec (.dbgHalt k w) ⟨d, m, q, r⟩ = .next ⟨{ setCore k.val { coreOf d k.val with haltReq := true } d with resp := .done }, m, q, r⟩) ∧
    (coreHalted d k.val = true → bit w.data 0 = false → bit w.data 2 = false → ∃ e, exec (.dbgResume k w) ⟨d, m, q, r⟩ = .next ⟨e, m, q, r⟩ ∧
      e = { d with regs := e.regs, core := e.core, resp := .done } ∧ keptBut [(pgCore k.val, Reg.CORE.STAT)] d e ∧
      coreHalted e k.val = false ∧ (coreOf e k.val) = { coreOf d k.val with stepping := false } ∧ (∀ j, j ≠ k.val → coreOf e j = coreOf d j)) ∧
    (coreHalted d k.val = true → bit w.data 0 = false → ∃ e, exec (.dbgStep k w) ⟨d, m, q, r⟩ = .next ⟨e, m, q, r⟩ ∧
      e = { d with regs := e.regs, core := e.core, resp := .done } ∧ keptBut [(pgCore k.val, Reg.CORE.STAT)] d e ∧
      coreHalted e k.val = false ∧ (coreOf e k.val) = { coreOf d k.val with stepping := true } ∧ (∀ j, j ≠ k.val → coreOf e j = coreOf d j))) ∧
  (∀ (d : Device) (m : Memory) (q r : List Instr) (k : Fin 36), calm d = true → haltDue d k.val = true →
    (∀ l ∈ (coreOf d k.val).longs, l.zero = none) →
    ∃ e, exec (.haltTakesEffect k) ⟨d, m, q, r⟩ = .next ⟨e, m, q, r⟩ ∧ e = { d with regs := e.regs, core := e.core, eva := e.eva } ∧
      keptBut ([(pgCore k.val, Reg.CORE.STAT), (pgCore k.val, Reg.CORE.HALT_PC)] ++ raiseRegs (pgCore k.val)) d e ∧
      coreHalted e k.val = true ∧ rd e (pgCore k.val) Reg.CORE.HALT_PC = (coreOf d k.val).pc ∧ rdB e (pgCore k.val) hIRQ_RAW 0 = true ∧
      (coreOf e k.val).longs = [] ∧ (coreOf e k.val).pc = (coreOf d k.val).pc ∧ (coreOf e k.val).mNew = [] ∧
      (coreOf e k.val).sb = (coreOf d k.val).sb ∧ (∀ j, j ≠ k.val → coreOf e j = coreOf d j)) ∧
  (∀ (d : Device) (m : Memory) (q r : List Instr) (k : Fin 36) (l : LongOp) (a : Word), calm d = true → haltDue d k.val = true →
    (coreOf d k.val).longs = [l] → l.zero = some a →
    ∃ e, exec (.haltTakesEffect k) ⟨d, m, q, r⟩ = .next ⟨e, m, q, r⟩ ∧ e = { d with core := e.core } ∧
      (coreOf e k.val).imprecise = [{ desc := 7, xaddr := a, detail := 0 }] ∧ (coreOf e k.val).haltReq = true ∧
      (coreOf e k.val).pc = (coreOf d k.val).pc ∧ (∀ j, j ≠ k.val → coreOf e j = coreOf d j)) ∧
  (∀ (d : Device) (m : Memory) (q r : List Instr) (k : Fin 36) (who : Requester), pageMapped d (pgCore k.val) = true →
    (coreHalted d k.val = true →
      exec (.dbgRdataAccess k false who none) ⟨d, m, q, r⟩ = .next ⟨{ d with resp := .data (dbgValue d k.val).v false }, m, q, r⟩ ∧
      exec (.dbgRdataAccess k true who none) ⟨d, m, q, r⟩ =
        .next ⟨{ d with resp := .data (if (dbgValue d k.val).p then 1#32 else 0#32) false }, m, q, r⟩) ∧
    (coreHalted d k.val = false → ∀ tag, ∃ e, exec (.dbgRdataAccess k tag who none) ⟨d, m, q, r⟩ = .next ⟨e, m, q, r⟩ ∧
      e = { d with regs := e.regs, resp := .data 0#32 false } ∧ keptBut [(pgCore k.val, hERR_CODE), (pgCore k.val, hERR_INFO)] d e ∧
      (rdF d (pgCore k.val) hERR_CODE 0 8 = 0 → rdF e (pgCore k.val) hERR_CODE 0 8 = 0x81))) ∧
  (∀ (d : Device) (m : Memory) (q r : List Instr) (k : Fin 36) (who : Requester) (w : Wr), calm d = true → coreHalted d k.val = true →
    (accepts d (pgCore k.val) Reg.CORE.DBG_RDATA w = true → dbgSel d k.val < 32 →
      exec (.dbgRdataAccess k false who (some w)) ⟨d, m, q, r⟩ = .next ⟨{ setCore k.val (setW (dbgSel d k.val)
        { wOf (coreOf d k.val) (dbgSel d k.val) with v := w.data } (coreOf d k.val)) d with resp := .done }, m, q, r⟩) ∧
    (accepts d (pgCore k.val) Reg.CORE.DBG_RDATA w = true → 32 < dbgSel d k.val → dbgSel d k.val < 36 →
      exec (.dbgRdataAccess k false who (some w)) ⟨d, m, q, r⟩ =
        .next ⟨{ setCore k.val (setSr (dbgSel d k.val - 32) w.data (coreOf d k.val)) d with resp := .done }, m, q, r⟩) ∧
    (accepts d (pgCore k.val) Reg.CORE.DBG_RTAG w = true → dbgSel d k.val < 32 →
      exec (.dbgRdataAccess k true who (some w)) ⟨d, m, q, r⟩ = .next ⟨{ setCore k.val (setW (dbgSel d k.val)
        { wOf (coreOf d k.val) (dbgSel d k.val) with p := bit w.data 0 } (coreOf d k.val)) d with resp := .done }, m, q, r⟩)) ∧
  (∀ (d : Device) (m : Memory) (q r : List Instr) (k : Fin 36) (hi : Bool) (w : Wr), calm d = true →
    accepts d (pgIcu k.val) (if hi then Reg.ICU.SET_HI else Reg.ICU.SET_LO) w = true →
    ∃ e, exec (.icuSet k hi w) ⟨d, m, q, r⟩ = .next ⟨e, m, q, r⟩ ∧ e = { d with regs := e.regs, core := e.core, resp := .done } ∧
      keptBut [(pgIcu k.val, if hi then Reg.ICU.PEND_HI else Reg.ICU.PEND_LO)] d e ∧
      (∀ l, l < 64 → linePend e k.val l = (linePend d k.val l || (decide (32 ≤ l) == hi && bit w.data (l % 32)))) ∧
      (∀ j, j ≠ k.val → coreOf e j = coreOf d j) ∧
      (let stop := (List.range 64).any (fun l => linePend e k.val l && lineEn e k.val l)
       coreOf e k.val = { coreOf d k.val with waiting := (coreOf d k.val).waiting && !stop }))

/-- What happens between a core's instructions: STORE_DRAIN, IMPRECISE_ENTRY and INTERRUPT_ENTRY.
The model's own choices that stand behind it: log entries 65, 69, 71 and 145. -/
def Obligations.CoreBoundaries : Prop :=
  (∀ (d : Device) (m : Memory) (q r : List Instr) (k : Fin 36) (page : Bool) (e : StoreEnt) (st n : Nat) (d' : Device) (m' : Memory),
    sbHead (coreOf d k.val) page = some e → (coreOf d k.val).sb.find? (fun x => decide (x.id = e.id)) = some e → sbReady d e = true → e.dest = none →
    writeAt (coreReq d k.val) e.addr e.bytes [e.poison] (d, m) = ((d', m'), st, n) →
    calm d' = true → d'.legs = d.legs → d'.core = d.core → (coreOf d k.val).dcache = [] →
    ∃ t, exec (.storeDrain k page) ⟨d, m, q, r⟩ = .next ⟨t, m', q, r⟩ ∧ t = { d' with core := t.core } ∧
      (∀ j, j ≠ k.val → coreOf t j = coreOf d j) ∧
      (let detail := if st = stDecode then 1 else if st = stRouting ∨ st = stTimeout then 2 else 3
       let errs : List Imprecise := if st = stOk then [] else [{ desc := 8, xaddr := e.core, detail := detail }]
       let left := (coreOf d k.val).sb.filter (fun x => decide (x.id ≠ e.id))
       coreOf t k.val = { coreOf d k.val with sb := left, imprecise := (coreOf d k.val).imprecise ++ errs })) ∧
  (∀ (d : Device) (m : Memory) (q r : List Instr) (k : Fin 36) (page : Bool) (e : StoreEnt), calm d = true →
    sbHead (coreOf d k.val) page = some e → (coreOf d k.val).sb.find? (fun x => decide (x.id = e.id)) = some e → sbReady d e = true →
    e.dest = none → e.poison = false → cleanAt d m e.addr e.bytes.length = true →
    let left := (coreOf d k.val).sb.filter (fun x => decide (x.id ≠ e.id))
    let at_ := 0x40000000 + (e.addr - bulkBase)
    (e.addr < bulkBase ∨ bulkBase + bulkSize ≤ e.addr ∨
        ((∀ z ∈ (coreOf d k.val).dcache, z.tagDmg = 0) ∧ findLine (coreOf d k.val).dcache (at_ / 64) = none) →
      ∃ t m', exec (.storeDrain k page) ⟨d, m, q, r⟩ = .next ⟨t, m', q, r⟩ ∧ t = { d with core := t.core } ∧ storedAt m m' e.addr e.bytes ∧
        (∀ j, j ≠ k.val → coreOf t j = coreOf d j) ∧ coreOf t k.val = { coreOf d k.val with sb := left }) ∧
    (∀ y, bulkBase ≤ e.addr → e.addr < bulkBase + bulkSize → (∀ z ∈ (coreOf d k.val).dcache, z.tagDmg = 0) →
      findLine (coreOf d k.val).dcache (at_ / 64) = some y → (lineWord y (at_ % 64 / 8)).outcome = .clean →
      ∃ t m', exec (.storeDrain k page) ⟨d, m, q, r⟩ = .next ⟨t, m', q, r⟩ ∧ t = { d with core := t.core } ∧ storedAt m m' e.addr e.bytes ∧
        (∀ j, j ≠ k.val → coreOf t j = coreOf d j) ∧
        coreOf t k.val = { coreOf d k.val with
          sb := left
          dcache := (coreOf d k.val).dcache.map (fun z => if z = y then storeLine y (at_ % 64) e.bytes false else z) } ∧
        (y.bytes.length = 64 → at_ % 8 + e.bytes.length ≤ 8 →
          slice (storeLine y (at_ % 64) e.bytes false).bytes (at_ % 64) e.bytes.length = e.bytes))) ∧
  (∀ (d : Device) (m : Memory) (q r : List Instr) (k : Fin 36) (x : Imprecise), calm d = true →
    impreciseDue d k.val = true → nextImprecise (coreOf d k.val) = some x →
    let c := coreOf d k.val
    let req : EntryReq := { desc := x.desc, xpc := c.pc, detail := x.detail, xaddr := x.xaddr, prio := 0, rep := c.repLeft }
    entryReady d m k.val req →
    ∃ v m', exec (.impreciseEntry k) ⟨d, m, q, r⟩ = .next ⟨v, m', q, r⟩ ∧ handlerEntered d v m m' k.val req ∧
      (coreOf v k.val).imprecise = c.imprecise.erase x) ∧
  (∀ (c : Core) (x : Imprecise), x ∈ c.imprecise → ∃ y, nextImprecise c = some y ∧ y ∈ c.imprecise ∧ (x.desc = 7 → y.desc = 7)) ∧
  (∀ (d : Device) (m : Memory) (q r : List Instr) (k : Fin 36) (l : Nat), calm d = true →
    interruptDue d k.val = true → bestLine d k.val = some l →
    let c := coreOf d k.val
    let p := linePrio d k.val l
    let req : EntryReq := { desc := 192 + l, xpc := c.pc, detail := p, xaddr := 0#32, prio := p, rep := c.repLeft }
    entryReady d m k.val req →
    ∃ v m', exec (.interruptEntry k) ⟨d, m, q, r⟩ = .next ⟨v, m', q, r⟩ ∧ handlerEntered d v m m' k.val req ∧
      linePend v k.val l = false ∧ rd v (pgIcu k.val) Reg.ICU.TAKEN = wd (256 + l)) ∧
  (∀ (d : Device) (k l : Nat), bestLine d k = some l → l < 64 ∧ takeable d k l = true ∧
    ∀ j, j < 64 → takeable d k j = true → linePrio d k j ≤ linePrio d k l ∧ (linePrio d k j = linePrio d k l → l ≤ j))

/-- R373's two-source ALU rows by their values.
The model's own choices that stand behind it: log entry 3. -/
def Obligations.AluTwoRegisters : Prop :=
  ∀ (d : Device) (m : Memory) (q r : List Instr) (k : Fin 36) (rd ra rb : Fin 32) (e : Enc),
    let a := wOf (coreOf d k.val) ra.val
    let b := wOf (coreOf d k.val) rb.val
    let wrap := fun (v : Word) => (v, false)
    let clamp := fun (v : Int) => (wdI (satI 32 v), decide (satI 32 v ≠ v))
    let either := fun (v : Int) => if e.sat then clamp v else (wdI v, false)
    let pair := fun (lo hi : Int) => wd (wrapN 16 lo + 65536 * wrapN 16 hi)
    let lanesC := fun (lo hi : Int) => (pair (satI 16 lo) (satI 16 hi), decide (satI 16 lo ≠ lo) || decide (satI 16 hi ≠ hi))
    let lanesE := fun (lo hi : Int) => if e.sat then lanesC lo hi else (pair lo hi, false)
    let truthOf := fun (t : Bool) => (if t then 1#32 else 0#32, false)
    let sh := b.v.toNat % 32
    ∀ x ∈ ([(.addI32 k rd ra rb e, 0x10, either (sw a.v + sw b.v)), (.subI32 k rd ra rb e, 0x11, either (sw a.v - sw b.v)),
        (.addQ31 k rd ra rb e, 0x12, clamp (sw a.v + sw b.v)), (.subQ31 k rd ra rb e, 0x13, clamp (sw a.v - sw b.v)),
        (.addI16x2 k rd ra rb e, 0x14, lanesE (laneLo a.v + laneLo b.v) (laneHi a.v + laneHi b.v)),
        (.subI16x2 k rd ra rb e, 0x15, lanesE (laneLo a.v - laneLo b.v) (laneHi a.v - laneHi b.v)),
        (.addQ15x2 k rd ra rb e, 0x16, lanesC (laneLo a.v + laneLo b.v) (laneHi a.v + laneHi b.v)),
        (.subQ15x2 k rd ra rb e, 0x17, lanesC (laneLo a.v - laneLo b.v) (laneHi a.v - laneHi b.v))] ++
      [(.minI32 k rd ra rb e, 0x1C, wrap (if a.v.slt b.v then a.v else b.v)), (.maxI32 k rd ra rb e, 0x1D, wrap (if a.v.slt b.v then b.v else a.v)),
        (.minuU32 k rd ra rb e, 0x1E, wrap (if a.v.ult b.v then a.v else b.v)), (.maxuU32 k rd ra rb e, 0x1F, wrap (if a.v.ult b.v then b.v else a.v)),
        (.and k rd ra rb e, 0x20, wrap (a.v &&& b.v)), (.or k rd ra rb e, 0x21, wrap (a.v ||| b.v)), (.xor k rd ra rb e, 0x22, wrap (a.v ^^^ b.v)),
        (.andn k rd ra rb e, 0x23, wrap (a.v &&& ~~~ b.v)), (.shl k rd ra rb e, 0x24, either (sw a.v * 2 ^ sh)),
        (.shr k rd ra rb e, 0x25, wrap (a.v >>> sh)), (.sra k rd ra rb e, 0x26, wrap (a.v.sshiftRight sh)),
        (.shlQ31 k rd ra rb e, 0x27, clamp (sw a.v * 2 ^ sh))] ++
      [(.seq k rd ra rb e, 0x28, truthOf (a.v == b.v)), (.sne k rd ra rb e, 0x29, truthOf (a.v != b.v)),
        (.slt k rd ra rb e, 0x2A, truthOf (a.v.slt b.v)), (.sltu k rd ra rb e, 0x2B, truthOf (a.v.ult b.v)),
        (.sge k rd ra rb e, 0x2C, truthOf (b.v.sle a.v)), (.sgeu k rd ra rb e, 0x2D, truthOf (b.v.ule a.v))] : List (Instr × Nat × Word × Bool)),
      completesAs d m q r k.val x.1 { op := x.2.1, d := rd.val, a := ra.val, b := rb.val, enc := e }
        (putW rd.val x.2.2.1 (a.p || b.p) x.2.2.2)

/-- R373's other ALU rows by their values.
The model's own choices that stand behind it: log entry 3. -/
def Obligations.AluOneRegister : Prop :=
  ∀ (d : Device) (m : Memory) (q r : List Instr) (k : Fin 36) (rd ra : Fin 32) (imm : Word) (e : Enc),
    let a := wOf (coreOf d k.val) ra.val
    let o := wOf (coreOf d k.val) rd.val
    let mw := mOf (coreOf d k.val) ra.val
    let aw := accOf (coreOf d k.val) ra.val
    let mode := match e.rnd with | some x => x.toNat | none => fld (srOf (coreOf d k.val) 13) 0 2
    let wrap := fun (v : Word) => (v, false)
    let clamp := fun (v : Int) => (wdI (satI 32 v), decide (satI 32 v ≠ v))
    let either := fun (v : Int) => if e.sat then clamp v else (wdI v, false)
    let truthOf := fun (t : Bool) => (if t then 1#32 else 0#32, false)
    let im := fun (op : Nat) => codedImm k.val op imm e
    let sh := fun (op : Nat) => (im op).toNat % 32
    completesAs d m q r k.val (.nop k e) { op := 0x00, enc := e } (fun c => c) ∧
    completesAs d m q r k.val (.movi k rd imm e) { op := 0x02, d := rd.val, imm := im 0x02, enc := e } (putW rd.val (im 0x02) false false) ∧
    completesAs d m q r k.val (.movhi k rd imm e) { op := 0x03, d := rd.val, imm := im 0x03, enc := e }
      (putW rd.val ((im 0x03 <<< 16) ||| (o.v &&& 0xFFFF#32)) o.p false) ∧
    (∀ x ∈ ([(.mov k rd ra e, 0x01, wrap a.v), (.sextB k rd ra e, 0x0C, wrap ((a.v.setWidth 8).signExtend 32)),
        (.sextH k rd ra e, 0x0D, wrap ((a.v.setWidth 16).signExtend 32)), (.zextB k rd ra e, 0x0E, wrap (a.v &&& 0xFF#32)),
        (.zextH k rd ra e, 0x0F, wrap (a.v &&& 0xFFFF#32)), (.negI32 k rd ra e, 0x18, either (-(sw a.v))),
        (.negQ31 k rd ra e, 0x19, clamp (-(sw a.v))), (.absI32 k rd ra e, 0x1A, either ((sw a.v).natAbs : Int)),
        (.absQ31 k rd ra e, 0x1B, clamp ((sw a.v).natAbs : Int)),
        (.clz k rd ra e, 0x2E, wrap (if a.v = 0#32 then 32#32 else wd (31 - a.v.toNat.log2))), (.not k rd ra e, 0x2F, wrap (~~~ a.v))]
          : List (Instr × Nat × Word × Bool)),
      completesAs d m q r k.val x.1 { op := x.2.1, d := rd.val, a := ra.val, enc := e } (putW rd.val x.2.2.1 a.p x.2.2.2)) ∧
    (∀ x ∈ ([(.addiI32 k rd ra imm e, 0x30, either (sw a.v + sw (im 0x30))), (.andi k rd ra imm e, 0x31, wrap (a.v &&& im 0x31)),
        (.ori k rd ra imm e, 0x32, wrap (a.v ||| im 0x32)), (.xori k rd ra imm e, 0x33, wrap (a.v ^^^ im 0x33)),
        (.shli k rd ra imm e, 0x34, either (sw a.v * 2 ^ sh 0x34)), (.shri k rd ra imm e, 0x35, wrap (a.v >>> sh 0x35)),
        (.srai k rd ra imm e, 0x36, wrap (a.v.sshiftRight (sh 0x36))), (.seqi k rd ra imm e, 0x37, truthOf (a.v == im 0x37)),
        (.snei k rd ra imm e, 0x38, truthOf (a.v != im 0x38)), (.slti k rd ra imm e, 0x39, truthOf (a.v.slt (im 0x39))),
        (.sltui k rd ra imm e, 0x3A, truthOf (a.v.ult (im 0x3A)))] : List (Instr × Nat × Word × Bool)),
      completesAs d m q r k.val x.1 { op := x.2.1, d := rd.val, a := ra.val, imm := im x.2.1, enc := e } (putW rd.val x.2.2.1 a.p x.2.2.2)) ∧
    (∀ x ∈ ([(.mvmLo k rd ra e, 0x04, wrap (wd mw.v), mw.p), (.mvmHi k rd ra e, 0x05, wrap (wd (mw.v / 2 ^ 32)), mw.p),
        (.mvmG k rd ra e, 0x06, wrap (((wd (mw.v / 2 ^ 64)).setWidth 8).signExtend 32), mw.p),
        (.rndQ31 k rd ra e, 0x07, clamp (rndFrac mode (signed 72 mw.v) (2 ^ 31)), mw.p),
        (.mvaLo k rd ra e, 0x08, wrap (wd aw.v), aw.p), (.mvaHi k rd ra e, 0x09, wrap (wd (aw.v / 2 ^ 32)), aw.p),
        (.mvaG k rd ra e, 0x0A, wrap (((wd (aw.v / 2 ^ 64)).setWidth 8).signExtend 32), aw.p),
        (.arndQ31 k rd ra e, 0x0B, clamp (rndFrac mode (signed 72 aw.v) (2 ^ 31)), aw.p)] : List (Instr × Nat × (Word × Bool) × Bool)),
      completesAs d m q r k.val x.1 { op := x.2.1, d := rd.val, a := ra.val, enc := e }
        (putW rd.val x.2.2.1.1 x.2.2.2 x.2.2.1.2))

/-- R376's rows by their values, and R356 and R357's visibility.
The model's own choices that stand behind it: log entry 3. -/
def Obligations.MultiplierResults : Prop :=
  (∀ (d : Device) (m : Memory) (q r : List Instr) (k : Fin 36) (rd ra rb : Fin 32) (e : Enc),
    let a := wOf (coreOf d k.val) ra.val
    let b := wOf (coreOf d k.val) rb.val
    let mw := mOf (coreOf d k.val) rd.val
    let seen := mOf (coreOf d k.val) ra.val
    let acc := accOf (coreOf d k.val) rd.val
    let s := signed 72
    let clamp := fun (v : Int) => (wrapN 72 (satI 72 v), decide (satI 72 v ≠ v))
    let dot := (laneLo a.v * laneLo b.v + laneHi a.v * laneHi b.v) * 2 ^ 32
    let satf := fun (t : Bool) (c : Core) => if t then setSr 14 1#32 c else c
    let putM := fun (v : Nat × Bool) (p : Bool) (c : Core) =>
      satf (v.2 && !p) { c with mNew := [{ reg := rd.val, pos := (coreOf d k.val).pos, val := { v := v.1, p := p } }] }
    let putA := fun (v : Nat × Bool) (p : Bool) (c : Core) => satf (v.2 && !p) (setAcc rd.val { v := v.1, p := p } c)
    (∀ x ∈ ([(.mulI32 k rd ra rb e, 0x40, putM (wrapN 72 (sw a.v * sw b.v), false) (a.p || b.p)),
        (.mulU32 k rd ra rb e, 0x41, putM (a.v.toNat * b.v.toNat, false) (a.p || b.p)),
        (.mulQ31 k rd ra rb e, 0x42, putM (wrapN 72 (sw a.v * sw b.v), false) (a.p || b.p)),
        (.macI32 k rd ra rb e, 0x43, putM (wrapN 72 (s mw.v + sw a.v * sw b.v), false) (a.p || b.p || mw.p)),
        (.macU32 k rd ra rb e, 0x44, putM (wrapN 72 (s mw.v + (a.v.toNat * b.v.toNat : Nat)), false) (a.p || b.p || mw.p)),
        (.macQ31 k rd ra rb e, 0x45, putM (clamp (s mw.v + sw a.v * sw b.v)) (a.p || b.p || mw.p)),
        (.msuQ31 k rd ra rb e, 0x46, putM (clamp (s mw.v - sw a.v * sw b.v)) (a.p || b.p || mw.p)),
        (.dmacQ15x2 k rd ra rb e, 0x47, putM (clamp (s mw.v + dot)) (a.p || b.p || mw.p))] : List (Instr × Nat × (Core → Core))),
      completesAs d m q r k.val x.1 { op := x.2.1, d := rd.val, a := ra.val, b := rb.val, enc := e } x.2.2) ∧
    (∀ x ∈ ([(.mtm k rd ra e, 0x48, putM (wrapN 72 (sw a.v * 2 ^ 31), false) a.p),
        (.accAdd k rd ra e, 0x4A, putA (clamp (s acc.v + s seen.v)) (acc.p || seen.p)),
        (.accSub k rd ra e, 0x4B, putA (clamp (s acc.v - s seen.v)) (acc.p || seen.p)),
        (.mta k rd ra e, 0x4D, putA (wrapN 72 (sw a.v * 2 ^ 31), false) a.p)] : List (Instr × Nat × (Core → Core))),
      completesAs d m q r k.val x.1 { op := x.2.1, d := rd.val, a := ra.val, enc := e } x.2.2) ∧
    completesAs d m q r k.val (.clrM k rd e) { op := 0x49, d := rd.val, enc := e } (putM (0, false) false) ∧
    completesAs d m q r k.val (.clrA k rd e) { op := 0x4C, d := rd.val, enc := e } (putA (0, false) false)) ∧
  (∀ (k : Nat) (c : Core) (n pos : Nat) (v : TaggedWide), c.mNew = [{ reg := n, pos := pos, val := v }] →
    (pos + (if k < 32 then 4 else 2) ≤ c.pos → mSeen k c n = v) ∧ (c.pos < pos + (if k < 32 then 4 else 2) → mSeen k c n = mOf c n) ∧
    mLast c n = v ∧ mOf (flushM c) n = v)

/-- R377's rows; what is read and what the access meets are the shared operations of the core's memory.
The model's own choices that stand behind it: log entries 3, 65 and 71. -/
def Obligations.LoadsAndStores : Prop :=
  (∀ (d : Device) (m : Memory) (q r : List Instr) (k : Fin 36) (rd ra rb : Fin 32) (imm : Word) (e : Enc),
    let c := coreOf d k.val
    let im := fun (op : Nat) => codedImm k.val op imm e
    let put := fun (f : Word → Word) (bs : List Byte) (p : Bool) => setW rd.val { v := f (wd (numLE bs)), p := p }
    ∀ x ∈ ([(.ldB k rd ra imm e, { op := 0x50, d := rd.val, a := ra.val, imm := im 0x50, enc := e }, put (fun v => (v.setWidth 8).signExtend 32)),
        (.ldBu k rd ra imm e, { op := 0x51, d := rd.val, a := ra.val, imm := im 0x51, enc := e }, put (fun v => v)),
        (.ldH k rd ra imm e, { op := 0x52, d := rd.val, a := ra.val, imm := im 0x52, enc := e }, put (fun v => (v.setWidth 16).signExtend 32)),
        (.ldHu k rd ra imm e, { op := 0x53, d := rd.val, a := ra.val, imm := im 0x53, enc := e }, put (fun v => v)),
        (.ldW k rd ra imm e, { op := 0x54, d := rd.val, a := ra.val, imm := im 0x54, enc := e }, put (fun v => v)),
        (.ldD k rd ra imm e, { op := 0x58, d := rd.val, a := ra.val, imm := im 0x58, enc := e }, fun bs p c =>
          setW (rd.val + 1) { v := wd (numLE bs / 2 ^ 32), p := p } (put (fun v => v) bs p c)),
        (.ldxW k rd ra rb e, { op := 0x5A, d := rd.val, a := ra.val, b := rb.val, enc := e }, put (fun v => v))]
          : List (Instr × KInst × (List Byte → Bool → Core → Core))),
      let f := fetched d m k.val (positionLen k.val [x.2.1])
      let at_ := effAddr c x.2.1
      let n := accessSize x.2.1.op
      issues d m k.val x.2.1 = true →
      ((wOf c ra.val).p = false → (x.2.1.op = 0x5A → (wOf c rb.val).p = false) → coreClean f m k.val at_ n = true →
        (at_ < 0x40000000 ∨ dcacheOn f k.val = false) → calm f = true →
        ∃ t, exec x.1 ⟨d, m, q, r⟩ = .next ⟨t, m, q, r⟩ ∧
          retires f t k.val (positionLen k.val [x.2.1]) (x.2.2 (bytesAt m (coreLocal k.val at_) n) false)) ∧
      (∀ (bs : List Byte) (p : Bool) (u : Device), lsuFault f k.val c x.2.1 = none →
        loadParts k.val true m (lsuParts c x.2.1) [] f = (.ok bs p, [], u) → calm u = true → u.legs = d.legs →
        ∃ t, exec x.1 ⟨d, m, q, r⟩ = .next ⟨t, m, q, r⟩ ∧ retires u t k.val (positionLen k.val [x.2.1]) (x.2.2 bs p))) ∧
  (∀ (d : Device) (m : Memory) (q r : List Instr) (k : Fin 36) (rd ra rb : Fin 32) (imm : Word) (e : Enc),
    let c := coreOf d k.val
    ∀ x ∈ ([(.stB k rd ra imm e, { op := 0x55, d := rd.val, a := ra.val, imm := codedImm k.val 0x55 imm e, enc := e }),
        (.stH k rd ra imm e, { op := 0x56, d := rd.val, a := ra.val, imm := codedImm k.val 0x56 imm e, enc := e }),
        (.stW k rd ra imm e, { op := 0x57, d := rd.val, a := ra.val, imm := codedImm k.val 0x57 imm e, enc := e }),
        (.stD k rd ra imm e, { op := 0x59, d := rd.val, a := ra.val, imm := codedImm k.val 0x59 imm e, enc := e }),
        (.stxW k rd ra rb e, { op := 0x5B, d := rd.val, a := ra.val, b := rb.val, enc := e })] : List (Instr × KInst)),
      let f := fetched d m k.val (positionLen k.val [x.2])
      let at_ := effAddr c x.2
      let n := accessSize x.2.op
      (((wOf c ra.val).p = false ∧ (x.2.op = 0x5B → (wOf c rb.val).p = false) ∧
          (at_ + n ≤ sramSize k.val ∨ (0x40000000 ≤ at_ ∧ at_ + n ≤ 0x40000000 + bulkSize ∧ c.dcache = []))) ∨
        (lsuFault f k.val c x.2 = none ∧ c.dcache = [])) →
      completesAs d m q r k.val x.1 x.2 (fun z => { z with
        sb := (storeReqs f k.val c x.2).zipIdx.map (fun y =>
          { id := c.nextStore + y.2, core := y.1.core, dest := y.1.target.dest, addr := y.1.target.addr, bytes := y.1.bytes
            poison := y.1.poison, page := inPages y.1.target.addr, sent := false })
        nextStore := c.nextStore + (lsuParts c x.2).length })) ∧
  (∀ (d : Device) (k : Nat) (c : Core) (i : KInst) (t : Target), isStore i.op = true → effAddr c i % 8 + accessSize i.op ≤ 8 →
    coreTarget d k (effAddr c i) = some t →
    storeReqs d k c i = [{ core := wd (effAddr c i), target := t, bytes := (storeData c i).1, poison := (storeData c i).2 }])

/-- R378's rows by their values, and their completion.
The model's own choices that stand behind it: log entry 3. -/
def Obligations.LongOperations : Prop :=
  (∀ (d : Device) (m : Memory) (q r : List Instr) (k : Fin 36) (rd ra rb : Fin 32) (e : Enc),
    let c := coreOf d k.val
    let a := wOf c ra.val
    let b := wOf c rb.val
    let mode := match e.rnd with | some x => x.toNat | none => fld (srOf c 13) 0 2
    let op := fun (v : Nat) (s z p : Bool) (z' : Core) => 
      { z' with longs := [{ wdst := some rd.val, adst := none, res := { v := v, p := p }, sat := s && !p, zero := if z ∧ ¬ p then some c.pc else none }] }
    let byZero := fun (v : Word) => if b.v = 0#32 then op 0 false true (a.p || b.p) else op v.toNat false false (a.p || b.p)
    let quot := rndFrac mode ((if sw b.v < 0 then -(sw a.v) else sw a.v) * 2 ^ 31) (sw b.v).natAbs
    let root := isqrt 32 (a.v.toNat * 2 ^ 31)
    let up := if (mode = 1 ∨ mode = 2) ∧ root * root + root < a.v.toNat * 2 ^ 31 then root + 1 else root
    (∀ x ∈ ([(.divI32 k rd ra rb e, 0x60, byZero (a.v.sdiv b.v)), (.divU32 k rd ra rb e, 0x61, byZero (a.v / b.v)),
        (.remI32 k rd ra rb e, 0x62, byZero (a.v.srem b.v)), (.remU32 k rd ra rb e, 0x63, byZero (a.v % b.v)),
        (.divQ31 k rd ra rb e, 0x64, if b.v = 0#32 then op 0 false true (a.p || b.p)
          else op (wdI (satI 32 quot)).toNat (decide (satI 32 quot ≠ quot)) false (a.p || b.p))] : List (Instr × Nat × (Core → Core))),
      completesAs d m q r k.val x.1 { op := x.2.1, d := rd.val, a := ra.val, b := rb.val, enc := e } x.2.2) ∧
    completesAs d m q r k.val (.sqrtQ31 k rd ra e) { op := 0x65, d := rd.val, a := ra.val, enc := e }
      (if a.v.msb then op 0 true false a.p else op (wdI (satI 32 up)).toNat (decide (satI 32 up ≠ up)) false a.p) ∧
    completesAs d m q r k.val (.rcpQ31 k rd ra e) { op := 0x66, d := rd.val, a := ra.val, enc := e }
      (if a.v.toNat ≤ 2 ^ 31 then op 0xFFFFFFFF true false a.p else op (wdI (rndFrac mode (2 ^ 63) a.v.toNat)).toNat false false a.p) ∧
    (let x := signed 64 (a.v.toNat + (wOf c (ra.val + 1)).v.toNat * 2 ^ 32)
     let y := signed 64 (b.v.toNat + (wOf c (rb.val + 1)).v.toNat * 2 ^ 32)
     let s := signed 72 (accOf c rd.val).v + rndFrac mode (x * y) (2 ^ 64)
     let p := a.p || (wOf c (ra.val + 1)).p || b.p || (wOf c (rb.val + 1)).p || (accOf c rd.val).p
     completesAs d m q r k.val (.lmacQ63 k rd ra rb e) { op := 0x67, d := rd.val, a := ra.val, b := rb.val, enc := e } (fun z => { z with
       longs := [{ wdst := none, adst := some rd.val, res := { v := wrapN 72 (satI 72 s), p := p }
                   sat := decide (satI 72 s ≠ s) && !p, zero := none }] }))) ∧
  (∀ (d : Device) (m : Memory) (q r : List Instr) (k : Fin 36) (l : LongOp) (ls : List LongOp), calm d = true →
    (coreOf d k.val).longs = l :: ls →
    ∃ t, exec (.longOpComplete k) ⟨d, m, q, r⟩ = .next ⟨t, m, q, r⟩ ∧ t = { d with core := t.core } ∧
      (∀ j, j ≠ k.val → coreOf t j = coreOf d j) ∧ (coreOf t k.val).longs = ls ∧ (coreOf t k.val).pc = (coreOf d k.val).pc ∧
      (∀ n, wOf (coreOf t k.val) n = if l.wdst = some n then { v := wd l.res.v, p := l.res.p } else wOf (coreOf d k.val) n) ∧
      (∀ n, accOf (coreOf t k.val) n = if l.adst = some n then l.res else accOf (coreOf d k.val) n) ∧
      (∀ n, srOf (coreOf t k.val) n = if l.sat ∧ n = 14 then 1#32 else srOf (coreOf d k.val) n) ∧
      (coreOf t k.val).imprecise = (coreOf d k.val).imprecise ++
        (match l.zero with | some a => [{ desc := 7, xaddr := a, detail := 0 }] | none => [])) ∧
  (∀ v : Nat, v < 2 ^ 64 → isqrt 32 v * isqrt 32 v ≤ v ∧ v < (isqrt 32 v + 1) * (isqrt 32 v + 1))

/-- The flow rows of R373 by where they go.
The model's own choices that stand behind it: log entries 3, 64, 66 and 70. -/
def Obligations.BranchesAndCalls : Prop :=
  ∀ (d : Device) (m : Memory) (q r : List Instr) (k : Fin 36) (ra rx ry : Fin 32) (imm : Word) (e : Enc),
    let c := coreOf d k.val
    let a := wOf c ra.val
    let x := wOf c rx.val
    let y := wOf c ry.val
    let im := fun (op : Nat) => codedImm k.val op imm e
    let target := fun (op : Nat) => c.pc + (if 32 ≤ k.val then 4#32 * im op else im op)
    let jump := fun (op : Nat) (z : Core) => { z with pc := target op }
    let call := fun (t : Word) (z : Core) => { z with pc := t, stack := (z.pc :: z.stack).take 16 }
    let cmp := fun (op : Nat) => if 32 ≤ k.val then ({ op := op, a := rx.val, b := ry.val, imm := im op, enc := e } : KInst)
      else { op := op, d := rx.val, a := ry.val, imm := im op, enc := e }
    let room := c.stack.length < 16 ∨ bit (srOf c 15) 0 = false
    completesAs d m q r k.val (.b k imm e) { op := 0x70, imm := im 0x70, enc := e } (jump 0x70) ∧
    (room → completesAs d m q r k.val (.call k imm e) { op := 0x71, imm := im 0x71, enc := e } (call (target 0x71))) ∧
    (∀ t rest, c.stack = t :: rest → completesAs d m q r k.val (.ret k e) { op := 0x72, enc := e } (fun z => { z with pc := t, stack := rest })) ∧
    (a.p = false → completesAs d m q r k.val (.jr k ra e) { op := 0x73, a := ra.val, enc := e } (fun z => { z with pc := a.v }) ∧
      (room → completesAs d m q r k.val (.callr k ra e) { op := 0x74, a := ra.val, enc := e } (call a.v)) ∧
      completesAs d m q r k.val (.bz k ra imm e) { op := 0x75, a := ra.val, imm := im 0x75, enc := e } (if a.v = 0#32 then jump 0x75 else fun z => z) ∧
      completesAs d m q r k.val (.bnz k ra imm e) { op := 0x76, a := ra.val, imm := im 0x76, enc := e } (if a.v ≠ 0#32 then jump 0x76 else fun z => z) ∧
      (target 0x7D ≠ c.pc ∨ a.v = 0#32 →
        completesAs d m q r k.val (.loop k ra imm e) { op := 0x7D, a := ra.val, imm := im 0x7D, enc := e } (fun z =>
          let w := setSr 11 a.v (setSr 10 (target 0x7D) (setSr 9 z.pc z))
          if a.v = 0#32 then { w with pc := target 0x7D + wd (lengthAt k.val m (target 0x7D).toNat) } else w))) ∧
    (x.p = false → y.p = false →
      completesAs d m q r k.val (.cbeq k rx ry imm e) (cmp 0x77) (if x.v = y.v then jump 0x77 else fun z => z) ∧
      completesAs d m q r k.val (.cbne k rx ry imm e) (cmp 0x78) (if x.v ≠ y.v then jump 0x78 else fun z => z) ∧
      completesAs d m q r k.val (.cblt k rx ry imm e) (cmp 0x79) (if x.v.slt y.v then jump 0x79 else fun z => z) ∧
      completesAs d m q r k.val (.cbge k rx ry imm e) (cmp 0x7A) (if y.v.sle x.v then jump 0x7A else fun z => z) ∧
      completesAs d m q r k.val (.cbltu k rx ry imm e) (cmp 0x7B) (if x.v.ult y.v then jump 0x7B else fun z => z) ∧
      completesAs d m q r k.val (.cbgeu k rx ry imm e) (cmp 0x7C) (if y.v.ule x.v then jump 0x7C else fun z => z))

/-- The system rows of R373.
The model's own choices that stand behind it: log entries 3, 67, 68, 69 and 74. -/
def Obligations.SystemInstructions : Prop :=
  ∀ (d : Device) (m : Memory) (q r : List Instr) (k : Fin 36) (rd ra : Fin 32) (e : Enc),
    let c := coreOf d k.val
    let a := wOf c ra.val
    let f := fetched d m k.val (positionLen k.val [{ op := 0x7F, enc := e }])
    let pendingLine := (List.range 64).any (fun l => linePend d k.val l && lineEn d k.val l)
    (mfsLevel ra.val ≤ plOf c → completesAs d m q r k.val (.mfs k rd ra e) { op := 0x82, d := rd.val, a := ra.val, enc := e }
      (setW rd.val { v := if ra.val = 15 then srOf c 15 ||| wd (c.stack.length * 256) else srOf c ra.val, p := false })) ∧
    (mtsLevel rd.val ≤ plOf c → a.p = false → (rd.val = 0 → fld a.v 0 2 ≠ 2 ∧
        (plOf c = 1 → fld a.v 0 2 = fld (srOf c 0) 0 2 ∧ bit a.v 8 = bit (srOf c 0) 8)) →
      (srOf (setSr rd.val (a.v &&& srMask rd.val) c) 10 ≠ c.pc ∨ srOf (setSr rd.val (a.v &&& srMask rd.val) c) 11 = 0#32) →
      completesAs d m q r k.val (.mts k rd ra e) { op := 0x83, d := rd.val, a := ra.val, enc := e } (setSr rd.val (a.v &&& srMask rd.val))) ∧
    (plOf c ≠ 0 ∨ rdB d (pgIcu k.val) Reg.ICU.CTL 0 = true →
      completesAs d m q r k.val (.wait k e) { op := 0x80, enc := e } (fun z => { z with waiting := !pendingLine })) ∧
    completesAs d m q r k.val (.barrier k e) { op := 0x81, enc := e } (fun z => z) ∧
    (∀ (fr : List Byte) (p : Bool) (u : Device), plOf c ≠ 0 → issues d m k.val { op := 0x7F, enc := e } = true →
      accessFault f k.val false true (frameParts c) = none → loadParts k.val true m (frameParts c) [] f = (.ok fr p, [], u) →
      frameFault c fr p = none → calm u = true → u.legs = d.legs →
      ∃ t, exec (.retx k e) ⟨d, m, q, r⟩ = .next ⟨t, m, q, r⟩ ∧
        retires u t k.val (positionLen k.val [{ op := 0x7F, enc := e }]) (restoreFrame fr)) ∧
    (∀ (n : Byte), n.toNat < 128 →
      let i : KInst := { op := 0x7E, imm := wd n.toNat, enc := e }
      let b := fetched d m k.val (positionLen k.val [i])
      let req : EntryReq := { desc := 64 + n.toNat, xpc := c.pc + wd (positionLen k.val [i]), detail := 0, xaddr := 0#32, prio := 0, rep := none }
      issues d m k.val i = true → calm b = true → entryReady b m k.val req →
      ∃ v m', exec (.trap k n e) ⟨d, m, q, r⟩ = .next ⟨v, m', q, r⟩ ∧ handlerEntered b v m m' k.val req ∧
        Sys2Proof.Machine.rd v (pgCore k.val) Reg.CORE.RETIRED = Sys2Proof.Machine.rd d (pgCore k.val) Reg.CORE.RETIRED + 1#32)

/-- What every exception and interrupt shares: which stack, what is saved, and what the status becomes.
The model's own choices that stand behind it: log entry 73. -/
def Obligations.HandlerEntry : Prop :=
  ∀ (k : Nat) (req : EntryReq) (d f : Device) (m : Memory) (x : Desc), k < 36 → readDesc k req.desc m [] d = (.good x, [], f) →
    entryRoom k (coreOf f k) req x → ∃ v m', enterRec k 8 req [] (d, m) = .done (v, m') ∧ atHandler (coreOf v k) (coreOf f k) req x

/-- R388, as what the instruction evaluates to and as the command's next state. -/
def Obligations.ReturnStackUnderflow : Prop :=
  (∀ (d : Device) (k : Nat) (c : Core) (e : Enc), c.stack = [] → evalOne d k c { op := 0x72, enc := e } = .fault { desc := 6, detail := 2 }) ∧
  (∀ (d : Device) (m : Memory) (q r : List Instr) (k : Fin 36) (e : Enc) (v : Device) (m' : Memory),
    issues d m k.val { op := 0x72, enc := e } = true → (coreOf d k.val).stack = [] →
    enterRec k.val 8 { desc := 6, xpc := (coreOf d k.val).pc, detail := 2, xaddr := 0#32, prio := 0, rep := none } []
      (fetched d m k.val (positionLen k.val [{ op := 0x72, enc := e }]), m) = .done (v, m') →
    calm v = true → v.legs = d.legs → exec (.ret k e) ⟨d, m, q, r⟩ = .next ⟨v, m', q, r⟩)

/-- SCRUB_REPORT, SCRUB_REPAIR and SCRUB_WORD.
The model's own choices that stand behind it: log entries 76 and 124. -/
def Obligations.ScrubPasses : Prop :=
  (∀ (d : Device) (m : Memory) (q r : List Instr) (n : Fin 4) (w : Wr) (repair : Bool), calm d = true → enabled d (pgScrub n.val) = true →
    let p := pgScrub n.val
    let i : Instr := if repair then .scrubRepair n w else .scrubReport n w
    let a := (rd d p Reg.SCRUB.START_LO).toNat + rdF d p Reg.SCRUB.START_HI 0 4 * 2 ^ 32
    let len := (rd d p Reg.SCRUB.LEN).toNat
    accepts d p Reg.SCRUB.CTL (if repair then withOnes w 3#32 else withOnes (without w 2#32) 1#32) = true →
    (∀ x, scrubRun d n.val = none → scrubRange d a len = some x → 8 ≤ len →
      ∃ e, exec i ⟨d, m, q, r⟩ = .next ⟨e, m, q, r⟩ ∧ e = { d with regs := e.regs, scrub := e.scrub, resp := .done } ∧
        keptBut ((p, Reg.SCRUB.CTL) :: ([Reg.SCRUB.STAT, Reg.SCRUB.WORDS, Reg.SCRUB.CE, Reg.SCRUB.UE, Reg.SCRUB.POISONED, Reg.SCRUB.FIRST_LO,
          Reg.SCRUB.FIRST_HI, Reg.SCRUB.LAST_LO, Reg.SCRUB.LAST_HI] ++ (List.range 16).map Reg.SCRUB.HIST).map (fun off => (p, off))) d e ∧
        rdF e p Reg.SCRUB.STAT 16 8 = x.1 % 256 ∧ rd e p Reg.SCRUB.WORDS = 0#32 ∧ rd e p Reg.SCRUB.CE = 0#32 ∧ rd e p Reg.SCRUB.UE = 0#32 ∧
        scrubRun e n.val = some { word := a / 8, left := len / 8, repair := repair, lastAt := 0, ueSeen := false, id := x.1, base := x.2 }) ∧
    (scrubRun d n.val = none → scrubRange d a (max 8 len) = none →
      ∃ e, exec i ⟨d, m, q, r⟩ = .next ⟨e, m, q, r⟩ ∧ e = { d with regs := e.regs, resp := .done } ∧ scrubRun e n.val = none ∧
        keptBut [(p, Reg.SCRUB.CTL), (p, hERR_CODE), (p, hERR_INFO)] d e ∧
        (rdF d p hERR_CODE 0 8 = 0 → rdF e p hERR_CODE 0 8 = 0x80)) ∧
    (scrubRun d n.val ≠ none → ∃ e, exec i ⟨d, m, q, r⟩ = .next ⟨e, m, q, r⟩ ∧
      e = { d with regs := e.regs, resp := .error (.refused 0x81) } ∧ keptBut [(p, hERR_CODE), (p, hERR_INFO)] d e)) ∧
  (∀ (d : Device) (m : Memory) (q r : List Instr) (n : Fin 4) (x : ScrubPass), scrubRun d n.val = some x → scrubReady d n.val = true →
    ramOk d (8 * x.word) = true →
    let p := pgScrub n.val
    let y := decodeWord m x.word
    let next : ScrubPass := { x with
      word := x.word + 1, left := x.left - 1, lastAt := d.time.now + 1, ueSeen := x.ueSeen || decide (y.outcome = .uncorrectable) }
    ∃ e, exec (.scrubWord n) ⟨d, m, q, r⟩ = .next ⟨e, if x.repair ∧ y.outcome ≠ .clean then storeWord x.word y.data y.bad m else m, q, r⟩ ∧
      e = { d with regs := e.regs, scrub := e.scrub, eva := e.eva } ∧
      (∀ k, k ≠ n.val → scrubRun e k = scrubRun d k) ∧
      rd e p Reg.SCRUB.WORDS = rd d p Reg.SCRUB.WORDS + 1#32 ∧
      rd e p Reg.SCRUB.CE = rd d p Reg.SCRUB.CE + (if y.outcome = .corrected then 1#32 else 0#32) ∧
      rd e p Reg.SCRUB.POISONED = rd d p Reg.SCRUB.POISONED + (if y.outcome = .poisoned then 1#32 else 0#32) ∧
      rd e p Reg.SCRUB.UE = rd d p Reg.SCRUB.UE + (if y.outcome = .uncorrectable then 1#32 else 0#32) ∧
      (y.outcome = .corrected ∨ y.outcome = .uncorrectable → rd e p Reg.SCRUB.LAST_LO = wd (8 * x.word)) ∧
      (y.outcome = .uncorrectable → x.ueSeen = false → rdB e p hIRQ_RAW 1 = true) ∧
      (1 < x.left → scrubRun e n.val = some next ∧ rdB e p Reg.SCRUB.STAT 0 = rdB d p Reg.SCRUB.STAT 0) ∧
      (x.left ≤ 1 → scrubRun e n.val = none ∧ rdB e p Reg.SCRUB.STAT 0 = true ∧ rdB e p hIRQ_RAW 0 = true))

/-- The commands of the check-value units.
The model's own choices that stand behind it: log entries 78, 79 and 80. -/
def Obligations.CheckValues : Prop :=
  (∀ (d : Device) (m : Memory) (q r : List Instr) (c : Fin 8) (w : Wr), calm d = true → accepts d (pgCvu c.val) Reg.CVU.CTL (withOnes w 1#32) = true →
    enabled d (pgCvu c.val) = true → bit w.data 1 = false →
    ∀ i ∈ ([.cvuCompute c w, .cvuCheck c w, .cvuMessage c w] : List Instr),
      (cvuBusyB d c.val = false → cvuRemote d c.val = false → cvuBadRange d c.val = false → scanOf d c.val = {} →
        let d0 := wrB (pgCvu c.val) Reg.CVU.STAT 0 false { d with cvuBusy := d.cvuBusy ++ [c.val], resp := .done }
        let u := scanReads c.val m (readsLeft d0 c.val) d0
        calm u = true ∨ (calm { u with cvuBusy := d.cvuBusy } = true ∧ readsLeft u c.val = []) → u.legs = d.legs →
        exec i ⟨d, m, q, r⟩ = .next ⟨u, m, q, r⟩) ∧
      (cvuBusyB d c.val = false → cvuRemote d c.val = false → cvuBadRange d c.val = false → scanOf d c.val = {} →
        (∀ p ∈ cvuPieces d c.val, isHome d (destOf p.1) = true ∧ localOf p.1 + p.2 ≤ 2 ^ 36 ∧ cleanAt d m (localOf p.1) p.2 = true) →
        ∃ e, exec i ⟨d, m, q, r⟩ = .next ⟨e, m, q, r⟩ ∧
          e = { d with regs := e.regs, cvuBusy := d.cvuBusy ++ [c.val], cvuScan := e.cvuScan, resp := .done } ∧
          keptBut [(pgCvu c.val, Reg.CVU.STAT)] d e ∧ rdB e (pgCvu c.val) Reg.CVU.STAT 0 = false ∧ readsLeft e c.val = [] ∧
          scanOf e c.val = { got := (cvuPieces d c.val).flatMap (fun p => bytesAt m (localOf p.1) p.2), fault := none }) ∧
      (cvuBusyB d c.val = false → cvuBadRange d c.val = true → ∃ e, exec i ⟨d, m, q, r⟩ = .next ⟨e, m, q, r⟩ ∧
        e = { d with regs := e.regs, resp := .error (.refused 0x81) } ∧ keptBut [(pgCvu c.val, hERR_CODE), (pgCvu c.val, hERR_INFO)] d e) ∧
      (cvuBusyB d c.val = true → ∃ e, exec i ⟨d, m, q, r⟩ = .next ⟨e, m, q, r⟩ ∧
        e = { d with regs := e.regs, resp := .error (.refused 0x80) } ∧ keptBut [(pgCvu c.val, hERR_CODE), (pgCvu c.val, hERR_INFO)] d e)) ∧
  (∀ (d : Device) (m : Memory) (q r : List Instr) (c : Fin 8) (bs : List Byte), cvuBusyB d c.val = true → domainOn d (pgCvu c.val) = true →
    scanOf d c.val = { got := bs, fault := none } → readsLeft d c.val = [] → calm (scanReport c.val d) = true →
    let p := pgCvu c.val
    let msg := cvuMode d c.val = 2
    let k := cvuChk d c.val
    let fed := cvuFold d c.val ++ (if msg then bs.take k.1 ++ bs.drop (k.1 + k.2) else bs)
    let res := cvuValue d c.val fed
    let ctr := cvuField d c.val bs (cvuCtr d c.val)
    let bad := cvuMode d c.val = 1 ∧ res ≠ cvuRd64 d c.val Reg.CVU.EXPECT_LO Reg.CVU.EXPECT_HI % 2 ^ cvuWidth d c.val
    let out := if msg then (cvuOutcome d c.val res bs).1 else if bad then 4 else 0
    ∃ e, exec (.cvuComplete c) ⟨d, m, q, r⟩ = .next ⟨e, m, q, r⟩ ∧
      e = { d with regs := e.regs, eva := e.eva, cvuBusy := e.cvuBusy, cvuScan := e.cvuScan } ∧
      keptBut ([(p, Reg.CVU.RES_LO), (p, Reg.CVU.RES_HI), (p, Reg.CVU.STAT), (p, Reg.CVU.LAST_CTR), (p, Reg.CVU.MSG_CNT), (p, Reg.CVU.BAD_CNT)]
        ++ raiseRegs p) d e ∧
      cvuBusyB e c.val = false ∧ rd e p Reg.CVU.RES_LO = wd res ∧ rd e p Reg.CVU.RES_HI = wd (res / 2 ^ 32) ∧
      rdB e p Reg.CVU.STAT 0 = true ∧ rdF e p Reg.CVU.STAT 2 3 = out ∧ rdB e p hIRQ_RAW 0 = true ∧
      (msg → rd e p Reg.CVU.MSG_CNT = rd d p Reg.CVU.MSG_CNT + 1#32) ∧ (¬ msg → rd e p Reg.CVU.MSG_CNT = rd d p Reg.CVU.MSG_CNT) ∧
      (msg → out = 0 ∨ out = 2 → rd e p Reg.CVU.LAST_CTR = wd (2 ^ 31 + ctr)) ∧
      (¬ msg ∨ out = 1 ∨ out = 4 → rd e p Reg.CVU.LAST_CTR = rd d p Reg.CVU.LAST_CTR) ∧
      (out ≠ 0 → rd e p Reg.CVU.BAD_CNT = rd d p Reg.CVU.BAD_CNT + 1#32 ∧ rdB e p hIRQ_RAW 1 = true) ∧
      (out = 0 → rd e p Reg.CVU.BAD_CNT = rd d p Reg.CVU.BAD_CNT)) ∧
  (∀ (d : Device) (m : Memory) (q r : List Instr) (c : Fin 8) (bs : List Byte) (cause fa : Nat), cvuBusyB d c.val = true →
    domainOn d (pgCvu c.val) = true → scanOf d c.val = { got := bs, fault := some (cause, fa) } → calm (scanReport c.val d) = true →
    ∃ e, exec (.cvuComplete c) ⟨d, m, q, r⟩ = .next ⟨e, m, q, r⟩ ∧
      e = { d with regs := e.regs, eva := e.eva, cvuBusy := e.cvuBusy, cvuScan := e.cvuScan } ∧ cvuBusyB e c.val = false ∧
      rd e (pgCvu c.val) Reg.CVU.STAT = wd (cause * 256 + 128) ∧ rd e (pgCvu c.val) Reg.CVU.FAULT_ADDR_LO = wd fa ∧
      rd e (pgCvu c.val) Reg.CVU.FAULT_ADDR_HI = wd (fa / 2 ^ 32) ∧ rd e (pgCvu c.val) Reg.CVU.RES_LO = 0#32 ∧
      rd e (pgCvu c.val) Reg.CVU.RES_HI = 0#32 ∧ rdB e (pgCvu c.val) hIRQ_RAW 2 = true) ∧
  (∀ (d : Device) (m : Memory) (q r : List Instr) (c : Fin 8) (w : Wr), calm d = true → cvuBusyB d c.val = false →
    accepts d (pgCvu c.val) Reg.CVU.CTL (withOnes (without w 1#32) 2#32) = true →
    exec (.clrLast c w) ⟨d, m, q, r⟩ = .next ⟨wrB (pgCvu c.val) Reg.CVU.LAST_CTR 31 false { d with resp := .done }, m, q, r⟩)

/-- The commands of the Ethernet ports.
The model's own choices that stand behind it: log entries 81, 83, 84 and 85. -/
def Obligations.FramesAndPorts : Prop :=
  (∀ (d : Device) (m : Memory) (q r : List Instr) (e : Fin 2) (bs : List Byte) (ok : Bool) (line : RxLine), calm d = true →
    (ethUp d e.val = false → exec (.frameReceive e bs ok line) ⟨d, m, q, r⟩ = .next ⟨d, m, q, r⟩) ∧
    (ethUp d e.val = true → line.high = 0#8 → line.low = 0#8 →
      let p := pgEth e.val
      let u := fecCount e.val Reg.ETH.CNT_FEC_UNCORR line.fecUncorr (fecCount e.val Reg.ETH.CNT_FEC_CORR line.fecCorr d)
      let fits := 60 ≤ bs.length ∧ bs.length ≤ 9212
      let dst := numBE (slice bs 0 6)
      let typ := numBE (slice bs 12 2)
      (¬ fits → exec (.frameReceive e bs ok line) ⟨d, m, q, r⟩ = .next ⟨bump p Reg.ETH.CNT_DROP u, m, q, r⟩) ∧
      (fits → ok = false → exec (.frameReceive e bs ok line) ⟨d, m, q, r⟩ = .next ⟨bump p Reg.ETH.CNT_FCS u, m, q, r⟩) ∧
      (fits → ok = true → dst ≠ 0x0180C2000001 → macAccepted d e.val dst = false ∨ typ = 0x8808 →
        exec (.frameReceive e bs ok line) ⟨d, m, q, r⟩ = .next ⟨bump p Reg.ETH.CNT_DROP (bump p Reg.ETH.CNT_RX u), m, q, r⟩) ∧
      (fits → ok = true → typ = 0x888E → macAccepted d e.val dst = true → etCtl d e.val 4 = false → rdB d p Reg.ETH.VLAN 16 = true →
        (asleep d = true → exec (.frameReceive e bs ok line) ⟨d, m, q, r⟩ = .next ⟨bump p Reg.ETH.CNT_DROP (bump p Reg.ETH.CNT_RX u), m, q, r⟩) ∧
        (∀ t m', asleep d = false → line.damage = [] → ringIn e.val bs [] false (bump p Reg.ETH.CNT_RX u, m) = (t, m') →
          exec (.frameReceive e bs ok line) ⟨d, m, q, r⟩ = .next ⟨t, m', q, r⟩)))) ∧
  (∀ (e : Nat) (bs : List Byte) (bad : List Bool) (st : Bool) (d t : Device) (m m' : Memory), ringIn e bs bad st (d, m) = (t, m') → e < 2 →
    bs.length ≤ 9212 → domainOn d (pgEth e) = true →
    let n := ringSlots (etRd d e Reg.ETH.RAWRX_CFG)
    let i := rdF d (pgEth e) Reg.ETH.RAWRX_WR 0 6
    let a := slotAddr (rdF d (pgEth e) Reg.ETH.RAWRX_BASE 12 14 * 4096) i
    (n = 0 ∨ (i + 1) % n = rdF d (pgEth e) Reg.ETH.RAWRX_RD 0 6 → m' = m ∧ etRd t e Reg.ETH.CNT_DROP = etRd d e Reg.ETH.CNT_DROP + 1#32) ∧
    (n ≠ 0 → (i + 1) % n ≠ rdF d (pgEth e) Reg.ETH.RAWRX_RD 0 6 → etRd t e Reg.ETH.RAWRX_WR = wd ((i + 1) % n) ∧
      rdB t (pgEth e) hIRQ_RAW 1 = true ∧ (∀ x, x < a ∨ a + 16 + (bs.length + 7) / 8 * 8 ≤ x → memByte m' x = memByte m x) ∧
      (cleanAt d m a (16 + bs.length) = true → bytesAt m' a 4 = bytesLE 4 (bs.length + 65536 * b2n st) ∧ bytesAt m' (a + 16) bs.length = bs ∧
        (∀ x, x < a ∨ (a + 4 ≤ x ∧ x < a + 16) ∨ a + 16 + bs.length ≤ x → memByte m' x = memByte m x) ∧
        (bad = [] → cleanAt d m' a (16 + bs.length) = true)))) ∧
  (∀ (d : Device) (m : Memory) (q r : List Instr) (e : Fin 2) (p : Fin 8), (ethOf d e.val).wait = [] →
    exec (.pfcPauseExpiry e p) ⟨d, m, q, r⟩ =
      .next ⟨if paused d e.val p.val then wrB (pgEth e.val) Reg.ETH.PFC_STAT p.val false d else d, m, q, r⟩) ∧
  (∀ (d : Device) (m : Memory) (q r : List Instr) (e : Fin 2) (w : Wr), calm d = true → (ethOf d e.val).wait = [] →
    accepts d (pgEth e.val) Reg.ETH.RAWTX_WR w = true →
    ∃ t, exec (.rawtxWr e w) ⟨d, m, q, r⟩ = .next ⟨t, m, q, r⟩ ∧ t = { d with regs := t.regs, resp := .done } ∧
      keptBut [(pgEth e.val, Reg.ETH.RAWTX_WR)] d t ∧
      etRd t e.val Reg.ETH.RAWTX_WR = storedValue d (pgEth e.val) Reg.ETH.RAWTX_WR w.data) ∧
  (∀ (d : Device) (m : Memory) (q r : List Instr) (e : Fin 2) (fines : Nat) (h : ReadOut) (u : Device), rawTxReady d e.val = true →
    let n := ringSlots (etRd d e.val Reg.ETH.RAWTX_CFG)
    let i := rdF d (pgEth e.val) Reg.ETH.RAWTX_RD 0 6
    let a := slotAddr (rdF d (pgEth e.val) Reg.ETH.RAWTX_BASE 12 14 * 4096) i
    let len := numLE h.bytes % 2 ^ 14
    readMem a 4 m d = some (h, u) →
    (len < 60 ∨ 9212 < len → exec (.rawtxDone e fines) ⟨d, m, q, r⟩ =
      .next ⟨wr (pgEth e.val) Reg.ETH.RAWTX_RD (wd ((i + 1) % n)) (bump (pgEth e.val) Reg.ETH.CNT_DROP u), m, q, r⟩) ∧
    (∀ b v, 60 ≤ len → len ≤ 9212 → readMem (a + 16) len m u = some (b, v) → numLE h.bytes / 65536 % 2 = 0 →
      exec (.rawtxDone e fines) ⟨d, m, q, r⟩ = .next ⟨raise (pgEth e.val) 2 (wr (pgEth e.val) Reg.ETH.RAWTX_RD (wd ((i + 1) % n))
        (sendFrame e.val 7 (.raw b.bytes) v)), m, q, r⟩)) ∧
  (∀ (d : Device) (m : Memory) (q r : List Instr) (e : Fin 2) (fines : Nat), rawTxReady d e.val = false →
    exec (.rawtxDone e fines) ⟨d, m, q, r⟩ = .next ⟨d, m, q, r⟩) ∧
  (∀ (d : Device) (m : Memory) (q r : List Instr) (e : Fin 2) (v : Word), (ethOf d e.val).wait = [] → ethOn d e.val = true →
    let same := rdB d (pgEth e.val) Reg.ETH.STAT 0 = bit v 0
    ∃ t, exec (.linkChg e v) ⟨d, m, q, r⟩ = .next ⟨t, m, q, r⟩ ∧ t = { d with regs := t.regs, eth := t.eth, eva := t.eva } ∧
      keptBut ((pgEth e.val, Reg.ETH.STAT) :: raiseRegs (pgEth e.val)) d t ∧
      (∀ i ∈ [0, 2, 3, 4, 5, 8, 9, 10, 11], rdB t (pgEth e.val) Reg.ETH.STAT i = bit v i) ∧
      (same → rdB t (pgEth e.val) hIRQ_RAW 0 = rdB d (pgEth e.val) hIRQ_RAW 0 ∧ (ethOf t e.val).linkAt = (ethOf d e.val).linkAt) ∧
      (¬ same → rdB t (pgEth e.val) hIRQ_RAW 0 = true ∧ (ethOf t e.val).linkAt = d.time.now))

/-- R481 and R482 for the nine request rows that share the sequence, and what each of them does on this device.
The model's own choices that stand behind it: log entries 82, 86, 87, 88 and 89. -/
def Obligations.SessionSequence : Prop :=
  (∀ (d : Device) (m : Memory) (q r : List Instr) (h : UandiHead) (addr : FabAddr) (a b : Word) (bs : List Byte) (mode : Byte)
      (hold : BitVec 16) (map : BitVec 1024) (last : Bool),
      let field := bytesBE 2 0 ++ bytesBE 6 addr.toNat
      let s := h.sess.val
      ∀ x ∈ ([(.close h, 0x02, []), (.read h addr, 0x10, field), (.write h addr a, 0x11, field ++ bytesBE 4 a.toNat),
          (.readBlock h addr a, 0x12, field ++ bytesBE 4 a.toNat), (.writeBlock h addr a bs, 0x13, field ++ bytesBE 4 a.toNat ++ bs),
          (.rmw h addr a b, 0x14, field ++ bytesBE 4 a.toNat ++ bytesBE 4 b.toNat), (.fence h, 0x15, []),
          (.eventSubscribe h mode hold map, 0x20, [mode, 0#8] ++ bytesBE 2 hold.toNat ++ bytesLE 128 map.toNat),
          (.loadImage h a b last bs, 0x40, bytesBE 4 a.toNat ++ bytesBE 4 b.toNat ++ [if last then 1#8 else 0#8, 0#8, 0#8, 0#8] ++ bs)] :
          List (Instr × Nat × List Byte)),
        let req := reqOf h x.2.1 x.2.2
        (∀ t m', inTurn d h = true → waitsAbort d req = false → performReq s req (begun d h req, m) = (t, m') → still d t →
          exec x.1 ⟨d, m, q, r⟩ = .next ⟨t, m', q, r⟩) ∧
        (∀ c, calm d = true → ethUp d 0 = true → asleep d = false → uandiOn d = true → (sessOf d s).opened = true →
          (sessOf d s).closing = false → h.gen.toNat = (sessOf d s).gen → boundTo d s h.peer = true →
          2 ^ 32 - 64 ≤ (h.seq.toNat + 2 ^ 32 - (sessOf d s).next) % 2 ^ 32 →
          (sessOf d s).cache.find? (fun e => decide (e.seq = h.seq.toNat)) = some c → still d (respondAgain s req c d) →
          exec x.1 ⟨d, m, q, r⟩ = .next ⟨respondAgain s req c d, m, q, r⟩) ∧
        (calm d = true → ethUp d 0 = true → asleep d = false → uandiOn d = true → (sessOf d s).opened = false → plainPort d = true →
          ∃ e, exec x.1 ⟨d, m, q, r⟩ = .next ⟨e, m, q, r⟩ ∧ e = { d with regs := e.regs, fab := e.fab, sent := e.sent } ∧
            keptBut [(pgEth 0, Reg.ETH.CNT_TX)] d e ∧ e.sent = d.sent ++ [responseOf d s req 0x0304 false []])) ∧
  (∀ (d : Device) (m : Memory) (q r : List Instr) (h : UandiHead), calm d = true → inTurn d h = true → plainPort d = true →
     let s := h.sess.val
     let field := fun (addr : FabAddr) => bytesBE 2 0 ++ bytesBE 6 addr.toNat
     let quiet := fun (e : Device) => e = { d with regs := e.regs, fab := e.fab, sess := e.sess, sent := e.sent } ∧
       keptBut [(pgEth 0, Reg.ETH.CNT_TX)] d e
     (∃ e, exec (.fence h) ⟨d, m, q, r⟩ = .next ⟨e, m, q, r⟩ ∧ quiet e ∧ answers d e s (reqOf h 0x15 []) 0 false []) ∧
     (∃ e, exec (.close h) ⟨d, m, q, r⟩ = .next ⟨e, m, q, r⟩ ∧
       e = { d with regs := e.regs, fab := e.fab, sess := e.sess, sent := e.sent, eva := e.eva } ∧
       keptBut ((pgEth 0, Reg.ETH.CNT_TX) :: raiseRegs pgUandi) d e ∧ e.sent = d.sent ++ [responseOf d s (reqOf h 0x02 []) 0 false []] ∧
       (sessOf e s).opened = false ∧ (sessOf e s).peer = none ∧ (sessOf e s).subs = 0#1024 ∧ (sessOf e s).events = [] ∧
       (sessOf e s).gen = (sessOf d s).gen ∧ (∀ j, j ≠ s → sessOf e j = sessOf d j) ∧ rdB e pgUandi hIRQ_RAW 1 = true) ∧
     (∀ (addr : FabAddr) (v w : Word), let a := localOf addr.toNat
       isHome d (destOf addr.toNat) = true → a % 4 = 0 → cleanAt d m a 4 = true →
       (aclAllows d s addr.toNat 4 true false = true →
         ∃ e, exec (.read h addr) ⟨d, m, q, r⟩ = .next ⟨e, m, q, r⟩ ∧ quiet e ∧
           answers d e s (reqOf h 0x10 (field addr)) 0 false (bytesAt m a 4).reverse) ∧
       (aclAllows d s addr.toNat 4 false true = true → h.poison = false →
         ∃ e m', exec (.write h addr v) ⟨d, m, q, r⟩ = .next ⟨e, m', q, r⟩ ∧ quiet e ∧ storedAt m m' a (bytesLE 4 v.toNat) ∧
           answers d e s (reqOf h 0x11 (field addr ++ bytesBE 4 v.toNat)) 0 false []) ∧
       (aclAllows d s addr.toNat 4 true true = true → h.poison = false →
         ∃ e m', exec (.rmw h addr v w) ⟨d, m, q, r⟩ = .next ⟨e, m', q, r⟩ ∧ quiet e ∧
           storedAt m m' a (bytesLE 4 (rmwWord (wd (numLE (bytesAt m a 4))) v w).toNat) ∧
           answers d e s (reqOf h 0x14 (field addr ++ bytesBE 4 v.toNat ++ bytesBE 4 w.toNat)) 0 false (bytesAt m a 4).reverse)) ∧
     (∀ (addr : FabAddr) (len : Word) (bs rest : List Byte), let a := localOf addr.toNat
       isHome d (destOf addr.toNat) = true → 1 ≤ len.toNat → len.toNat ≤ 8192 → a + len.toNat ≤ 2 ^ 36 → cleanAt d m a len.toNat = true →
       (aclAllows d s addr.toNat len.toNat true false = true →
         ∃ e, exec (.readBlock h addr len) ⟨d, m, q, r⟩ = .next ⟨e, m, q, r⟩ ∧ quiet e ∧
           answers d e s (reqOf h 0x12 (field addr ++ bytesBE 4 len.toNat)) 0 false (bytesAt m a len.toNat)) ∧
       (aclAllows d s addr.toNat len.toNat false true = true → h.poison = false → bs.length = len.toNat →
         (bs ++ rest).length = (len.toNat + 3) / 4 * 4 →
         ∃ e m', exec (.writeBlock h addr len (bs ++ rest)) ⟨d, m, q, r⟩ = .next ⟨e, m', q, r⟩ ∧ quiet e ∧ storedAt m m' a bs ∧
           answers d e s (reqOf h 0x13 (field addr ++ bytesBE 4 len.toNat ++ (bs ++ rest))) 0 false (bytesBE 4 len.toNat))) ∧
     (∀ (mode : Byte) (hold : BitVec 16) (map : BitVec 1024), sessRight d s 1 = true → mode.toNat ≤ 2 →
       let subs := if mode = 0#8 then map else if mode = 1#8 then (sessOf d s).subs ||| map else (sessOf d s).subs &&& ~~~ map
       ∃ e, exec (.eventSubscribe h mode hold map) ⟨d, m, q, r⟩ = .next ⟨e, m, q, r⟩ ∧ quiet e ∧ (sessOf e s).subs = subs ∧
         (sessOf e s).hold = hold.toNat ∧
         answers d e s (reqOf h 0x20 ([mode, 0#8] ++ bytesBE 2 hold.toNat ++ bytesLE 128 map.toNat)) 0 false (bytesBE 4 (countBits subs))) ∧
     (∀ (off total : Word) (bs : List Byte), let n := min bs.length (total.toNat - off.toNat)
       sessRight d s 3 = true → d.sys.mode = .boot → d.sys.hostImage = true → d.sys.verify = none → total.toNat ≤ 0x2000000 →
       off.toNat = d.sys.received → d.sys.total = none ∨ d.sys.total = some total.toNat → bs.length % 4 = 0 →
       cleanAt d m (bulkBase + off.toNat) n = true →
       ∃ e m', exec (.loadImage h off total false bs) ⟨d, m, q, r⟩ = .next ⟨e, m', q, r⟩ ∧
         e = { d with
           regs := e.regs, fab := e.fab, sess := e.sess, sent := e.sent
           sys := { d.sys with received := off.toNat + n, total := some total.toNat } } ∧
         keptBut [(pgEth 0, Reg.ETH.CNT_TX)] d e ∧ storedAt m m' (bulkBase + off.toNat) (bs.take n) ∧
         answers d e s (reqOf h 0x40 (bytesBE 4 off.toNat ++ bytesBE 4 total.toNat ++ [0#8, 0#8, 0#8, 0#8] ++ bs)) 0 false
           (bytesBE 4 (off.toNat + n))))

/-- The operations behind `Obligations.SessionSequence`, for every state they can be performed in.
The model's own choices that stand behind it: log entries 86, 88 and 89. -/
def Obligations.SessionOperations : Prop :=
  (∀ (s : Nat) (x : SessReq) (u : Device) (m : Memory),
    (knownOp x.opcode = false → performReq s x (u, m) = (respond s x 0x0302 false [] u, m)) ∧
    (knownOp x.opcode = true → formatOk x = false → performReq s x (u, m) = (respond s x 0x0303 false [] u, m)) ∧
    (formatOk x = true → x.opcode = 0x15 → performReq s x (u, m) = (respond s x 0 false [] u, m)) ∧
    (formatOk x = true → x.opcode = 0x02 → performReq s x (u, m) = (closeSession s (respond s x 0 false [] u), m)) ∧
    (formatOk x = true → (0x10 ≤ x.opcode ∧ x.opcode ≤ 0x14) →
      (aclAllows u s (reqAddr x) (reqLen x) (x.opcode % 2 = 0) (x.opcode ≠ 0x10 ∧ x.opcode ≠ 0x12) = false →
        performReq s x (u, m) = (respond s x 0x0301 false [] u, m)) ∧
      (aclAllows u s (reqAddr x) (reqLen x) (x.opcode % 2 = 0) (x.opcode ≠ 0x10 ∧ x.opcode ≠ 0x12) = true → reqHome u x = true →
        rangeOk u (localOf (reqAddr x)) (reqLen x) (x.opcode ≠ 0x10 ∧ x.opcode ≠ 0x12) = false →
        performReq s x (u, m) = (respond s x 0x0201 false [] u, m))) ∧
    (∀ p off, formatOk x = true → x.opcode = 0x10 → aclAllows u s (reqAddr x) 4 true false = true → reqHome u x = true →
      pageAt (localOf (reqAddr x)) = some (p, off) →
      (localOf (reqAddr x) % 4 = 0 → pageMapped u p = true →
        performReq s x (u, m) = (respond s x 0 false (bytesBE 4 (pageView p off u).toNat) (readEffect p off (sessReq u s) u), m)) ∧
      (localOf (reqAddr x) % 4 ≠ 0 → rangeOk u (localOf (reqAddr x)) 4 false = true →
        performReq s x (u, m) = (respond s x 0 false [0#8, 0#8, 0#8, 0#8] (recordErr p 0x03 (sessReq u s) off u), m))) ∧
    (∀ o v, formatOk x = true → x.opcode = 0x10 → aclAllows u s (reqAddr x) 4 true false = true → reqHome u x = true →
      inPages (localOf (reqAddr x)) = false → readMem (localOf (reqAddr x)) 4 m u = some (o, v) →
      performReq s x (u, m) = (respond s x 0 o.poison o.bytes.reverse v, m)) ∧
    (∀ t, formatOk x = true → x.opcode = 0x11 → aclAllows u s (reqAddr x) 4 false true = true → reqHome u x = true →
      inPages (localOf (reqAddr x)) = false → writeMem (localOf (reqAddr x)) (reqData x) (fun i => (reqBad x).getD i false) (u, m) = some t →
      performReq s x (u, m) = (respond s x 0 false [] t.1, t.2)) ∧
    (formatOk x = true → x.opcode = 0x20 → (sessRight u s 1 = false → performReq s x (u, m) = (respond s x 0x0301 false [] u, m)) ∧
      (sessRight u s 1 = true → ∃ n v, performReq s x (u, m) = (respond s x 0 false (bytesBE 4 n) v, m) ∧
        (sessOf v s).hold = numBE (slice x.body 2 2) ∧ (∀ i, i < 1024 → (sessOf v s).subs.getLsbD i =
          (let b := (numLE (slice x.body 4 128)).testBit i
           match numBE (slice x.body 0 1) with
           | 0 => b
           | 1 => (sessOf u s).subs.getLsbD i || b
           | _ => (sessOf u s).subs.getLsbD i && !b)))) ∧
    (formatOk x = true → x.opcode = 0x40 → sessRight u s 3 = true →
      (¬ (u.sys.mode = .boot ∧ u.sys.hostImage = true) → performReq s x (u, m) = (respond s x 0x0308 false [] u, m)) ∧
      (u.sys.mode = .boot → u.sys.hostImage = true → numBE (slice x.body 4 4) ≤ 0x2000000 → numBE (slice x.body 0 4) ≠ u.sys.received →
        performReq s x (u, m) = (respond s x 0x0401 false [] u, m)) ∧
      (u.sys.mode = .boot → u.sys.hostImage = true → numBE (slice x.body 4 4) ≤ 0x2000000 → numBE (slice x.body 0 4) = u.sys.received →
        u.sys.verify = none → u.sys.total = none ∨ u.sys.total = some (numBE (slice x.body 4 4)) → numBE (slice x.body 8 1) % 2 = 0 →
        let c := stageChunk (numBE (slice x.body 0 4)) (numBE (slice x.body 4 4)) (x.body.drop 12) (u, m)
        performReq s x (u, m) = (respond s x 0 false (bytesBE 4 c.1.sys.received) c.1, c.2)))) ∧
  (∀ (s : Nat) (x : SessReq) (st : Nat) (p : Bool) (body : List Byte) (u : Device),
    ∃ c ∈ (sessOf (respond s x st p body u) s).cache, c.seq = x.seq ∧ c.opcode = x.opcode ∧ c.status = st ∧ c.poison = p ∧
      (body.length ≤ 256 → c.long = false ∧ c.body = body) ∧ (256 < body.length → c.long = true ∧ c.body = [])) ∧
  (∀ (s : Nat) (u : Device), (sessOf u s).opened = true → (sessOf (closeSession s u) s).opened = false ∧
    (sessOf (closeSession s u) s).gen = (sessOf u s).gen ∧ (sessOf (closeSession s u) s).subs = 0#1024 ∧
    (sessOf (closeSession s u) s).peer = none)

/-- The rows of sessions that do not only go through the sequence.
The model's own choices that stand behind it: log entry 90. -/
def Obligations.SessionEvents : Prop :=
  (∀ (d : Device) (m : Memory) (q r : List Instr) (h : UandiHead), calm d = true → ethUp d 0 = true → asleep d = false → uandiOn d = true →
    let s := h.sess.val
    let g := (h.gen.toNat + 65536 - (sessOf d s).gen) % 65536
    (sessRight d s 0 = true → (sessOf d s).ever = false ∨ (1 ≤ g ∧ g ≤ 0x7FFF) → still d (openSession s (reqOf h 0x01 []) d) →
      ∃ e, exec (.sessOpen h) ⟨d, m, q, r⟩ = .next ⟨e, m, q, r⟩ ∧ e = openSession s (reqOf h 0x01 []) d ∧
        (sessOf e s).opened = true ∧ (sessOf e s).gen = h.gen.toNat ∧ (sessOf e s).next = (h.seq.toNat + 1) % 2 ^ 32 ∧
        (sessOf e s).peer = some h.peer ∧ (sessOf e s).subs = 0#1024 ∧ rdB e pgUandi hIRQ_RAW 0 = true) ∧
    (sessRight d s 0 = false → still d (sendResponse s (reqOf h 0x01 []) false 0x0301 false [] d) →
      exec (.sessOpen h) ⟨d, m, q, r⟩ = .next ⟨sendResponse s (reqOf h 0x01 []) false 0x0301 false [] d, m, q, r⟩)) ∧
  (∀ (d : Device) (m : Memory) (q r : List Instr) (h : UandiHead) (addr : FabAddr) (p : Nat), calm d = true → inTurn d h = true →
    let x := reqOf h 0x16 (bytesBE 2 0 ++ bytesBE 6 addr.toNat)
    formatOk x = true → reqHome d x = true → pageAt (localOf (reqAddr x)) = some (p, 0) → pageMapped d p = true →
    aclAllows d h.sess.val (reqAddr x) 4 false true = true →
    ∃ e, exec (.abortFunction h addr) ⟨d, m, q, r⟩ = .next ⟨e, m, q, r⟩ ∧ e = takeOff h.sess.val x (abortStart p (begun d h x)) ∧
      aborting e p = true ∧ x ∈ (sessOf e h.sess.val).fly) ∧
  (∀ (d : Device) (m : Memory) (q r : List Instr) (e : Fin 2) (h : UandiHead) (n : Byte) (limit : Word), calm d = true →
    ethUp d e.val = true → asleep d = false → uandiOn d = true →
    let ok := (sessOf d h.sess.val).opened = true ∧ h.gen.toNat = (sessOf d h.sess.val).gen ∧ sessRight d h.sess.val 2 = true ∧ n.toNat < 16
    let old := stRd d n.toNat Reg.STREAM.LIMIT
    (¬ ok → exec (.credit e h n limit) ⟨d, m, q, r⟩ = .next ⟨d, m, q, r⟩) ∧
    (ok → limit = old ∨ (limit - old).msb = true → exec (.credit e h n limit) ⟨d, m, q, r⟩ = .next ⟨d, m, q, r⟩) ∧
    (ok → limit ≠ old → (limit - old).msb = false →
      exec (.credit e h n limit) ⟨d, m, q, r⟩ = .next ⟨wr pgStream (Reg.STREAM.LIMIT n.toNat) limit d, m, q, r⟩)) ∧
  (∀ (d : Device) (m : Memory) (q r : List Instr) (n : Fin 16) (seq : BitVec 32) (o : OutReq) (x : SessReq),
    d.fab.out.find? (fun o => decide (o.src = .sess n.val seq.toNat)) = some o →
    o.sentAt + rdF d pgUandi Reg.UANDI.REMOTE_TO 0 16 * 1280 ≤ d.time.now → (sessOf d n.val).fly = [x] → x.seq = seq.toNat →
    (sessOf d n.val).closing = false → (sessOf d n.val).opening = none →
    let e := respond n.val x 0x0203 false [] (setSess n.val { sessOf d n.val with fly := [] } { d with fab := { d.fab with out := d.fab.out.erase o } })
    still d e → exec (.remoteTimeout n seq) ⟨d, m, q, r⟩ = .next ⟨e, m, q, r⟩) ∧
  (∀ (d : Device) (m : Memory) (q r : List Instr) (n : Fin 16), (holdOver d n.val = false →
      exec (.eventFrameHoldExpiry n) ⟨d, m, q, r⟩ = .next ⟨d, m, q, r⟩) ∧
    (holdOver d n.val = true → exec (.eventFrameHoldExpiry n) ⟨d, m, q, r⟩ = .next ⟨eventFrame n.val d, m, q, r⟩ ∧
      ((sessOf d n.val).peer ≠ none → (sessOf (eventFrame n.val d) n.val).events = (sessOf d n.val).events.drop 64 ∧
        (sessOf (eventFrame n.val d) n.val).lost = 0 ∧
        rd (eventFrame n.val d) pgUandi (Reg.UANDI.SESS_EVSEQ n.val) = rd d pgUandi (Reg.UANDI.SESS_EVSEQ n.val) + 1#32))) ∧
  (∀ (d : Device) (m : Memory) (q r : List Instr), calm d = true → d.sys.verify = none →
    exec .imageVerifyDone ⟨d, m, q, r⟩ = .next ⟨d, m, q, r⟩) ∧
  (∀ (d u : Device) (m m' : Memory) (q r : List Instr) (s : Nat) (x : SessReq) (bs : List Byte) (n : Nat), d.sys.verify = some (s, x) →
    takeImage d.sys.received ({ d with sys := { d.sys with verify := none } }, m) = (some bs, n, (u, m')) →
    let e := bootDone bs 1 (flyEnds s x.seq 0 false (bytesBE 4 d.sys.received) u)
    still d e → exec .imageVerifyDone ⟨d, m, q, r⟩ = .next ⟨e, m', q, r⟩) ∧
  (∀ (d u : Device) (m m' : Memory) (q r : List Instr) (s : Nat) (x : SessReq) (n : Nat), d.sys.verify = some (s, x) →
    takeImage d.sys.received ({ d with sys := { d.sys with verify := none } }, m) = (none, n, (u, m')) →
    let v := bootFail (hostError u n) u
    let e := flyEnds s x.seq 0x0402 false [] { v with sys := { v.sys with received := 0, total := none } }
    still d e → exec .imageVerifyDone ⟨d, m, q, r⟩ = .next ⟨e, m', q, r⟩)

/-- The rows of spec/14.
The model's own choices that stand behind it: log entries 92, 93, 94, 95, 96 and 97. -/
def Obligations.StreamCommands : Prop :=
  (∀ (d : Device) (m : Memory) (q r : List Instr) (n : Fin 16), recordFlushDue d n.val = false →
    exec (.recordFlushExpiry n) ⟨d, m, q, r⟩ = .next ⟨d, m, q, r⟩) ∧
  (∀ (d : Device) (m : Memory) (q r : List Instr) (n : Fin 16) (o : StreamOpen), recordFlushDue d n.val = true →
    (streamOf d n.val).cur = some o → (streamOf d n.val).gap = none →
    let x := streamOf d n.val
    let flags := o.flags + (if x.restart then 8 else 0)
    let rec_ : StreamRec := { kind := o.kind, rseq := (stRd d n.val Reg.STREAM.RSEQ).toNat, stamp := o.stamp,
                              flags := flags, payload := o.bytes, closed := d.time.now }
    let full := 65536 < recsSize x.staged + recSize rec_ + 32
    let policy := bit (stRd d n.val Reg.STREAM.CFG) 29
    (o.overrun = false → recSize rec_ ≤ frameRoom → x.hold = [] → ¬ full →
      ∃ e, exec (.recordFlushExpiry n) ⟨d, m, q, r⟩ = .next ⟨e, m, q, r⟩ ∧ e = { d with regs := e.regs, stream := e.stream } ∧
        keptBut [(pgStream, Reg.STREAM.RSEQ n.val)] d e ∧ stRd e n.val Reg.STREAM.RSEQ = stRd d n.val Reg.STREAM.RSEQ + 1#32 ∧
        streamOf e n.val = { x with cur := none, restart := false, staged := x.staged ++ [rec_] } ∧
        (∀ k, k ≠ n.val → streamOf e k = streamOf d k)) ∧
    (o.overrun = false → recSize rec_ ≤ frameRoom → x.hold ≠ [] ∨ (full ∧ policy = true) → recsSize x.hold + recSize rec_ + 32 ≤ holdSize d n.val →
      domainOn d pgStream = true →
      ∃ e, exec (.recordFlushExpiry n) ⟨d, m, q, r⟩ = .next ⟨e, m, q, r⟩ ∧
        e = { d with regs := e.regs, stream := e.stream, eva := e.eva } ∧
        keptBut ((pgStream, Reg.STREAM.RSEQ n.val) :: raiseRegs pgStream) d e ∧ rdB e pgStream hIRQ_RAW 1 = true ∧
        streamOf e n.val = { x with
          cur := none, restart := false, hold := x.hold ++ [rec_], holdAt := (streamOf e n.val).holdAt, spill := (streamOf e n.val).spill } ∧
        (streamOf e n.val).spill ≠ x.spill ∧ (∀ k, k ≠ n.val → streamOf e k = streamOf d k)) ∧
    (o.overrun = false → recSize rec_ ≤ frameRoom → x.hold = [] → full → policy = false → domainOn d pgStream = true →
      ∃ e, exec (.recordFlushExpiry n) ⟨d, m, q, r⟩ = .next ⟨e, m, q, r⟩ ∧
        stRd e n.val Reg.STREAM.GAP_CNT = stRd d n.val Reg.STREAM.GAP_CNT + 1#32 ∧ rdB e pgStream hIRQ_RAW 0 = true ∧
        streamOf e n.val = { x with
          cur := none, restart := false
          gap := some { rseq := rec_.rseq, stamp := o.stamp, count := 1, last := o.stamp, reason := 1, flags := flags / 8 % 2 * 8 } }) ∧
    (o.overrun = true → domainOn d pgStream = true →
      ∃ e, exec (.recordFlushExpiry n) ⟨d, m, q, r⟩ = .next ⟨e, m, q, r⟩ ∧
        e = { d with regs := e.regs, stream := e.stream, eva := e.eva } ∧
        keptBut ([(pgStream, Reg.STREAM.RSEQ n.val), (pgStream, Reg.STREAM.GAP_CNT n.val)] ++ raiseRegs pgStream) d e ∧
        stRd e n.val Reg.STREAM.RSEQ = stRd d n.val Reg.STREAM.RSEQ + 1#32 ∧
        stRd e n.val Reg.STREAM.GAP_CNT = stRd d n.val Reg.STREAM.GAP_CNT + 1#32 ∧ rdB e pgStream hIRQ_RAW 0 = true ∧
        rdB e pgStream hIRQ_RAW 4 = true ∧ (streamOf e n.val).staged = x.staged ∧ (streamOf e n.val).cur = none ∧
        (streamOf e n.val).gap = some
          { rseq := rec_.rseq, stamp := o.stamp, count := 1, last := o.stamp, reason := 4, flags := flags / 8 % 2 * 8 })) ∧
  (∀ (d : Device) (m : Memory) (q r : List Instr) (n : Fin 16), exec (.frameFlushExpiry n) ⟨d, m, q, r⟩ =
    .next ⟨if frameFlush d n.val then setStream n.val { streamOf d n.val with ready := true } d else d, m, q, r⟩) ∧
  (∀ (d : Device) (m : Memory) (q r : List Instr), nextStream d = none → exec .streamFrameSend ⟨d, m, q, r⟩ = .next ⟨d, m, q, r⟩) ∧
  (∀ (d : Device) (m : Memory) (q r : List Instr) (n : Nat), nextStream d = some n → (sessOf d (streamOwner d n)).peer ≠ none →
    let used := (streamOf d n).sentBytes + frameSize d n
    ∃ e, exec .streamFrameSend ⟨d, m, q, r⟩ = .next ⟨e, m, q, r⟩ ∧ n < 16 ∧ frameReady d n = true ∧ e.streamTurn = (n + 1) % 16 ∧
      stRd e n Reg.STREAM.FSEQ = stRd d n Reg.STREAM.FSEQ + 1#32 ∧ stRd e n Reg.STREAM.FRM_CNT = stRd d n Reg.STREAM.FRM_CNT + 1#32 ∧
      stRd e n Reg.STREAM.USED = wd (creditUnits used) ∧ (streamOf e n).sentBytes = used ∧ (streamOf e n).ready = false ∧
      streamQueue e n = (streamQueue d n).drop (frameRecords d n).length ∧ (∀ k, k ≠ n → streamOf e k = streamOf d k)) ∧
  (∀ (d : Device) (m : Memory) (q r : List Instr) (n : Fin 16),
    ∀ x ∈ ([(.streamFailover n, failoverDue d n.val, true, 2), (.streamFailback n, failbackDue d n.val, false, 3)] :
        List (Instr × Bool × Bool × Nat)),
      (x.2.1 = false → exec x.1 ⟨d, m, q, r⟩ = .next ⟨d, m, q, r⟩) ∧
      (x.2.1 = true → ∃ e, exec x.1 ⟨d, m, q, r⟩ = .next ⟨e, m, q, r⟩ ∧ e = { d with regs := e.regs, stream := e.stream, eva := e.eva } ∧
        keptBut (raiseRegs pgStream) d e ∧ rdB e pgStream hIRQ_RAW x.2.2.2 = true ∧
        streamOf e n.val = { streamOf d n.val with onEth0 := x.2.2.1, fence := some d.time.now })) ∧
  (∀ (d : Device) (m : Memory) (q r : List Instr) (n : Fin 16), exec (.foFenceExpiry n) ⟨d, m, q, r⟩ =
    .next ⟨if foFenceOver d n.val then setStream n.val { streamOf d n.val with fence := none } d else d, m, q, r⟩)

/-- The rows of R516 and R517.
The model's own choices that stand behind it: log entries 102, 106, 107 and 150. -/
def Obligations.LinkStates : Prop :=
  (∀ (d : Device) (m : Memory) (q r : List Instr) (l link : Fin 8) (uid : BitVec 64) (id : BitVec 12) (g : BitVec 16) (fresh rev : Bool)
    (inv : BitVec 4), d.fab.wait = [] → d.fab.fences = [] →
    let i : Instr := .ident l uid id link g fresh inv rev
    let e := identArrives l.val uid id link.val fresh inv rev d
    (lstate d l.val = 1 → domainOn d (pgLink l.val) = true → still d e →
      exec i ⟨d, m, q, r⟩ = .next ⟨e, m, q, r⟩ ∧ lstate e l.val = 2 ∧ lkRd e l.val Reg.LINK.PEER_UID_LO = lo32 uid.toNat ∧
      lkRd e l.val Reg.LINK.PEER_UID_HI = hi32 uid.toNat ∧ rdF e (pgLink l.val) Reg.LINK.STAT 20 12 = id.toNat ∧
      rdF e (pgLink l.val) Reg.LINK.STAT 16 3 = link.val ∧ rdF e (pgLink l.val) Reg.LINK.STAT 8 4 = inv.toNat ∧
      rdF e (pgLink l.val) Reg.LINK.STAT 12 4 = 15 ∧ rdB e (pgLink l.val) Reg.LINK.STAT 7 = rev ∧
      [0, 1, 2, 3].map (creditOf e l.val) = [96, 32, 96, 8] ∧ rdB e (pgLink l.val) hIRQ_RAW 0 = true) ∧
    (calm d = true → lstate d l.val = 0 ∨ lstate d l.val = 4 → exec i ⟨d, m, q, r⟩ = .next ⟨d, m, q, r⟩)) ∧
  (∀ (d : Device) (m : Memory) (q r : List Instr) (l : Fin 8) (x : LctlWord), d.fab.wait = [] → d.fab.fences = [] →
    let e := resumeArrives l.val x.number.val x.vc.val x.credits.val d
    let k := linkOf d l.val
    let again := k.replay.filter (fun e => fromNo x.number.val e.1)
    (lstate d l.val = 3 → domainOn d (pgLink l.val) = true → still d e →
      exec (.resume l x) ⟨d, m, q, r⟩ = .next ⟨e, m, q, r⟩ ∧ lstate e l.val = 2 ∧ rdB e (pgLink l.val) hIRQ_RAW 0 = true ∧
      (linkOf e l.val).replay = k.replay ∧
      lkRd e l.val Reg.LINK.REPLAY_CNT = lkRd d l.val Reg.LINK.REPLAY_CNT + wd again.length ∧
      creditOf e l.val x.vc.val = min ([96, 32, 96, 8].getD x.vc.val 0) (creditOf d l.val x.vc.val + x.credits.val) ∧
      (k.resumed = false → k.owed = [] → (d.sent ++ [.lctl l.val 2 (rdF d (pgLink l.val) Reg.LINK.RX_SEQ 0 12) 0 0]) <+: e.sent) ∧
      (k.resumed = true → again = [] → fabOutMask d = 0 → e.sent = d.sent)) ∧
    (calm d = true → lstate d l.val ≠ 3 → exec (.resume l x) ⟨d, m, q, r⟩ = .next ⟨d, m, q, r⟩)) ∧
  (∀ (d : Device) (m : Memory) (q r : List Instr) (l : Fin 8) (lane : Fin 4), domainOn d (pgLink l.val) = true →
    ∀ x ∈ ([(.laneLockLoss l lane, linkUp d l.val), (.lctlTimeout l, lctlLate d l.val)] : List (Instr × Bool)),
      (x.2 = false → exec x.1 ⟨d, m, q, r⟩ = .next ⟨d, m, q, r⟩) ∧
      (x.2 = true → ∃ e, exec x.1 ⟨d, m, q, r⟩ = .next ⟨e, m, q, r⟩ ∧ lstate e l.val = 3 ∧
        lkRd e l.val Reg.LINK.RETRAIN_CNT = lkRd d l.val Reg.LINK.RETRAIN_CNT + 1#32 ∧ rdB e (pgLink l.val) hIRQ_RAW 1 = true ∧
        rdB e (pgLink l.val) hIRQ_RAW 3 = true ∧ (linkOf e l.val).replay = (linkOf d l.val).replay ∧
        (x.1 = .laneLockLoss l lane → rdB e (pgLink l.val) Reg.LINK.STAT (12 + lane.val) = false))) ∧
  (∀ (d : Device) (m : Memory) (q r : List Instr) (l : Fin 8),
    (failDue d l.val = false → exec (.linkFail l) ⟨d, m, q, r⟩ = .next ⟨d, m, q, r⟩) ∧
    (failDue d l.val = true → ∃ e, exec (.linkFail l) ⟨d, m, q, r⟩ = .next ⟨e, m, q, r⟩ ∧
      e = { d with regs := e.regs, eva := e.eva, fab := e.fab } ∧ lstate e l.val = 4 ∧ (linkOf e l.val).replay = [] ∧
      lkRd e l.val Reg.LINK.TX_SEQ = 0#32 ∧ lkRd e l.val Reg.LINK.RX_SEQ = 0#32 ∧
      lkRd e l.val Reg.LINK.FAIL_CNT = lkRd d l.val Reg.LINK.FAIL_CNT + 1#32 ∧ rdB e (pgLink l.val) hIRQ_RAW 2 = true) ∧
    (retryDue d l.val = false → exec (.linkFailedRetry l) ⟨d, m, q, r⟩ = .next ⟨d, m, q, r⟩) ∧
    (retryDue d l.val = true → ∃ e, exec (.linkFailedRetry l) ⟨d, m, q, r⟩ = .next ⟨e, m, q, r⟩ ∧
      e = { d with regs := e.regs, fab := e.fab, sent := e.sent } ∧ keptBut [(pgLink l.val, Reg.LINK.STAT)] d e ∧ lstate e l.val = 1 ∧
      e.sent = d.sent ++ [.ident l.val (rdF d pgFab Reg.FAB.TGEN 0 16) (myId d)
        (Config.uidHi.toNat * 2 ^ 32 + Config.uidLo.toNat) (!(linkOf d l.val).hasState)]))

/-- The rows of R522 to R525.
The model's own choices that stand behind it: log entries 102 and 106. -/
def Obligations.LinkControl : Prop :=
  (∀ (d : Device) (m : Memory) (q r : List Instr) (l : Fin 8) (n : Fin 4096) (vc : Fin 4) (c : Fin 64), calm d = true →
    (linkUp d l.val = false → exec (.lctlAck l n vc c) ⟨d, m, q, r⟩ = .next ⟨d, m, q, r⟩ ∧
      exec (.lctlNak l n vc c) ⟨d, m, q, r⟩ = .next ⟨d, m, q, r⟩) ∧
    (linkUp d l.val = true → d.fab.wait = [] → d.fab.fences = [] →
      let k := linkOf d l.val
      let kept := k.replay.dropWhile (fun e => e.1.lseq != n.val)
      let known := k.replay.any (fun e => e.1.lseq == n.val)
      let credits := min ([96, 32, 96, 8].getD vc.val 0) (creditOf d l.val vc.val + c.val)
      (∃ e, exec (.lctlAck l n vc c) ⟨d, m, q, r⟩ = .next ⟨e, m, q, r⟩ ∧ e = { d with regs := e.regs, fab := e.fab } ∧
        keptBut [(pgLink l.val, Reg.LINK.CREDIT)] d e ∧ creditOf e l.val vc.val = credits ∧ (linkOf e l.val).lctlAt = d.time.now ∧
        (linkOf e l.val).replay = if known then kept.drop 1 else k.replay) ∧
      (resentOut d l.val n.val = false →
        ∃ e, exec (.lctlNak l n vc c) ⟨d, m, q, r⟩ = .next ⟨e, m, q, r⟩ ∧ lstate e l.val = 2 ∧ creditOf e l.val vc.val = credits ∧
        (linkOf e l.val).replay = k.replay.map (fun e => (e.1, if fromNo n.val e.1 then e.2 + 1 else e.2)) ∧
        lkRd e l.val Reg.LINK.REPLAY_CNT = lkRd d l.val Reg.LINK.REPLAY_CNT + wd (k.replay.filter (fun e => fromNo n.val e.1)).length) ∧
      (resentOut d l.val n.val = true → ∃ e, exec (.lctlNak l n vc c) ⟨d, m, q, r⟩ = .next ⟨e, m, q, r⟩ ∧ lstate e l.val = 3 ∧
        (linkOf e l.val).replay = k.replay))) ∧
  (∀ (d : Device) (m : Memory) (q r : List Instr) (l : Fin 8), (linkOf d l.val).owed = [] →
    (ackDue d l.val = false → exec (.ackTimerExpiry l) ⟨d, m, q, r⟩ = .next ⟨d, m, q, r⟩) ∧
    ((∃ t, (linkOf d l.val).accAt = some t ∧ t + 256 ≤ d.time.now) ∨ (linkOf d l.val).lctlSent + 1280 ≤ d.time.now → linkUp d l.val = true →
      ackDue d l.val = true) ∧
    (ackDue d l.val = true → ∃ e, exec (.ackTimerExpiry l) ⟨d, m, q, r⟩ = .next ⟨e, m, q, r⟩ ∧ e = { d with fab := e.fab, sent := e.sent } ∧
      e.sent = d.sent ++ [.lctl l.val 0 (lastAccepted d l.val) 0 0] ∧ (linkOf e l.val).accAt = none ∧ (linkOf e l.val).accepted = 0) ∧
    (nakDue d l.val = false → exec (.nakRepeatExpiry l) ⟨d, m, q, r⟩ = .next ⟨d, m, q, r⟩) ∧
    (nakDue d l.val = true → ∃ e, exec (.nakRepeatExpiry l) ⟨d, m, q, r⟩ = .next ⟨e, m, q, r⟩ ∧ e = { d with fab := e.fab, sent := e.sent } ∧
      e.sent = d.sent ++ [.lctl l.val 1 (rdF d (pgLink l.val) Reg.LINK.RX_SEQ 0 12) 0 0] ∧ (linkOf e l.val).nakAt = some d.time.now) ∧
    (linkUp d l.val = false → exec (.crcErr l) ⟨d, m, q, r⟩ = .next ⟨d, m, q, r⟩) ∧
    (linkUp d l.val = true → ∃ e, exec (.crcErr l) ⟨d, m, q, r⟩ = .next ⟨e, m, q, r⟩ ∧
      e = { d with regs := e.regs, eva := e.eva, fab := e.fab, sent := e.sent } ∧
      keptBut ((pgLink l.val, Reg.LINK.CRC_ERR) :: raiseRegs (pgLink l.val)) d e ∧
      lkRd e l.val Reg.LINK.CRC_ERR = lkRd d l.val Reg.LINK.CRC_ERR + 1#32 ∧ rdB e (pgLink l.val) hIRQ_RAW 4 = true ∧
      e.sent = d.sent ++ (if (linkOf d l.val).nakAt = none then [.lctl l.val 1 (rdF d (pgLink l.val) Reg.LINK.RX_SEQ 0 12) 0 0] else [])))

/-- The messages of the fabric by where they go.
The model's own choices that stand behind it: log entries 98, 99, 100, 101 and 103. -/
def Obligations.FabricMessages : Prop :=
  (∀ (d : Device) (m : Memory) (q r : List Instr) (l : Fin 8) (fs : List Flit),
    ∀ x ∈ ([(.reqMessage l fs, 1), (.respMessage l fs, 2)] : List (Instr × Nat)),
      (∀ f, fs = [f] → messageFlit x.2 f.vc f = false → still d (badFlit l.val d) → exec x.1 ⟨d, m, q, r⟩ = .next ⟨badFlit l.val d, m, q, r⟩) ∧
      (∀ u, acceptAll x.2 l.val fs d = (u, []) → still d u → exec x.1 ⟨d, m, q, r⟩ = .next ⟨u, m, q, r⟩) ∧
      (∀ u f gs, acceptAll x.2 l.val fs d = (u, f :: gs) →
        let all := partsOf u l.val f.vc ++ f :: gs
        let v := setParts l.val f.vc [] u
        (messageShape x.2 all = false → still d (consumed l.val all v) → exec x.1 ⟨d, m, q, r⟩ = .next ⟨consumed l.val all v, m, q, r⟩) ∧
        (messageShape x.2 all = true → messageWhole all = false → still d (setParts l.val f.vc all u) →
          exec x.1 ⟨d, m, q, r⟩ = .next ⟨setParts l.val f.vc all u, m, q, r⟩) ∧
        (∀ h ds, messageShape x.2 all = true → messageWhole all = true → all = h :: ds → mine v h = false → still d (forwardFlits l.val all v) →
          exec x.1 ⟨d, m, q, r⟩ = .next ⟨forwardFlits l.val all v, m, q, r⟩))) ∧
  (∀ (d u t : Device) (m m' : Memory) (q r : List Instr) (l : Fin 8) (fs gs ds : List Flit) (f h : Flit),
    acceptAll 1 l.val fs d = (u, f :: gs) → partsOf u l.val f.vc ++ f :: gs = h :: ds → messageShape 1 (h :: ds) = true →
    messageWhole (h :: ds) = true →
    let v := consumed l.val (h :: ds) (setParts l.val f.vc [] u)
    mine v h = true → headWaits v h = false → v.fab.later = [] → performHead h ds (v, m) = (t, m') → still d t →
    exec (.reqMessage l fs) ⟨d, m, q, r⟩ = .next ⟨t, m', q, r⟩) ∧
  (∀ (h : Flit) (ds : List Flit) (u : Device) (m : Memory),
    (headLen h = 0 ∨ 8192 < headLen h → performHead h ds (u, m) = (sendResp h 0x0303 0 [] 0 u, m)) ∧
    (0 < headLen h → headLen h ≤ 8192 → headAddr h + headLen h ≤ 2 ^ 36 →
      (4 < headOp h → performHead h ds (u, m) = (sendResp h 0x0302 0 [] 0 u, m)) ∧
      (∀ o v, headOp h = 1 → inPages (headAddr h) = false → readMem (headAddr h) (headLen h) m u = some (o, v) →
        performHead h ds (u, m) = (sendResp h 0 0 (wordsFor (headAddr h) o.bytes o.bad) o.bytes.length v, m)) ∧
      (headOp h = 1 → rangeOk u (headAddr h) (headLen h) false = false → performHead h ds (u, m) = (sendResp h 0x0201 0 [] 0 u, m)))) ∧
  (∀ (d u : Device) (m : Memory) (q r : List Instr) (l : Fin 8) (fs gs ds : List Flit) (f h : Flit),
    acceptAll 2 l.val fs d = (u, f :: gs) → partsOf u l.val f.vc ++ f :: gs = h :: ds → messageShape 2 (h :: ds) = true →
    messageWhole (h :: ds) = true →
    let v := consumed l.val (h :: ds) (setParts l.val f.vc [] u)
    mine v h = true →
    (v.fab.out.find? (fun o => decide (o.tag = headTag h) && decide (o.dest = h.src)) = none → still d (bump pgFab Reg.FAB.LATE_RESP v) →
      exec (.respMessage l fs) ⟨d, m, q, r⟩ = .next ⟨bump pgFab Reg.FAB.LATE_RESP v, m, q, r⟩) ∧
    (∀ o k id, v.fab.out.find? (fun o => decide (o.tag = headTag h) && decide (o.dest = h.src)) = some o → o.src = .store k id →
      let e := storeEnds k id (numBE (slice h.payload 12 2)) { v with fab := { v.fab with out := v.fab.out.erase o } }
      still d e → exec (.respMessage l fs) ⟨d, m, q, r⟩ = .next ⟨e, m, q, r⟩)) ∧
  (∀ (d : Device) (m : Memory) (q r : List Instr) (l : Fin 8) (zs : Byte) (o : BitVec 12) (st : BitVec 48),
    (linkUp d l.val = false → exec (.tripFlit l zs o st) ⟨d, m, q, r⟩ = .next ⟨d, m, q, r⟩) ∧
    (linkUp d l.val = true → domainOn d pgLegsys = true →
      let e := tripArrives l.val zs.toNat o.toNat st.toNat d
      e.legs.leg = d.legs.leg ∨ edgesOff e = true → exec (.tripFlit l zs o st) ⟨d, m, q, r⟩ = .next ⟨e, m, q, r⟩ ∧
        ∀ z, z < 8 → e.legs.flash.getLsbD z =
          (d.legs.flash.getLsbD z || (zs.getLsbD z && rdB d pgLegsys (Reg.LEGSYS.TZ_CFG z) 2)))) ∧
  (∀ (d : Device) (m : Memory) (q r : List Instr),
    exec .tripRepeat ⟨d, m, q, r⟩ = .next ⟨if tripDue d then sendTrip d else d, m, q, r⟩) ∧
  (∀ (d : Device) (m : Memory) (q r : List Instr) (l : Fin 8) (f : Flit),
    ∀ x ∈ ([(.eventFlit l f, 6, f.vc = 1, eventArrives f.payload), (.fenceFlit l f, 8, f.vc < 4, fenceTake f),
        (.fenceAck l f, 9, f.vc = 3, fenceAckTake f)] : List (Instr × Nat × Prop × (Device → Device))),
      (f.typ ≠ x.2.1 ∨ ¬ x.2.2.1 → still d (badFlit l.val d) → exec x.1 ⟨d, m, q, r⟩ = .next ⟨badFlit l.val d, m, q, r⟩) ∧
      (f.typ = x.2.1 → x.2.2.1 → ∀ u ok, acceptSeq l.val f d = (u, ok) →
        (ok = false → still d u → exec x.1 ⟨d, m, q, r⟩ = .next ⟨u, m, q, r⟩) ∧
        (ok = true → mine u f = true → still d (x.2.2.2 (oweCredit l.val f.vc u)) →
          exec x.1 ⟨d, m, q, r⟩ = .next ⟨x.2.2.2 (oweCredit l.val f.vc u), m, q, r⟩) ∧
        (ok = true → mine u f = false → still d (forwardFlits l.val [f] u) →
          exec x.1 ⟨d, m, q, r⟩ = .next ⟨forwardFlits l.val [f] u, m, q, r⟩))) ∧
  (∀ (d : Device) (m : Memory) (q r : List Instr),
    (calm d = true → fenceOver d = none → exec .fenceTimeout ⟨d, m, q, r⟩ = .next ⟨d, m, q, r⟩) ∧
    (∀ f, fenceOver d = some f → f.byTime = false →
      let e := releaseFence f.dest f.vc (raise pgFab 1 (bump pgFab Reg.FAB.FENCE_TMO d))
      still d e → exec .fenceTimeout ⟨d, m, q, r⟩ = .next ⟨e, m, q, r⟩)) ∧
  (∀ (d : Device) (m : Memory) (q r : List Instr) (tag : BitVec 16), calm d = true →
    let late := d.fab.out.find? (fun o => decide (o.tag = tag.toNat) && outLate d o)
    (late = none → exec (.fabricReqTimeout tag) ⟨d, m, q, r⟩ = .next ⟨d, m, q, r⟩) ∧
    (∀ o k id x, late = some o → o.src = .store k id → (coreOf d k).sb.find? (fun x => decide (x.id = id)) = some x →
      ∃ e, exec (.fabricReqTimeout tag) ⟨d, m, q, r⟩ = .next ⟨e, m, q, r⟩ ∧
        e = { d with fab := { d.fab with out := d.fab.out.erase o }, core := e.core } ∧ (∀ j, j ≠ k → coreOf e j = coreOf d j) ∧
        coreOf e k = { coreOf d k with
          sb := (coreOf d k).sb.filter (fun x => decide (x.id ≠ id))
          imprecise := (coreOf d k).imprecise ++ [{ desc := 8, xaddr := x.core, detail := 2 }] })) ∧
  (∀ (d : Device) (m : Memory) (q r : List Instr) (l l' : Fin 8) (h : Flit) (ds : List Flit), calm d = true →
    messageShape 1 (h :: ds) = true → messageWhole (h :: ds) = true → (∀ f ∈ h :: ds, messageFlit 1 h.vc f = true) → mine d h = true →
    inSeq d l.val h.lseq (ds.length + 1) = true → (∀ i, i < ds.length → (ds.getD i h).lseq = (h.lseq + 1 + i) % 4096) →
    headOp h = 2 → 1 ≤ headLen h → headLen h ≤ 8192 → headAddr h + headLen h ≤ 2 ^ 36 → headAddr h % 8 + headLen h ≤ 48 * ds.length →
    (∀ f ∈ ds, f.pmap = 0) → cleanAt d m (headAddr h) (headLen h) = true → freeWay d h.src h.vc l'.val = true →
    ∃ e m', exec (.reqMessage l (h :: ds)) ⟨d, m, q, r⟩ = .next ⟨e, m', q, r⟩ ∧
      e = { d with regs := e.regs, fab := e.fab, sent := e.sent } ∧ tookFlits d e l.val (ds.length + 1) ∧
      keptBut [(pgLink l.val, Reg.LINK.RX_SEQ), (pgLink l.val, Reg.LINK.CREDIT), (pgLink l'.val, Reg.LINK.TX_SEQ),
        (pgLink l'.val, Reg.LINK.CREDIT)] d e ∧
      storedAt m m' (headAddr h) (bytesFrom (headAddr h) (headLen h) (flitWords ds)).bytes ∧
      leavesBy d e l'.val (respHead d h.src h.vc (headTag h) 2 0 (headLen h) 0 true)) ∧
  (∀ (d : Device) (m : Memory) (q r : List Instr) (l : Fin 8) (h : Flit), calm d = true → messageShape 2 [h] = true →
    h.tail = true → messageFlit 2 h.vc h = true → mine d h = true → inSeq d l.val h.lseq 1 = true →
    let found := d.fab.out.find? (fun o => decide (o.tag = headTag h) && decide (o.dest = h.src))
    let st := numBE (slice h.payload 12 2)
    (found = none → ∃ e, exec (.respMessage l [h]) ⟨d, m, q, r⟩ = .next ⟨e, m, q, r⟩ ∧ e = { d with regs := e.regs, fab := e.fab } ∧
      tookFlits d e l.val 1 ∧ keptBut [(pgLink l.val, Reg.LINK.RX_SEQ), (pgLink l.val, Reg.LINK.CREDIT), (pgFab, Reg.FAB.LATE_RESP)] d e ∧
      rd e pgFab Reg.FAB.LATE_RESP = rd d pgFab Reg.FAB.LATE_RESP + 1#32) ∧
    (∀ o k id x, found = some o → o.src = .store k id → (coreOf d k).sb.find? (fun x => decide (x.id = id)) = some x →
      ∃ e, exec (.respMessage l [h]) ⟨d, m, q, r⟩ = .next ⟨e, m, q, r⟩ ∧ e = { d with regs := e.regs, fab := e.fab, core := e.core } ∧
        tookFlits d e l.val 1 ∧ keptBut [(pgLink l.val, Reg.LINK.RX_SEQ), (pgLink l.val, Reg.LINK.CREDIT)] d e ∧ e.fab.out = d.fab.out.erase o ∧
        (∀ j, j ≠ k → coreOf e j = coreOf d j) ∧
        (let detail := if st = 0x0201 then 1 else if st = 0x0202 ∨ st = 0x0203 then 2 else 3
         let errs : List Imprecise := if st = 0 then [] else [{ desc := 8, xaddr := x.core, detail := detail }]
         coreOf e k = { coreOf d k with
           sb := (coreOf d k).sb.filter (fun x => decide (x.id ≠ id)), imprecise := (coreOf d k).imprecise ++ errs }))) ∧
  (∀ (d : Device) (m : Memory) (q r : List Instr) (l : Fin 8) (zs : Byte) (o : BitVec 12) (st : BitVec 48), linkUp d l.val = true →
    domainOn d pgLegsys = true → edgesOff d = true →
    ∃ e, exec (.tripFlit l zs o st) ⟨d, m, q, r⟩ = .next ⟨e, m, q, r⟩ ∧ ∀ z, z < 8 →
      (let named := zs.getLsbD z && rdB d pgLegsys (Reg.LEGSYS.TZ_CFG z) 2
       e.legs.flash.getLsbD z = (d.legs.flash.getLsbD z || named) ∧ zoneLatched e z = (zoneLatched d z || named) ∧
       rd e pgLegsys (Reg.LEGSYS.TZ_CAUSE z) =
         if named ∧ zoneLatched d z = false then wd (6 * 2 ^ 28 + o.toNat) else rd d pgLegsys (Reg.LEGSYS.TZ_CAUSE z))) ∧
  (∀ (d : Device) (m : Memory) (q r : List Instr) (o : Nat × Nat), tripDue d = true → tripOrigin d = some o →
    (∀ l, l < 8 → ffArmed d l = false ∧ (fireflyOf d l).held = []) →
    ∃ e, exec .tripRepeat ⟨d, m, q, r⟩ = .next ⟨e, m, q, r⟩ ∧
      e = { d with fab := e.fab, sent := e.sent, legs := { d.legs with tripSent := d.time.now } } ∧
      e.sent = d.sent ++ (upLinks d).map (fun l => .unit (.flit l (sealed {
        typ := 4, vc := 1, dest := 0xFFF, src := myId d, payload := tripPayload (fabOutMask d) o.1 o.2 })) none)) ∧
  (∀ (d : Device) (m : Memory) (q r : List Instr) (l l' : Fin 8) (f : Flit), calm d = true → mine d f = true → inSeq d l.val f.lseq 1 = true →
    (f.typ = 8 → f.vc < 4 → freeWay d f.src 3 l'.val = true →
      ∃ e, exec (.fenceFlit l f) ⟨d, m, q, r⟩ = .next ⟨e, m, q, r⟩ ∧ e = { d with regs := e.regs, fab := e.fab, sent := e.sent } ∧
        tookFlits d e l.val 1 ∧
        keptBut [(pgLink l.val, Reg.LINK.RX_SEQ), (pgLink l.val, Reg.LINK.CREDIT), (pgLink l'.val, Reg.LINK.TX_SEQ),
          (pgLink l'.val, Reg.LINK.CREDIT)] d e ∧
        leavesBy d e l'.val { typ := 9, vc := 3, dest := f.src, src := myId d, hops := issueHops d, payload := slice f.payload 0 1 }) ∧
    (∀ x, f.typ = 9 → f.vc = 3 → fenceOf d f.src (numBE (slice f.payload 0 1) % 4) = some x → x.byTime = false → x.held = [] →
      d.fab.wait = [] →
      ∃ e, exec (.fenceAck l f) ⟨d, m, q, r⟩ = .next ⟨e, m, q, r⟩ ∧ e = { d with regs := e.regs, fab := e.fab } ∧
        tookFlits d e l.val 1 ∧ keptBut [(pgLink l.val, Reg.LINK.RX_SEQ), (pgLink l.val, Reg.LINK.CREDIT)] d e ∧ e.fab.wait = [] ∧
        e.fab.fences = d.fab.fences.filter (fun y => !(decide (y.dest = x.dest) && decide (y.vc = x.vc)))) ∧
    (f.typ = 6 → f.vc = 1 →
      let x := recOf f.payload
      let origin := numBE (slice f.payload 16 2) % 4096
      let slot := (List.range 16).find? (fun i => let w := rd d pgEva (Reg.EVA.FWD_IN i)
        bit w 31 && decide (fld w 16 12 = origin) && decide (fld w 0 10 = x.source))
      let y : EvRec := { x with source := (match slot with | some i => 1000 + i | none => 1016), fwd := true }
      d.eva.pending.any (fun e => sameKey e y) = false →
      ∃ e, exec (.eventFlit l f) ⟨d, m, q, r⟩ = .next ⟨e, m, q, r⟩ ∧ e = { d with regs := e.regs, fab := e.fab, eva := e.eva } ∧
        tookFlits d e l.val 1 ∧
        keptBut [(pgLink l.val, Reg.LINK.RX_SEQ), (pgLink l.val, Reg.LINK.CREDIT), (pgEva, Reg.EVA.FWD_LAST), (pgEva, Reg.EVA.PEND_PEAK)] d e ∧
        e.eva = { d.eva with pending := d.eva.pending ++ [y] } ∧ rd e pgEva Reg.EVA.FWD_LAST =
          if slot = none then wd (origin * 2 ^ 16 + x.source) else rd d pgEva Reg.EVA.FWD_LAST)) ∧
  (∀ (d : Device) (m : Memory) (q r : List Instr) (f : Fence), calm d = true → fenceOver d = some f → fenceOf d f.dest f.vc = some f →
    f.byTime = false → f.held = [] → d.fab.wait = [] → domainOn d pgFab = true →
    ∃ e, exec .fenceTimeout ⟨d, m, q, r⟩ = .next ⟨e, m, q, r⟩ ∧ e = { d with regs := e.regs, eva := e.eva, fab := e.fab } ∧
      keptBut ((pgFab, Reg.FAB.FENCE_TMO) :: raiseRegs pgFab) d e ∧
      rd e pgFab Reg.FAB.FENCE_TMO = rd d pgFab Reg.FAB.FENCE_TMO + 1#32 ∧ rdB e pgFab hIRQ_RAW 1 = true ∧
      e.fab.fences = d.fab.fences.filter (fun y => !(decide (y.dest = f.dest) && decide (y.vc = f.vc))))

/-- The rows of R541 to R546.
The model's own choices that stand behind it: log entries 105 and 108. -/
def Obligations.MaintAndMembership : Prop :=
  (∀ (d : Device) (m : Memory) (q r : List Instr) (w : Wr), calm d = true → d.fab.wait = [] → d.fab.fences = [] →
    ∀ x ∈ ([(.maintRead w, 1), (.maintWrite w, 2)] : List (Instr × Nat)),
      accepts d pgFab Reg.FAB.MCTL { w with data := setFld (setBit w.data 31 true) 0 2 x.2 } = true →
      (d.fab.maint ≠ none → ∃ e, exec x.1 ⟨d, m, q, r⟩ = .next ⟨e, m, q, r⟩ ∧
        e = { d with regs := e.regs, resp := .error (.refused 0x82) } ∧ keptBut [(pgFab, hERR_CODE), (pgFab, hERR_INFO)] d e) ∧
      (d.fab.maint = none →
        let n := fld w.data 24 4
        let l := nibble (maintPath d) 0
        ∃ e, exec x.1 ⟨d, m, q, r⟩ = .next ⟨e, m, q, r⟩ ∧ e = { d with regs := e.regs, eva := e.eva, fab := e.fab, sent := e.sent, resp := .done } ∧
          e.fab.tag = (d.fab.tag + 1) % 65536 ∧
          (n = 0 ∨ 12 < n → e.fab.maint = none ∧ rd e pgFab Reg.FAB.MSTAT = wd (2 ^ 31 + 0x0303) ∧
            rdB e pgFab Reg.FAB.MCTL 31 = false ∧ rdB e pgFab hIRQ_RAW 0 = true) ∧
          (0 < n → n ≤ 12 → 8 ≤ l ∨ linkUp d l = false → e.fab.maint = none ∧ rd e pgFab Reg.FAB.MSTAT = wd (2 ^ 31 + 0x0202) ∧
            rdB e pgFab Reg.FAB.MCTL 31 = false ∧ rdB e pgFab hIRQ_RAW 0 = true) ∧
          (0 < n → n ≤ 12 → l < 8 → canSend d l 3 = true → e.fab.maint = some (d.fab.tag, d.time.now) ∧ rdB e pgFab Reg.FAB.MCTL 31 = true ∧
            rd e pgFab Reg.FAB.MSTAT = 0#32 ∧ e.fab.wait = [] ∧
            rdF e (pgLink l) Reg.LINK.TX_SEQ 0 12 = (rdF d (pgLink l) Reg.LINK.TX_SEQ 0 12 + 1) % 4096))) ∧
  (∀ (d : Device) (m : Memory) (q r : List Instr) (l : Fin 8) (f : Flit),
    ∀ i ∈ ([.maintFlit l f, .maintResponse l f] : List Instr),
      (f.typ ≠ 7 ∨ f.vc ≠ 3 → still d (badFlit l.val d) → exec i ⟨d, m, q, r⟩ = .next ⟨badFlit l.val d, m, q, r⟩) ∧
      (∀ u ok t m', f.typ = 7 → f.vc = 3 → acceptSeq l.val f d = (u, ok) → still d (if ok then t else u) →
        maintArrives l.val f (u, m) = (t, m') → exec i ⟨d, m, q, r⟩ = .next ⟨if ok then t else u, if ok then m' else m, q, r⟩)) ∧
  (∀ (d : Device) (m : Memory) (q r : List Instr) (l : Fin 8) (f : Flit), calm d = true → f.typ = 7 → f.vc = 3 →
    inSeq d l.val f.lseq 1 = true → mtHops f.payload = mtDone f.payload + 1 → mtHops f.payload ≤ 12 → f.payload.length = 36 →
    (∀ p off, mtOp f.payload = 1 → pageAt (pageBase + mtOff f.payload) = some (p, off) → off % 4 = 0 → off < 0x040 → off ≠ hERR_CODE →
      pageMapped d p = true → canSend d l.val 3 = true → d.fab.wait = [] → ffArmed d l.val = false → (fireflyOf d l.val).held = [] →
      ∃ e g, exec (.maintFlit l f) ⟨d, m, q, r⟩ = .next ⟨e, m, q, r⟩ ∧ e = { d with regs := e.regs, fab := e.fab, sent := e.sent } ∧
        tookFlits d e l.val 1 ∧
        keptBut [(pgLink l.val, Reg.LINK.RX_SEQ), (pgLink l.val, Reg.LINK.TX_SEQ), (pgLink l.val, Reg.LINK.CREDIT)] d e ∧
        leavesBy d e l.val g ∧ g.typ = 7 ∧ g.vc = 3 ∧ mtOp g.payload = 3 ∧ mtTag g.payload = mtTag f.payload ∧
        mtUid g.payload = mtUid f.payload ∧ mtReq g.payload = mtReq f.payload ∧ mtOff g.payload = mtOff f.payload ∧
        mtHops g.payload = mtHops f.payload ∧ mtDone g.payload = 0 ∧ nibble (mtPath g.payload) 0 = l.val ∧
        mtData g.payload = (pageView p off d).toNat ∧ mtStatus g.payload = 0) ∧
    (∀ at_, mtOp f.payload = 3 ∨ mtOp f.payload = 4 → d.fab.maint = some (mtTag f.payload, at_) → domainOn d pgFab = true →
      ∃ e, exec (.maintResponse l f) ⟨d, m, q, r⟩ = .next ⟨e, m, q, r⟩ ∧ e = { d with regs := e.regs, eva := e.eva, fab := e.fab } ∧
        tookFlits d e l.val 1 ∧ e.fab.maint = none ∧
        keptBut ([(pgLink l.val, Reg.LINK.RX_SEQ), (pgLink l.val, Reg.LINK.CREDIT), (pgFab, Reg.FAB.MSTAT), (pgFab, Reg.FAB.MCTL), (pgFab, Reg.FAB.MDATA)] ++ raiseRegs pgFab) d e ∧
        rd e pgFab Reg.FAB.MSTAT = wd (2 ^ 31 + mtStatus f.payload) ∧ rdB e pgFab Reg.FAB.MCTL 31 = false ∧
        rdB e pgFab hIRQ_RAW 0 = true ∧ rd e pgFab Reg.FAB.MDATA =
          (if mtOp f.payload = 3 ∧ mtStatus f.payload = 0 then wd (mtData f.payload) else rd d pgFab Reg.FAB.MDATA))) ∧
  (∀ (l : Nat) (f : Flit) (u : Device) (m : Memory), mtHops f.payload ≤ mtDone f.payload + 1 →
    (mtOp f.payload = 3 ∨ mtOp f.payload = 4 →
      (∀ at_, u.fab.maint = some (mtTag f.payload, at_) → ∃ t, maintArrives l f (u, m) = (t, m) ∧ t.fab.maint = none ∧
        rd t pgFab Reg.FAB.MSTAT = wd (2 ^ 31 + mtStatus f.payload) ∧ rdB t pgFab Reg.FAB.MCTL 31 = false ∧
        (domainOn u pgFab = true → rdB t pgFab hIRQ_RAW 0 = true) ∧ rd t pgFab Reg.FAB.MDATA =
          (if mtOp f.payload = 3 ∧ mtStatus f.payload = 0 then wd (mtData f.payload) else rd u pgFab Reg.FAB.MDATA)) ∧
      (u.fab.maint = none → maintArrives l f (u, m) = (bump pgFab Reg.FAB.LATE_RESP (oweCredit l 3 u), m)))) ∧
  (∀ (pl : List Byte) (u : Device) (m : Memory) (p off : Nat), pageAt (pageBase + mtOff pl) = some (p, off) → off % 4 = 0 →
    pageMapped u p = true →
    let b := mtReq pl
    let who : Requester := { devid := 0xFFF#12, kind := if b / 64 = 1 then .core else if b / 64 = 2 then .session else .master,
                             index := Fin.ofNat 64 b, uid := some (BitVec.ofNat 64 (numBE (mtUid pl))) }
    (mtOp pl = 1 → maintAccess pl (u, m) = ((readEffect p off who u, m), (pageView p off u).toNat, 0)) ∧
    (∀ c, mtOp pl = 2 → holds u p off = false → refusal u p off true { who := who, data := wd (mtData pl), poison := false } = some c →
      ∃ e, maintAccess pl (u, m) = ((e, m), 0, 0x0100 + c))) ∧
  (∀ (d : Device) (m : Memory) (q r : List Instr) (w : Wr), calm d = true → accepts d pgFab Reg.FAB.TGEN w = true →
    let v := fld w.data 0 16
    let old := rdF d pgFab Reg.FAB.TGEN 0 16
    let g := (v + 65536 - old) % 65536
    let id := claimOf w.who
    (1 ≤ g ∧ g ≤ 0x7FFF → ∃ e, exec (.tgenWrite w) ⟨d, m, q, r⟩ = .next ⟨e, m, q, r⟩ ∧
      e = { d with regs := e.regs, eva := e.eva, resp := .done } ∧ rd e pgFab Reg.FAB.TGEN = wd v ∧ claimant e = some id ∧
      keptBut ([(pgFab, Reg.FAB.TGEN), (pgFab, Reg.FAB.CLAIM_UID_HI), (pgFab, Reg.FAB.CLAIM_UID_LO), (pgFab, Reg.FAB.CLAIM_REQ)]
        ++ raiseRegs pgFab) d e ∧ (claimant d ≠ some id → rdB e pgFab hIRQ_RAW 5 = true)) ∧
    (g = 0 → claimant d = some id → exec (.tgenWrite w) ⟨d, m, q, r⟩ = .next ⟨{ d with resp := .done }, m, q, r⟩) ∧
    (0x7FFF < g ∨ (g = 0 ∧ claimant d ≠ some id) → ∃ e, exec (.tgenWrite w) ⟨d, m, q, r⟩ = .next ⟨e, m, q, r⟩ ∧
      e = { d with regs := e.regs, resp := .error (.refused 0x81) } ∧ keptBut [(pgFab, hERR_CODE), (pgFab, hERR_INFO)] d e)) ∧
  (∀ (d : Device) (m : Memory) (q r : List Instr) (w : Wr), calm d = true → accepts d pgFab Reg.FAB.CTL (withOnes w 2#32) = true →
    claimant d = some (claimOf w.who) → ∃ e, exec (.release w) ⟨d, m, q, r⟩ = .next ⟨e, m, q, r⟩ ∧
      e = { d with regs := e.regs, eva := e.eva, resp := .done } ∧ claimant e = none ∧ rdB e pgFab hIRQ_RAW 5 = true ∧
      rd e pgFab Reg.FAB.TGEN = rd d pgFab Reg.FAB.TGEN) ∧
  (∀ (d : Device) (m : Memory) (q r : List Instr) (w : Wr), calm d = true → accepts d pgFab Reg.FAB.ID w = true →
    (notClaimant d (claimOf w.who) = true → ∃ e, exec (.idWrite w) ⟨d, m, q, r⟩ = .next ⟨e, m, q, r⟩ ∧
      e = { d with regs := e.regs, resp := .error (.refused 0x80) } ∧ keptBut [(pgFab, hERR_CODE), (pgFab, hERR_INFO)] d e) ∧
    (notClaimant d (claimOf w.who) = false → rdB d pgFab Reg.FAB.CTL 0 = false →
      ∃ e, exec (.idWrite w) ⟨d, m, q, r⟩ = .next ⟨e, m, q, r⟩ ∧ e = { d with regs := e.regs, sent := e.sent, resp := .done } ∧
      keptBut [(pgFab, Reg.FAB.ID)] d e ∧ myId e = fld w.data 0 12 ∧ e.sent = d.sent ++ (upLinks d).map (fun l =>
        .ident l (rdF d pgFab Reg.FAB.TGEN 0 16) (fld w.data 0 12) (Config.uidHi.toNat * 2 ^ 32 + Config.uidLo.toNat) (!(linkOf d l).hasState))))

/-- The commands of spec/16.
The model's own choices that stand behind it: log entry 111. -/
def Obligations.ArbiterAndFirefly : Prop :=
  (∀ (d : Device) (m : Memory) (q r : List Instr), calm d = true → d.eva.pending = [] ∨ domainOn d pgEva = false →
    exec .evaGrant ⟨d, m, q, r⟩ = .next ⟨d, m, q, r⟩) ∧
  (∀ (d : Device) (m : Memory) (q r : List Instr), d.eva.pending ≠ [] → domainOn d pgEva = true →
    let rs := grantSort d d.eva.pending
    let e := forEach (rs.take 32) grantOne { d with eva := { d.eva with pending := rs.drop 32 } }
    still d e → exec .evaGrant ⟨d, m, q, r⟩ = .next ⟨e, m, q, r⟩) ∧
  (∀ (d : Device) (rs : List EvRec), (grantSort d rs).Perm rs ∧
    (grantSort d rs).Pairwise (fun a b => grantsBefore d b a = false ∨ (isMidnight a = true ∧ isMidnight b = true))) ∧
  (∀ (d : Device) (m : Memory) (q r : List Instr) (x : EvRec), calm d = true → domainOn d pgEva = true → d.eva.pending = [x] →
    (∀ s, s < 16 → (sessOf d s).opened = false) → (∀ i, i < 16 → rdB d pgFab (Reg.FAB.EVFWD i) 31 = false) →
    let y : EvRec := { x with seq := (rd d pgEva Reg.EVA.SEQ_NEXT).toNat }
    let logged := rdB d pgEva Reg.EVA.CTL 0 && rdB d pgEva (Reg.EVA.LOG_MASK (x.source / 32)) (x.source % 32)
    ∃ e, exec .evaGrant ⟨d, m, q, r⟩ = .next ⟨e, m, q, r⟩ ∧ e = { d with regs := e.regs, eva := e.eva, core := e.core } ∧
      rd e pgEva Reg.EVA.SEQ_NEXT = rd d pgEva Reg.EVA.SEQ_NEXT + 1#32 ∧
      e.eva.log = (if logged = true ∧ d.eva.log.length < 256 then d.eva.log ++ [y] else d.eva.log) ∧
      (logged = true → d.eva.log = [] → rdB e pgEva hIRQ_RAW 0 = true) ∧
      (logged = true → 256 ≤ d.eva.log.length → rdB e pgEva Reg.EVA.LOG_STAT 12 = true ∧ rdB e pgEva hIRQ_RAW 1 = true) ∧
      (∀ k l, k < 36 → l < 64 → linePend e k l =
        (linePend d k l || (domainOn d (pgIcu k) && decide (rdF d (pgIcu k) (Reg.ICU.SRC l) 0 10 = x.source))))) ∧
  (∀ (d : Device) (m : Memory) (q r : List Instr) (i : Fin 10) (w : Wr), calm d = true →
    accepts d (pgFirefly i.val) Reg.FIREFLY.CTL (withOnes w 1#32) = true →
    let p := pgFirefly i.val
    let seed := (rd d p Reg.FIREFLY.SEED).toNat
    (bit w.data 16 = rdB d p Reg.FIREFLY.CTL 16 ∨ d.sys.mode = .configure → ∃ e, exec (.fireflyArm i w) ⟨d, m, q, r⟩ = .next ⟨e, m, q, r⟩ ∧
      e = { d with regs := e.regs, eva := e.eva, fab := e.fab, resp := .done } ∧
      keptBut ([(p, Reg.FIREFLY.CTL), (p, Reg.FIREFLY.SEEN), (p, Reg.FIREFLY.INJ_CNT), (p, Reg.FIREFLY.STAT)] ++ raiseRegs p) d e ∧
      rdB e p Reg.FIREFLY.CTL 0 = true ∧ rdB e p Reg.FIREFLY.CTL 16 = bit w.data 16 ∧
      (rdB d p Reg.FIREFLY.CTL 0 = false → rd e p Reg.FIREFLY.SEEN = 0#32 ∧ rd e p Reg.FIREFLY.INJ_CNT = 0#32 ∧
        rdB e p Reg.FIREFLY.STAT 1 = false ∧ (fireflyOf e i.val).lfsr = (if seed = 0 then 1 else seed) ∧
        (ffBlocked e i.val = true → rdB e p hIRQ_RAW 2 = true)) ∧
      (rdB d p Reg.FIREFLY.CTL 0 = true → rd e p Reg.FIREFLY.SEEN = rd d p Reg.FIREFLY.SEEN ∧ e.fab = d.fab)) ∧
    (bit w.data 16 ≠ rdB d p Reg.FIREFLY.CTL 16 → d.sys.mode ≠ .configure → ∃ e, exec (.fireflyArm i w) ⟨d, m, q, r⟩ = .next ⟨e, m, q, r⟩ ∧
      e = { d with regs := e.regs, resp := .error (.refused 0x80) } ∧ keptBut [(p, hERR_CODE), (p, hERR_INFO)] d e)) ∧
  (∀ (d : Device) (m : Memory) (q r : List Instr) (i : Fin 10),
    (ffHoldOver d i.val = false → exec (.fireflyReorderTimeout i) ⟨d, m, q, r⟩ = .next ⟨d, m, q, r⟩) ∧
    (ffHoldOver d i.val = true → ∃ e, exec (.fireflyReorderTimeout i) ⟨d, m, q, r⟩ = .next ⟨e, m, q, r⟩ ∧
      e = { d with fab := e.fab, sent := e.sent } ∧ (fireflyOf e i.val).held = [] ∧ (∀ k, k ≠ i.val → fireflyOf e k = fireflyOf d k) ∧
      e.sent = d.sent ++ (fireflyOf d i.val).held.map (fun u => .unit u none)))

/-- The rows of R581, R582, R590 and R592.
The model's own choices that stand behind it: log entries 15, 113, 114 and 115. -/
def Obligations.PowerAndSleep : Prop :=
  (∀ (d : Device) (m : Memory) (q r : List Instr) (hi : Bool) (w : Wr), calm d = true →
    let off := if hi then Reg.PWR.PD_OFF_HI else Reg.PWR.PD_OFF_LO
    accepts d pgPwr off w = true →
    let named := (bitsOf w.data 32).map (fun i => (if hi then 32 else 0) + i)
    let going := named.filter (fun k => d.sys.pd.getLsbD k)
    let code := if named.any fixedDomain then some 0x80 else if going.any (domainRuns d) then some 0x81
                else if going.any (domainHeld d) then some 0x82 else none
    (switchMode d.sys.mode = false → exec (.pdOffWrite hi w) ⟨d, m, q, r⟩ = .next ⟨{ d with resp := .done }, m, q, r⟩) ∧
    (switchMode d.sys.mode = true → ∀ c, code = some c → ∃ e, exec (.pdOffWrite hi w) ⟨d, m, q, r⟩ = .next ⟨e, m, q, r⟩ ∧
      e = { d with regs := e.regs, eva := e.eva, resp := .error (.refused c) } ∧
      keptBut ([(pgPwr, hERR_CODE), (pgPwr, hERR_INFO)] ++ raiseRegs pgPwr) d e ∧ rdB e pgPwr hIRQ_RAW 1 = true ∧
      (rdF d pgPwr hERR_CODE 0 8 = 0 → rdF e pgPwr hERR_CODE 0 8 = c)) ∧
    (switchMode d.sys.mode = true → code = none →
      exec (.pdOffWrite hi w) ⟨d, m, q, r⟩ = .next ⟨wr pgPwr off w.data { d with resp := .done }, m, q, r⟩)) ∧
  (∀ (d : Device) (m : Memory) (q r : List Instr) (k : Fin 64), fixedDomain k.val = false → domainOn d pgPwr = true →
    (domainDue d k.val = false → calm d = true → exec (.pdChg k) ⟨d, m, q, r⟩ = .next ⟨d, powerLoss d m, q, r⟩) ∧
    (let e := domainReached k.val d
     domainDue d k.val = true → still d e → exec (.pdChg k) ⟨d, m, q, r⟩ = .next ⟨e, powerLoss e m, q, r⟩ ∧
      (∀ j, e.sys.pd.getLsbD j = if j = k.val then !pdOff d j else d.sys.pd.getLsbD j) ∧ rdB e pgPwr hIRQ_RAW 0 = true ∧
      (∀ p off, p ∈ domainPages k.val → classOf p = 5 ∨ classOf p = 8 ∨ classOf p = 9 → off < 4096 → pdOff d k.val = true →
        rd e p off = resetVal p off))) ∧
  (∀ (d : Device) (m : Memory) (q r : List Instr),
    (sleepReady d = false → calm d = true → exec .sleepEntry ⟨d, m, q, r⟩ = .next ⟨d, m, q, r⟩) ∧
    (let e := sleepEnter d
     sleepReady d = true → still d e → exec .sleepEntry ⟨d, m, q, r⟩ = .next ⟨e, m, q, r⟩ ∧ e.sys.mode = .sleep ∧ e.sys.sleepReq = none ∧
      wakeCount e = 0 ∧ e.time.wakeAt = none ∧ rd e pgMode Reg.MODE.WAKE_SRC = rd d pgMode Reg.MODE.WAKE_SRC) ∧
    (sleepLate d = false → exec .sleepIdleTimeout ⟨d, m, q, r⟩ = .next ⟨d, m, q, r⟩) ∧
    (sleepLate d = true → domainOn d pgMode = true → ∃ e, exec .sleepIdleTimeout ⟨d, m, q, r⟩ = .next ⟨e, m, q, r⟩ ∧
      e = { d with regs := e.regs, eva := e.eva, sys := { d.sys with sleepReq := none } } ∧
      keptBut ([(pgMode, Reg.MODE.REQ), (pgMode, hERR_CODE), (pgMode, hERR_INFO)] ++ raiseRegs pgMode) d e ∧
      rd e pgMode Reg.MODE.REQ = d.sys.reqWas ∧ rdB e pgMode hIRQ_RAW 2 = true ∧
      (rdF d pgMode hERR_CODE 0 8 = 0 → rdF e pgMode hERR_CODE 0 8 = 0x82))) ∧
  (∀ (d : Device) (m : Memory) (q r : List Instr) (pin : Fin 4),
    let cfg := fun i => rdB d pgMode Reg.MODE.SLEEP_CFG i
    (∀ a b c rest, d.tmrs.aon = a :: b :: c :: rest →
      aonEdge d pin.val = (a.getLsbD pin.val && b.getLsbD pin.val && !c.getLsbD pin.val)) ∧
    (∀ x ∈ ([(.wakeTio pin, aonEdge d pin.val && cfg (4 + pin.val), 1 + 16 * pin.val), (.wakeTimer, wakeTimerDue d, 3)] : List (Instr × Bool × Nat)),
      (x.2.1 = false → exec x.1 ⟨d, m, q, r⟩ = .next ⟨d, m, q, r⟩) ∧
      (x.2.1 = true → d.sys.mode = .sleep → d.time.wakeAt = none → ∃ e, exec x.1 ⟨d, m, q, r⟩ = .next ⟨e, m, q, r⟩ ∧
        e = { d with regs := e.regs, time := { d.time with wakeAt := some (wakeCount d) } } ∧ keptBut [(pgMode, Reg.MODE.WAKE_SRC)] d e ∧
        rd e pgMode Reg.MODE.WAKE_SRC = wd x.2.2) ∧
      (let e := wake (x.2.2 % 16) (x.2.2 / 16) d
       x.2.1 = true → d.sys.mode = .retain → d.time.wakeAt = none → edgesOff e = true → d.regs.Pairwise (fun a b => a.1 < b.1) →
        exec x.1 ⟨d, m, q, r⟩ = .next ⟨e, m, q, r⟩ ∧
        e.sys.mode = .boot ∧ e.sys.prev = .retain ∧ e.sys.wakeBoot = true ∧ rd e pgMode Reg.MODE.WAKE_SRC = wd x.2.2 ∧
        e.time.wakeAt = some (wakeCount d) ∧ e.sys.straps = d.sys.straps)) ∧
    (d.sys.mode ≠ .sleep ∨ ethUp d 0 = false → exec .wakeEth ⟨d, m, q, r⟩ = .next ⟨d, m, q, r⟩) ∧
    (d.sys.mode = .sleep → ethUp d 0 = true → cfg 9 = false → exec .wakeEth ⟨d, m, q, r⟩ = .next ⟨ethDrop 0 d, m, q, r⟩) ∧
    (d.sys.mode = .sleep → ethUp d 0 = true → cfg 9 = true → d.time.wakeAt = none → ∃ e, exec .wakeEth ⟨d, m, q, r⟩ = .next ⟨e, m, q, r⟩ ∧
      rd e pgMode Reg.MODE.WAKE_SRC = 2#32 ∧ e.time.wakeAt = some (wakeCount d) ∧ e.sys = d.sys))

/-- The MODE_REQ rows, MODE_CHG and DUSK_COMPLETE.
The model's own choices that stand behind it: log entries 112, 113 and 128. -/
def Obligations.Modes : Prop :=
  (∀ (d : Device) (m : Memory) (q r : List Instr) (w : Wr) (found : DawnSet),
    ∀ x ∈ ([(.modeReqRun w, .run), (.modeReqHold w, .hold), (.modeReqConfigure w, .configure), (.modeReqSafe w, .safe),
      (.modeReqSelftest ⟨w, found⟩, .selftest), (.modeReqSleep w, .sleep), (.modeReqRetain w, .retain)] : List (Instr × Mode)),
    let word : Wr := { w with data := wd (modeCode x.2) }
    accepts d pgMode Reg.MODE.REQ word = true →
    let move := modeMove d.sys.mode (modeCode x.2)
    let leaves := decide (d.sys.mode = .safe) && decide (move ≠ some .selftest)
    let held := d.legs.safeNLow || duskZone d
    let code := if inTransit d || d.sys.dusk then some 0x84 else if move = none then some 0x80
      else if leaves && !isSession w.who then some 0x81
      else if (leaves && held) || (decide (move = some (.go .run)) && runBlocked d) then some 0x83 else none
    (∀ c, code = some c → calm d = true → ∃ e, exec x.1 ⟨d, m, q, r⟩ = .next ⟨e, m, q, r⟩ ∧
      e = { d with regs := e.regs, eva := e.eva, resp := .error (.refused c) } ∧
      keptBut ([(pgMode, hERR_CODE), (pgMode, hERR_INFO)] ++ raiseRegs pgMode) d e ∧ rdB e pgMode hIRQ_RAW 2 = true ∧
      (rdF d pgMode hERR_CODE 0 8 = 0 → rdF e pgMode hERR_CODE 0 8 = c)) ∧
    (let e := dawnWillFind found d (modeRequest word { d with resp := .done })
     code = none → still d e → exec x.1 ⟨d, m, q, r⟩ = .next ⟨e, m, q, r⟩ ∧ rd e pgMode Reg.MODE.REQ = wd (modeCode x.2) ∧
      e.sys.asker = w.who ∧
      (∀ t, move = some (.go t) → e.sys.transit = some t ∧ e.sys.mode = d.sys.mode) ∧
      (move = some .sleep → e.sys.sleepReq = some (d.time.now, w.who) ∧ e.sys.mode = d.sys.mode) ∧
      (move = some .dusk → e.sys.dusk = true ∧ e.sys.mode = d.sys.mode ∧ rd e pgMode Reg.MODE.DUSK_CAUSE = 0x84000000#32 ∧
        rd e pgMode Reg.MODE.DUSK_STAMP_LO = wd (stampNow d) ∧ rd e pgMode Reg.MODE.DUSK_STAMP_HI = wd (stampNow d / 2 ^ 32)) ∧
      (move = some .selftest → d.sys.dawn = none → e.sys.mode = .selftest ∧ enabled e pgDawn = true ∧ rd e pgDawn Reg.DAWN.CTL = 1#32 ∧
        (∀ k, k < 64 → e.sys.pd.getLsbD k = true) ∧ e.sys.dawn = some {
          back := d.sys.mode, start := d.time.now, step := nextStep d 0, stepAt := d.time.now, failed := dawnJoin {} found }))) ∧
  (∀ (d : Device) (m : Memory) (q r : List Instr),
    (d.sys.transit = none → calm d = true → exec .modeChg ⟨d, m, q, r⟩ = .next ⟨d, m, q, r⟩) ∧
    (∀ t, let e := modeChange t d
      d.sys.transit = some t → t ≠ .retain → still d e → domainOn d pgMode = true → exec .modeChg ⟨d, m, q, r⟩ = .next ⟨e, m, q, r⟩ ∧
      e.sys.mode = t ∧ e.sys.prev = d.sys.mode ∧ e.sys.transit = none ∧ rdB e pgMode hIRQ_RAW 0 = true ∧
      (d.sys.mode = .safe → ∀ n, n < 128 → beOn d n = true → (bandOf e n).state = .off)) ∧
    (let e := retainEnter d
     d.sys.transit = some .retain → still d e → exec .modeChg ⟨d, m, q, r⟩ = .next ⟨e, retainedMemory d m, q, r⟩ ∧
      e.sys.mode = .retain ∧ e.sys.prev = d.sys.mode ∧ e.sys.pd = 0#64 ∧ e.time.stopTl = d.time.tl) ∧
    (d.sys.dusk = false → calm d = true → exec .duskComplete ⟨d, m, q, r⟩ = .next ⟨d, m, q, r⟩) ∧
    (let e := duskComplete d
     d.sys.dusk = true → still d e → domainOn d pgMode = true → exec .duskComplete ⟨d, m, q, r⟩ = .next ⟨e, m, q, r⟩ ∧
      e.sys.mode = .safe ∧ e.sys.dusk = false ∧ rdB e pgMode hIRQ_RAW 0 = true ∧ rdB e pgMode hIRQ_RAW 1 = true ∧
      (∀ u, u < 32 → (oluOf e u).run = none) ∧ (∀ n, n < 128 → (bandOf e n).wait = none)))

/-- The rows of R593 to R600 and R619.
The model's own choices that stand behind it: log entries 4, 5, 6, 115, 116, 117, 118, 119, 120, 121, 122 and 128. -/
def Obligations.BootAndDawn : Prop :=
  (∀ (d : Device) (m : Memory) (q r : List Instr),
    let e := resetPulse d
    exec .resetNPulse ⟨d, m, q, r⟩ = .next ⟨e, {}, q, r⟩ ∧ e.sys.mode = .boot ∧ e.sys.configured = false ∧ e.time.tl = 0#64 ∧
      e.eva.pending = [] ∧ e.shadow = [] ∧ e.sys.straps = d.sys.straps ∧ e.sys.rbFuse = d.sys.rbFuse ∧
      (∀ p off, off < 4096 → (p, off) ≠ (pgLegsys, Reg.LEGSYS.TRIP_LVL) → rd e p off = resetVal p off)) ∧
  (∀ (d : Device) (m : Memory) (q r : List Instr) (x : BootRun),
    (bootReady d = false → calm d = true → exec (.reset x) ⟨d, m, q, r⟩ = .next ⟨d, m, q, r⟩) ∧
    (let u := bootFirst x d
     bootReady d = true → u.sys.wakeBoot = false →
      (let e : Device := { u with sys := { u.sys with bootAt := some u.time.now, hostImage := false } }
       u.sys.straps.bootsel = 2 → still d e → exec (.reset x) ⟨d, m, q, r⟩ = .next ⟨e, m, q, r⟩) ∧
      (let e := awaitHost u
       u.sys.straps.bootsel ≠ 0 → u.sys.straps.bootsel ≠ 2 → still d e → exec (.reset x) ⟨d, m, q, r⟩ = .next ⟨e, m, q, r⟩ ∧
        e.sys.hostImage = true ∧ e.sys.bootAt = some u.time.now ∧ enabled e (pgEth 0) = true ∧ enabled e pgUandi = true) ∧
      (let t := bootFlash x.copy1 x.copy2 (u, m)
       u.sys.straps.bootsel = 0 → still d t.1 → exec (.reset x) ⟨d, m, q, r⟩ = .next ⟨t.1, t.2, q, r⟩ ∧
        (∀ bs im, x.copy1 = some bs →
          let g := takeImage bs.length (stageBytes bs (emit (flashRead 0) u, m))
          g.1 = some im → t = (bootDone im 0 (wrB pgXspi Reg.XSPI.XSTAT 2 false g.2.2.1), g.2.2.2) ∧ t.1.sys.mode = .configure ∧ t.1.sys.configured = true ∧
            t.1.sys.bootAt = none ∧ enabled t.1 (pgEth 0) = true ∧ enabled t.1 pgUandi = true)))) ∧
  (∀ (d : Device) (m : Memory) (q r : List Instr) (w : Wr), calm d = true →
    let waits := d.sys.mode = .boot ∧ d.sys.bootAt ≠ none ∧ d.sys.hostImage = false
    (accepts d pgBoot Reg.BOOT.CTL (withOnes w 1#32) = true → bit w.data 1 = false →
      (¬ waits → exec (.verify w) ⟨d, m, q, r⟩ = .next ⟨{ d with resp := .done }, m, q, r⟩) ∧
      (waits →
        let t := takeImage (min 0x2000000 (rd d pgBoot Reg.BOOT.IMG_LEN).toNat) ({ d with resp := .done }, m)
        let e := match t.1 with
          | some bs => bootDone bs 2 t.2.2.1
          | none => awaitHost (bootFail t.2.1 t.2.2.1)
        still d e → exec (.verify w) ⟨d, m, q, r⟩ = .next ⟨e, t.2.2.2, q, r⟩)) ∧
    (accepts d pgBoot Reg.BOOT.CTL (withOnes w 2#32) = true → bit w.data 0 = false →
      (imageRight d w.who = true → d.sys.mode = .configure → exec (.rbAdv w) ⟨d, m, q, r⟩ =
        .next ⟨{ d with sys := { d.sys with rbFuse := some (max (rbLevel d) (rdF d pgBoot Reg.BOOT.IMG_INFO 8 6)) }, resp := .done }, m, q, r⟩) ∧
      (∀ c, (c = 0x81 ∧ imageRight d w.who = false) ∨ (c = 0x80 ∧ imageRight d w.who = true ∧ d.sys.mode ≠ .configure) →
        ∃ e, exec (.rbAdv w) ⟨d, m, q, r⟩ = .next ⟨e, m, q, r⟩ ∧ e = { d with regs := e.regs, resp := .error (.refused c) } ∧
          keptBut [(pgBoot, hERR_CODE), (pgBoot, hERR_INFO)] d e)) ∧
    (sourceLate d = false → exec .bootSourceTimeout ⟨d, m, q, r⟩ = .next ⟨d, m, q, r⟩) ∧
    (let e := awaitHost (bootFail 8 d)
     sourceLate d = true → still d e → exec .bootSourceTimeout ⟨d, m, q, r⟩ = .next ⟨e, m, q, r⟩ ∧ e.sys.hostImage = true ∧
      e.sys.bootAt = some d.time.now ∧ rdF e pgBoot Reg.BOOT.STAT 0 8 = 8 ∧ (domainOn d pgBoot = true → rdB e pgBoot hIRQ_RAW 1 = true))) ∧
  (∀ (d : Device) (m : Memory) (q r : List Instr) (w : Wr) (found : DawnSet), accepts d pgDawn Reg.DAWN.CTL (withOnes w 1#32) = true →
    let i : Instr := .dawnRun ⟨w, found⟩
    let begins := inTransit d = false ∧ d.sys.dusk = false ∧ (d.sys.mode = .configure ∨ d.sys.mode = .hold ∨ d.sys.mode = .safe)
    let first := nextStep d 0
    (enabled d pgDawn = false → calm d = true → ∃ e, exec i ⟨d, m, q, r⟩ = .next ⟨e, m, q, r⟩ ∧
      e = { d with regs := e.regs, resp := .error (.refused 0x80) } ∧ keptBut [(pgDawn, hERR_CODE), (pgDawn, hERR_INFO)] d e) ∧
    (enabled d pgDawn = true → ¬ begins → calm d = true → exec i ⟨d, m, q, r⟩ = .next ⟨{ d with resp := .done }, m, q, r⟩) ∧
    (let e := dawnWillFind found d (dawnStart { d with resp := .done })
     enabled d pgDawn = true → begins → d.sys.dawn = none → still d e → exec i ⟨d, m, q, r⟩ = .next ⟨e, m, q, r⟩ ∧ e.sys.mode = .selftest ∧
      rd e pgDawn Reg.DAWN.CTL = 1#32 ∧ rd e pgDawn Reg.DAWN.STAT = wd (if first = 20 then 0 else first) ∧ e.sys.dawn = some {
        back := d.sys.mode, start := d.time.now, step := first, stepAt := d.time.now, failed := dawnJoin {} found })) ∧
  (∀ (d : Device) (m : Memory) (q r : List Instr) (step : Fin 20) (bits : BitVec 64) (found : DawnSet),
    (d.sys.dawn = none → exec (.dawnSliceTimeout step bits) ⟨d, m, q, r⟩ = .next ⟨d, m, q, r⟩ ∧
      (calm d = true → exec (.dawnDone found) ⟨d, m, q, r⟩ = .next ⟨d, m, q, r⟩)) ∧
    (∀ run, d.sys.dawn = some run →
      (step.val ≠ run.step ∨ d.time.now < run.stepAt + 2560000 →
        exec (.dawnSliceTimeout step bits) ⟨d, m, q, r⟩ = .next ⟨d, m, q, r⟩) ∧
      (step.val = run.step → run.stepAt + 2560000 ≤ d.time.now →
        ∃ e, exec (.dawnSliceTimeout step bits) ⟨d, m, q, r⟩ = .next ⟨e, m, q, r⟩ ∧ keptBut [(pgDawn, Reg.DAWN.STAT)] d e ∧
          e = { d with regs := e.regs,
                       sys := { d.sys with dawn := some { run with
                         failed := dawnJoin run.failed (stepParts step.val bits), step := nextStep d step.val, stepAt := d.time.now } } } ∧
          (nextStep d step.val < 20 → rdF e pgDawn Reg.DAWN.STAT 0 5 = nextStep d step.val)) ∧
      (run.step ≠ 20 → calm d = true → exec (.dawnDone found) ⟨d, m, q, r⟩ = .next ⟨d, m, q, r⟩) ∧
      (let e := dawnFinish 19 found d
       let f := dawnTested 19 (dawnSkipList d) (portsUp d) (dawnJoin found run.failed)
       run.step = 20 → still d e → exec (.dawnDone found) ⟨d, m, q, r⟩ = .next ⟨e, m, q, r⟩ ∧ e.sys.mode = run.back ∧ e.sys.dawn = none ∧
        rd e pgDawn Reg.DAWN.CTL = 0#32 ∧ rdB e pgDawn Reg.DAWN.STAT 31 = true ∧ rdB e pgDawn Reg.DAWN.STAT 30 = decide (f ≠ {}) ∧
        rd e pgDawn Reg.DAWN.F_LG = f.dl ∧ (domainOn d pgDawn = true → rdB e pgDawn hIRQ_RAW 0 = true) ∧
        (∀ g, g < 32 → domainOn d (pgLg g) = true → dawnSkips d 1 = false → dawnSkips d 4 = false →
          unusable e (pgLg g) = (f.dl.getLsbD g || f.gate.getLsbD (g / 2) || d.forced.contains (pgLg g) || d.testBad.contains (pgLg g))))))

/-- R131, for the reads and for a write by address that is not yet transferred (R15, R92, R93).
The model's own choices that stand behind it: log entries 14 and 147. -/
def Obligations.ShadowReads : Prop :=
  ∀ (d : Device) (m : Memory) (q r : List Instr) (g : Fin 32) (off : Nat) (who : Requester),
    off ∈ [Reg.LG.PER, Reg.LG.PHASE] ++ (List.range 4).flatMap (fun j =>
      [Reg.LG.ACT j, Reg.LG.CMPA j, Reg.LG.CMPB j, Reg.LG.DTR j, Reg.LG.DTF j, Reg.LG.MINP j]) →
    let p := pgLg g.val
    pageRead p off true who d = (d, rd d p off) ∧
    (∀ (a : LocalAddr) (v : Word), let w : Wr := { who := who, data := v, poison := false }
      calm d = true → pageAt a.toNat = some (p, off) → a.toNat % 4 = 0 → accepts d p off w = true →
      exec (.registerWrite who a .w4 v false) ⟨d, m, q, r⟩ = .next ⟨entered d p off w, m, q, r⟩ ∧
        pageRead p off true who (entered d p off w) = (entered d p off w, rd d p off)) ∧
    (∀ (w : Wr), (off < 0x100 → pload d g.val ≠ 3) →
      (∀ j, j < 4 → off / 64 = 4 + j → legLoadSel d (4 * g.val + j) ≠ 3 ∨ legFrozen d (4 * g.val + j) = true) →
      let e := usable d p off w
      e = { d with shadow := e.shadow, soon := [] } ∧ shadowOf e p off = some (maskedValue p off w.data) ∧
        pageRead p off true who e = (e, rd d p off))

/-- R213, on the command and on the delivery of an output. -/
def Obligations.InvalidOutputs : Prop :=
  (∀ (d : Device) (m : Memory) (q r : List Instr) (ch : Fin 160) (x : Word), fastDue d ch.val = true → (fastValue d ch.val x).1.inv = true →
    ∃ e, exec (.fastOutput ch x) ⟨d, m, q, r⟩ = .next ⟨e, m, q, r⟩ ∧
      (filtOf e ch.val).hi = (filtOf d ch.val).hi ∧ (filtOf e ch.val).hiRun = (filtOf d ch.val).hiRun ∧
      (filtOf e ch.val).lo = (filtOf d ch.val).lo ∧ (filtOf e ch.val).loRun = (filtOf d ch.val).loRun) ∧
  (∀ (d : Device) (ch : Fin 160) (o : FastOut) (full : Bool), o.inv = false →
    let e := fastDeliver ch.val o full d
    let c := (comparators ch.val o.y d).1
    (filtOf e ch.val).hi = (filtOf c ch.val).hi ∧ (filtOf e ch.val).hiRun = (filtOf c ch.val).hiRun ∧
      (filtOf e ch.val).lo = (filtOf c ch.val).lo ∧ (filtOf e ch.val).loRun = (filtOf c ch.val).loRun)

/-- R38: the directory's marks, the reads, and the writes. -/
def Obligations.FixedEnable : Prop :=
  (∀ page : Page, enFixed (classOf (pageNum page)) = true ↔
    page ∈ [.tb, .legsys, .safepat, .memerr, .eva, .fab, .mode, .pwr, .boot, .xspi] ∨ (∃ k, page = .core k ∨ page = .icu k) ∨
      ∃ v, page = .route v) ∧
  (∀ (d : Device) (m : Memory) (q r : List Instr) (page : Page) (who : Requester), enFixed (classOf (pageNum page)) = true →
    bit (pageRead (pageNum page) hPAGE_CTL true who d).2 0 = true ∧ enabled d (pageNum page) = true ∧
    (∀ w : Wr, calm d = true → accepts d (pageNum page) hPAGE_CTL w = true → bit w.data 1 = false → bit w.data 2 = false →
      exec (.pageEnable page w) ⟨d, m, q, r⟩ = .next ⟨{ d with resp := .done }, m, q, r⟩))

end
end

