-- ==== Sys2Proof/Laws/Maps.lean ====
section
/-! SUPPORT. Laws of sparse maps: a read after a write of the same key or of another, and that a write keeps the canonical form. -/

namespace Sys2Proof.Machine

namespace SMap

variable {α : Type}

theorem get_erase_same (d : Nat → α) (m : SMap α) (k : Nat) : get d (erase m k) k = d k := by
  induction m with
  | nil => rfl
  | cons e m ih =>
    obtain ⟨a, v⟩ := e
    by_cases h : a = k
    · simp [erase, h, ih]
    · simp [erase, get, h, ih]

theorem get_erase_ne (d : Nat → α) (m : SMap α) {k j : Nat} (hj : j ≠ k) : get d (erase m k) j = get d m j := by
  induction m with
  | nil => rfl
  | cons e m ih =>
    obtain ⟨a, v⟩ := e
    by_cases h : a = k
    · subst h
      simp [erase, get, ih, Ne.symm hj]
    · by_cases h2 : a = j
      · subst h2
        simp [erase, get, h]
      · simp [erase, get, h, h2, ih]

theorem get_insert_same (d : Nat → α) (m : SMap α) (k : Nat) (v : α) : get d (insert m k v) k = v := by
  induction m with
  | nil => simp [insert, get]
  | cons e m ih =>
    obtain ⟨a, x⟩ := e
    by_cases h1 : k < a
    · simp [insert, get, h1]
    · by_cases h2 : a = k
      · simp [insert, get, h2]
      · simp [insert, get, h1, h2, ih]

theorem get_insert_ne (d : Nat → α) (m : SMap α) {k j : Nat} (v : α) (hj : j ≠ k) : get d (insert m k v) j = get d m j := by
  have hk : k ≠ j := Ne.symm hj
  induction m with
  | nil => simp [insert, get, hk]
  | cons e m ih =>
    obtain ⟨a, x⟩ := e
    by_cases h1 : k < a
    · simp [insert, get, h1, hk]
    · by_cases h2 : a = k
      · subst h2
        simp [insert, get, hk]
      · by_cases h3 : a = j
        · subst h3
          simp [insert, get, h1, hj]
        · simp [insert, get, h1, h2, h3, ih]

/-- A key that was just written reads as what was written. -/
@[simp] theorem get_set_same [DecidableEq α] (d : Nat → α) (m : SMap α) (k : Nat) (v : α) : get d (set d m k v) k = v := by
  unfold set
  split
  · next h => rw [get_erase_same, h]
  · exact get_insert_same d m k v

/-- A write leaves every other key alone. -/
theorem get_set_ne [DecidableEq α] (d : Nat → α) (m : SMap α) {k j : Nat} (v : α) (hj : j ≠ k) : get d (set d m k v) j = get d m j := by
  unfold set
  split
  · exact get_erase_ne d m hj
  · exact get_insert_ne d m v hj

/-! ## The canonical form -/

theorem above_weaken {a b : Nat} {m : SMap α} (h : above b m = true) (hab : a < b) : above a m = true := by
  cases m with
  | nil => rfl
  | cons e m =>
    simp only [above, Bool.and_eq_true, decide_eq_true_eq] at *
    exact ⟨by omega, h.2⟩

theorem above_erase {a k : Nat} {m : SMap α} (h : above a m = true) : above a (erase m k) = true := by
  induction m generalizing a with
  | nil => rfl
  | cons e m ih =>
    obtain ⟨b, x⟩ := e
    simp only [above, Bool.and_eq_true, decide_eq_true_eq] at h
    by_cases hb : b = k
    · simp only [erase, hb, if_true]
      exact ih (above_weaken h.2 h.1)
    · simp only [erase, hb, if_false, above, Bool.and_eq_true, decide_eq_true_eq]
      exact ⟨h.1, ih h.2⟩

theorem above_insert {a k : Nat} {m : SMap α} {v : α} (h : above a m = true) (hk : a < k) : above a (insert m k v) = true := by
  induction m generalizing a with
  | nil => simp [insert, above, hk]
  | cons e m ih =>
    obtain ⟨b, x⟩ := e
    simp only [above, Bool.and_eq_true, decide_eq_true_eq] at h
    by_cases h1 : k < b
    · simp [insert, h1, above, hk, h.2]
    · by_cases h2 : b = k
      · subst h2
        simp [insert, above, hk, h.2]
      · have hbk : b < k := by omega
        simp [insert, h1, h2, above, h.1, ih h.2 hbk]

theorem sorted_of_above {a : Nat} {m : SMap α} (h : above a m = true) : sorted m = true := by
  cases m with
  | nil => rfl
  | cons e m => simp only [above, Bool.and_eq_true] at h; exact h.2

theorem sorted_erase {m : SMap α} {k : Nat} (h : sorted m = true) : sorted (erase m k) = true := by
  cases m with
  | nil => rfl
  | cons e m =>
    obtain ⟨b, x⟩ := e
    by_cases hb : b = k
    · simp only [erase, hb, if_true]
      exact sorted_of_above (above_erase h)
    · simp only [erase, hb, if_false, sorted]
      exact above_erase h

theorem sorted_insert {m : SMap α} {k : Nat} {v : α} (h : sorted m = true) : sorted (insert m k v) = true := by
  cases m with
  | nil => rfl
  | cons e m =>
    obtain ⟨b, x⟩ := e
    by_cases h1 : k < b
    · simp only [insert, h1, if_true, sorted, above, Bool.and_eq_true, decide_eq_true_eq]
      exact ⟨trivial, h⟩
    · by_cases h2 : b = k
      · subst h2
        simpa [insert, sorted] using h
      · simp only [insert, h1, h2, if_false, sorted]
        exact above_insert h (by omega)

theorem all_erase {m : SMap α} {k : Nat} {p : Nat × α → Bool} (h : m.all p = true) : (erase m k).all p = true := by
  induction m with
  | nil => rfl
  | cons e m ih =>
    obtain ⟨b, x⟩ := e
    simp only [List.all_cons, Bool.and_eq_true] at h
    by_cases hb : b = k
    · simp [erase, hb, ih h.2]
    · simp [erase, hb, ih h.2, h.1]

theorem all_insert {m : SMap α} {k : Nat} {v : α} {p : Nat × α → Bool} (h : m.all p = true) (hv : p (k, v) = true) :
    (insert m k v).all p = true := by
  induction m with
  | nil => simp [insert, hv]
  | cons e m ih =>
    obtain ⟨b, x⟩ := e
    have h' := h
    simp only [List.all_cons, Bool.and_eq_true] at h
    by_cases h1 : k < b
    · simp [insert, h1, hv, h.1]
      simpa using h.2
    · by_cases h2 : b = k
      · subst h2
        simp [insert, hv]
        simpa using h.2
      · simp [insert, h1, h2, h.1, ih h.2]

/-- A write keeps the canonical form. -/
theorem wf_set [DecidableEq α] {d : Nat → α} {m : SMap α} (k : Nat) (v : α) (h : wf d m = true) : wf d (set d m k v) = true := by
  simp only [wf, Bool.and_eq_true] at *
  unfold set
  split
  · exact ⟨sorted_erase h.1, all_erase h.2⟩
  · next hv => exact ⟨sorted_insert h.1, all_insert h.2 (by simpa using hv)⟩

theorem above_filter {a : Nat} {m : SMap α} {p : Nat × α → Bool} (h : above a m = true) : above a (m.filter p) = true := by
  induction m generalizing a with
  | nil => rfl
  | cons e m ih =>
    simp only [above, Bool.and_eq_true, decide_eq_true_eq] at h
    by_cases hp : p e = true
    · simp only [List.filter_cons, hp, if_true, above, Bool.and_eq_true, decide_eq_true_eq]
      exact ⟨h.1, ih h.2⟩
    · simp only [List.filter_cons, hp]
      exact ih (above_weaken h.2 h.1)

theorem sorted_filter {m : SMap α} {p : Nat × α → Bool} (h : sorted m = true) : sorted (m.filter p) = true := by
  cases m with
  | nil => rfl
  | cons e m =>
    by_cases hp : p e = true
    · simp only [List.filter_cons, hp, if_true, sorted]
      exact above_filter h
    · simp only [List.filter_cons, hp]
      exact sorted_of_above (above_filter h)

/-- Leaving entries out keeps the canonical form. -/
theorem wf_filter [DecidableEq α] {d : Nat → α} {m : SMap α} (p : Nat × α → Bool) (h : wf d m = true) : wf d (m.filter p) = true := by
  simp only [wf, Bool.and_eq_true] at *
  refine ⟨sorted_filter h.1, ?_⟩
  simp only [List.all_eq_true, List.mem_filter] at *
  exact fun x hx => h.2 x hx.1

end SMap

end Sys2Proof.Machine
end

