-- ==== Sys2Proof/Laws/State.lean ====
section
/-! SUPPORT. One lemma for each field and each named update: what the update leaves alone. -/

namespace Sys2Proof.Machine

variable (d : Device)

/-! ## `wr` -/

@[simp] theorem wr_shadow (p off : Nat) (v : Word) : (wr p off v d).shadow = d.shadow := rfl
@[simp] theorem wr_resp (p off : Nat) (v : Word) : (wr p off v d).resp = d.resp := rfl
@[simp] theorem wr_aborts (p off : Nat) (v : Word) : (wr p off v d).aborts = d.aborts := rfl
@[simp] theorem wr_held (p off : Nat) (v : Word) : (wr p off v d).held = d.held := rfl
@[simp] theorem wr_soon (p off : Nat) (v : Word) : (wr p off v d).soon = d.soon := rfl
@[simp] theorem wr_time (p off : Nat) (v : Word) : (wr p off v d).time = d.time := rfl
@[simp] theorem wr_legs (p off : Nat) (v : Word) : (wr p off v d).legs = d.legs := rfl
@[simp] theorem wr_eva (p off : Nat) (v : Word) : (wr p off v d).eva = d.eva := rfl
@[simp] theorem wr_tmrs (p off : Nat) (v : Word) : (wr p off v d).tmrs = d.tmrs := rfl
@[simp] theorem wr_modg (p off : Nat) (v : Word) : (wr p off v d).modg = d.modg := rfl
@[simp] theorem wr_mclk (p off : Nat) (v : Word) : (wr p off v d).mclk = d.mclk := rfl
@[simp] theorem wr_filt (p off : Nat) (v : Word) : (wr p off v d).filt = d.filt := rfl
@[simp] theorem wr_swTrg (p off : Nat) (v : Word) : (wr p off v d).swTrg = d.swTrg := rfl
@[simp] theorem wr_pfe (p off : Nat) (v : Word) : (wr p off v d).pfe = d.pfe := rfl
@[simp] theorem wr_latest (p off : Nat) (v : Word) : (wr p off v d).latest = d.latest := rfl
@[simp] theorem wr_band (p off : Nat) (v : Word) : (wr p off v d).band = d.band := rfl
@[simp] theorem wr_olu (p off : Nat) (v : Word) : (wr p off v d).olu = d.olu := rfl
@[simp] theorem wr_pos (p off : Nat) (v : Word) : (wr p off v d).pos = d.pos := rfl
@[simp] theorem wr_posNo (p off : Nat) (v : Word) : (wr p off v d).posNo = d.posNo := rfl
@[simp] theorem wr_posAt (p off : Nat) (v : Word) : (wr p off v d).posAt = d.posAt := rfl
@[simp] theorem wr_stream (p off : Nat) (v : Word) : (wr p off v d).stream = d.stream := rfl
@[simp] theorem wr_scrub (p off : Nat) (v : Word) : (wr p off v d).scrub = d.scrub := rfl
@[simp] theorem wr_cvuBusy (p off : Nat) (v : Word) : (wr p off v d).cvuBusy = d.cvuBusy := rfl
@[simp] theorem wr_cvuScan (p off : Nat) (v : Word) : (wr p off v d).cvuScan = d.cvuScan := rfl
@[simp] theorem wr_sess (p off : Nat) (v : Word) : (wr p off v d).sess = d.sess := rfl
@[simp] theorem wr_streamSpent (p off : Nat) (v : Word) : (wr p off v d).streamSpent = d.streamSpent := rfl
@[simp] theorem wr_streamTurn (p off : Nat) (v : Word) : (wr p off v d).streamTurn = d.streamTurn := rfl
@[simp] theorem wr_streamFrom (p off : Nat) (v : Word) : (wr p off v d).streamFrom = d.streamFrom := rfl
@[simp] theorem wr_sys (p off : Nat) (v : Word) : (wr p off v d).sys = d.sys := rfl
@[simp] theorem wr_sent (p off : Nat) (v : Word) : (wr p off v d).sent = d.sent := rfl
@[simp] theorem wr_fab (p off : Nat) (v : Word) : (wr p off v d).fab = d.fab := rfl
@[simp] theorem wr_eth (p off : Nat) (v : Word) : (wr p off v d).eth = d.eth := rfl
@[simp] theorem wr_core (p off : Nat) (v : Word) : (wr p off v d).core = d.core := rfl
@[simp] theorem wr_forced (p off : Nat) (v : Word) : (wr p off v d).forced = d.forced := rfl
@[simp] theorem wr_dawnBad (p off : Nat) (v : Word) : (wr p off v d).dawnBad = d.dawnBad := rfl
@[simp] theorem wr_testBad (p off : Nat) (v : Word) : (wr p off v d).testBad = d.testBad := rfl
@[simp] theorem wr_free (p off : Nat) (v : Word) : (wr p off v d).free = d.free := rfl

/-! ## `wrF` -/

@[simp] theorem wrF_shadow (p off lo n v : Nat) : (wrF p off lo n v d).shadow = d.shadow := rfl
@[simp] theorem wrF_resp (p off lo n v : Nat) : (wrF p off lo n v d).resp = d.resp := rfl
@[simp] theorem wrF_aborts (p off lo n v : Nat) : (wrF p off lo n v d).aborts = d.aborts := rfl
@[simp] theorem wrF_held (p off lo n v : Nat) : (wrF p off lo n v d).held = d.held := rfl
@[simp] theorem wrF_soon (p off lo n v : Nat) : (wrF p off lo n v d).soon = d.soon := rfl
@[simp] theorem wrF_time (p off lo n v : Nat) : (wrF p off lo n v d).time = d.time := rfl
@[simp] theorem wrF_legs (p off lo n v : Nat) : (wrF p off lo n v d).legs = d.legs := rfl
@[simp] theorem wrF_eva (p off lo n v : Nat) : (wrF p off lo n v d).eva = d.eva := rfl
@[simp] theorem wrF_tmrs (p off lo n v : Nat) : (wrF p off lo n v d).tmrs = d.tmrs := rfl
@[simp] theorem wrF_modg (p off lo n v : Nat) : (wrF p off lo n v d).modg = d.modg := rfl
@[simp] theorem wrF_mclk (p off lo n v : Nat) : (wrF p off lo n v d).mclk = d.mclk := rfl
@[simp] theorem wrF_filt (p off lo n v : Nat) : (wrF p off lo n v d).filt = d.filt := rfl
@[simp] theorem wrF_swTrg (p off lo n v : Nat) : (wrF p off lo n v d).swTrg = d.swTrg := rfl
@[simp] theorem wrF_pfe (p off lo n v : Nat) : (wrF p off lo n v d).pfe = d.pfe := rfl
@[simp] theorem wrF_latest (p off lo n v : Nat) : (wrF p off lo n v d).latest = d.latest := rfl
@[simp] theorem wrF_band (p off lo n v : Nat) : (wrF p off lo n v d).band = d.band := rfl
@[simp] theorem wrF_olu (p off lo n v : Nat) : (wrF p off lo n v d).olu = d.olu := rfl
@[simp] theorem wrF_pos (p off lo n v : Nat) : (wrF p off lo n v d).pos = d.pos := rfl
@[simp] theorem wrF_posNo (p off lo n v : Nat) : (wrF p off lo n v d).posNo = d.posNo := rfl
@[simp] theorem wrF_posAt (p off lo n v : Nat) : (wrF p off lo n v d).posAt = d.posAt := rfl
@[simp] theorem wrF_stream (p off lo n v : Nat) : (wrF p off lo n v d).stream = d.stream := rfl
@[simp] theorem wrF_scrub (p off lo n v : Nat) : (wrF p off lo n v d).scrub = d.scrub := rfl
@[simp] theorem wrF_cvuBusy (p off lo n v : Nat) : (wrF p off lo n v d).cvuBusy = d.cvuBusy := rfl
@[simp] theorem wrF_cvuScan (p off lo n v : Nat) : (wrF p off lo n v d).cvuScan = d.cvuScan := rfl
@[simp] theorem wrF_sess (p off lo n v : Nat) : (wrF p off lo n v d).sess = d.sess := rfl
@[simp] theorem wrF_streamSpent (p off lo n v : Nat) : (wrF p off lo n v d).streamSpent = d.streamSpent := rfl
@[simp] theorem wrF_streamTurn (p off lo n v : Nat) : (wrF p off lo n v d).streamTurn = d.streamTurn := rfl
@[simp] theorem wrF_streamFrom (p off lo n v : Nat) : (wrF p off lo n v d).streamFrom = d.streamFrom := rfl
@[simp] theorem wrF_sys (p off lo n v : Nat) : (wrF p off lo n v d).sys = d.sys := rfl
@[simp] theorem wrF_sent (p off lo n v : Nat) : (wrF p off lo n v d).sent = d.sent := rfl
@[simp] theorem wrF_fab (p off lo n v : Nat) : (wrF p off lo n v d).fab = d.fab := rfl
@[simp] theorem wrF_eth (p off lo n v : Nat) : (wrF p off lo n v d).eth = d.eth := rfl
@[simp] theorem wrF_core (p off lo n v : Nat) : (wrF p off lo n v d).core = d.core := rfl
@[simp] theorem wrF_forced (p off lo n v : Nat) : (wrF p off lo n v d).forced = d.forced := rfl
@[simp] theorem wrF_dawnBad (p off lo n v : Nat) : (wrF p off lo n v d).dawnBad = d.dawnBad := rfl
@[simp] theorem wrF_testBad (p off lo n v : Nat) : (wrF p off lo n v d).testBad = d.testBad := rfl
@[simp] theorem wrF_free (p off lo n v : Nat) : (wrF p off lo n v d).free = d.free := rfl

/-! ## `wrB` -/

@[simp] theorem wrB_shadow (p off i : Nat) (b : Bool) : (wrB p off i b d).shadow = d.shadow := rfl
@[simp] theorem wrB_resp (p off i : Nat) (b : Bool) : (wrB p off i b d).resp = d.resp := rfl
@[simp] theorem wrB_aborts (p off i : Nat) (b : Bool) : (wrB p off i b d).aborts = d.aborts := rfl
@[simp] theorem wrB_held (p off i : Nat) (b : Bool) : (wrB p off i b d).held = d.held := rfl
@[simp] theorem wrB_soon (p off i : Nat) (b : Bool) : (wrB p off i b d).soon = d.soon := rfl
@[simp] theorem wrB_time (p off i : Nat) (b : Bool) : (wrB p off i b d).time = d.time := rfl
@[simp] theorem wrB_legs (p off i : Nat) (b : Bool) : (wrB p off i b d).legs = d.legs := rfl
@[simp] theorem wrB_eva (p off i : Nat) (b : Bool) : (wrB p off i b d).eva = d.eva := rfl
@[simp] theorem wrB_tmrs (p off i : Nat) (b : Bool) : (wrB p off i b d).tmrs = d.tmrs := rfl
@[simp] theorem wrB_modg (p off i : Nat) (b : Bool) : (wrB p off i b d).modg = d.modg := rfl
@[simp] theorem wrB_mclk (p off i : Nat) (b : Bool) : (wrB p off i b d).mclk = d.mclk := rfl
@[simp] theorem wrB_filt (p off i : Nat) (b : Bool) : (wrB p off i b d).filt = d.filt := rfl
@[simp] theorem wrB_swTrg (p off i : Nat) (b : Bool) : (wrB p off i b d).swTrg = d.swTrg := rfl
@[simp] theorem wrB_pfe (p off i : Nat) (b : Bool) : (wrB p off i b d).pfe = d.pfe := rfl
@[simp] theorem wrB_latest (p off i : Nat) (b : Bool) : (wrB p off i b d).latest = d.latest := rfl
@[simp] theorem wrB_band (p off i : Nat) (b : Bool) : (wrB p off i b d).band = d.band := rfl
@[simp] theorem wrB_olu (p off i : Nat) (b : Bool) : (wrB p off i b d).olu = d.olu := rfl
@[simp] theorem wrB_pos (p off i : Nat) (b : Bool) : (wrB p off i b d).pos = d.pos := rfl
@[simp] theorem wrB_posNo (p off i : Nat) (b : Bool) : (wrB p off i b d).posNo = d.posNo := rfl
@[simp] theorem wrB_posAt (p off i : Nat) (b : Bool) : (wrB p off i b d).posAt = d.posAt := rfl
@[simp] theorem wrB_stream (p off i : Nat) (b : Bool) : (wrB p off i b d).stream = d.stream := rfl
@[simp] theorem wrB_scrub (p off i : Nat) (b : Bool) : (wrB p off i b d).scrub = d.scrub := rfl
@[simp] theorem wrB_cvuBusy (p off i : Nat) (b : Bool) : (wrB p off i b d).cvuBusy = d.cvuBusy := rfl
@[simp] theorem wrB_cvuScan (p off i : Nat) (b : Bool) : (wrB p off i b d).cvuScan = d.cvuScan := rfl
@[simp] theorem wrB_sess (p off i : Nat) (b : Bool) : (wrB p off i b d).sess = d.sess := rfl
@[simp] theorem wrB_streamSpent (p off i : Nat) (b : Bool) : (wrB p off i b d).streamSpent = d.streamSpent := rfl
@[simp] theorem wrB_streamTurn (p off i : Nat) (b : Bool) : (wrB p off i b d).streamTurn = d.streamTurn := rfl
@[simp] theorem wrB_streamFrom (p off i : Nat) (b : Bool) : (wrB p off i b d).streamFrom = d.streamFrom := rfl
@[simp] theorem wrB_sys (p off i : Nat) (b : Bool) : (wrB p off i b d).sys = d.sys := rfl
@[simp] theorem wrB_sent (p off i : Nat) (b : Bool) : (wrB p off i b d).sent = d.sent := rfl
@[simp] theorem wrB_fab (p off i : Nat) (b : Bool) : (wrB p off i b d).fab = d.fab := rfl
@[simp] theorem wrB_eth (p off i : Nat) (b : Bool) : (wrB p off i b d).eth = d.eth := rfl
@[simp] theorem wrB_core (p off i : Nat) (b : Bool) : (wrB p off i b d).core = d.core := rfl
@[simp] theorem wrB_forced (p off i : Nat) (b : Bool) : (wrB p off i b d).forced = d.forced := rfl
@[simp] theorem wrB_dawnBad (p off i : Nat) (b : Bool) : (wrB p off i b d).dawnBad = d.dawnBad := rfl
@[simp] theorem wrB_testBad (p off i : Nat) (b : Bool) : (wrB p off i b d).testBad = d.testBad := rfl
@[simp] theorem wrB_free (p off i : Nat) (b : Bool) : (wrB p off i b d).free = d.free := rfl

/-! ## `bump` -/

@[simp] theorem bump_shadow (p off : Nat) : (bump p off d).shadow = d.shadow := rfl
@[simp] theorem bump_resp (p off : Nat) : (bump p off d).resp = d.resp := rfl
@[simp] theorem bump_aborts (p off : Nat) : (bump p off d).aborts = d.aborts := rfl
@[simp] theorem bump_held (p off : Nat) : (bump p off d).held = d.held := rfl
@[simp] theorem bump_soon (p off : Nat) : (bump p off d).soon = d.soon := rfl
@[simp] theorem bump_time (p off : Nat) : (bump p off d).time = d.time := rfl
@[simp] theorem bump_legs (p off : Nat) : (bump p off d).legs = d.legs := rfl
@[simp] theorem bump_eva (p off : Nat) : (bump p off d).eva = d.eva := rfl
@[simp] theorem bump_tmrs (p off : Nat) : (bump p off d).tmrs = d.tmrs := rfl
@[simp] theorem bump_modg (p off : Nat) : (bump p off d).modg = d.modg := rfl
@[simp] theorem bump_mclk (p off : Nat) : (bump p off d).mclk = d.mclk := rfl
@[simp] theorem bump_filt (p off : Nat) : (bump p off d).filt = d.filt := rfl
@[simp] theorem bump_swTrg (p off : Nat) : (bump p off d).swTrg = d.swTrg := rfl
@[simp] theorem bump_pfe (p off : Nat) : (bump p off d).pfe = d.pfe := rfl
@[simp] theorem bump_latest (p off : Nat) : (bump p off d).latest = d.latest := rfl
@[simp] theorem bump_band (p off : Nat) : (bump p off d).band = d.band := rfl
@[simp] theorem bump_olu (p off : Nat) : (bump p off d).olu = d.olu := rfl
@[simp] theorem bump_pos (p off : Nat) : (bump p off d).pos = d.pos := rfl
@[simp] theorem bump_posNo (p off : Nat) : (bump p off d).posNo = d.posNo := rfl
@[simp] theorem bump_posAt (p off : Nat) : (bump p off d).posAt = d.posAt := rfl
@[simp] theorem bump_stream (p off : Nat) : (bump p off d).stream = d.stream := rfl
@[simp] theorem bump_scrub (p off : Nat) : (bump p off d).scrub = d.scrub := rfl
@[simp] theorem bump_cvuBusy (p off : Nat) : (bump p off d).cvuBusy = d.cvuBusy := rfl
@[simp] theorem bump_cvuScan (p off : Nat) : (bump p off d).cvuScan = d.cvuScan := rfl
@[simp] theorem bump_sess (p off : Nat) : (bump p off d).sess = d.sess := rfl
@[simp] theorem bump_streamSpent (p off : Nat) : (bump p off d).streamSpent = d.streamSpent := rfl
@[simp] theorem bump_streamTurn (p off : Nat) : (bump p off d).streamTurn = d.streamTurn := rfl
@[simp] theorem bump_streamFrom (p off : Nat) : (bump p off d).streamFrom = d.streamFrom := rfl
@[simp] theorem bump_sys (p off : Nat) : (bump p off d).sys = d.sys := rfl
@[simp] theorem bump_sent (p off : Nat) : (bump p off d).sent = d.sent := rfl
@[simp] theorem bump_fab (p off : Nat) : (bump p off d).fab = d.fab := rfl
@[simp] theorem bump_eth (p off : Nat) : (bump p off d).eth = d.eth := rfl
@[simp] theorem bump_core (p off : Nat) : (bump p off d).core = d.core := rfl
@[simp] theorem bump_forced (p off : Nat) : (bump p off d).forced = d.forced := rfl
@[simp] theorem bump_dawnBad (p off : Nat) : (bump p off d).dawnBad = d.dawnBad := rfl
@[simp] theorem bump_testBad (p off : Nat) : (bump p off d).testBad = d.testBad := rfl
@[simp] theorem bump_free (p off : Nat) : (bump p off d).free = d.free := rfl

/-! ## `setShadow` -/

@[simp] theorem setShadow_regs (p off : Nat) (v : Word) : (setShadow p off v d).regs = d.regs := rfl
@[simp] theorem setShadow_resp (p off : Nat) (v : Word) : (setShadow p off v d).resp = d.resp := rfl
@[simp] theorem setShadow_aborts (p off : Nat) (v : Word) : (setShadow p off v d).aborts = d.aborts := rfl
@[simp] theorem setShadow_held (p off : Nat) (v : Word) : (setShadow p off v d).held = d.held := rfl
@[simp] theorem setShadow_soon (p off : Nat) (v : Word) : (setShadow p off v d).soon = d.soon := rfl
@[simp] theorem setShadow_time (p off : Nat) (v : Word) : (setShadow p off v d).time = d.time := rfl
@[simp] theorem setShadow_legs (p off : Nat) (v : Word) : (setShadow p off v d).legs = d.legs := rfl
@[simp] theorem setShadow_eva (p off : Nat) (v : Word) : (setShadow p off v d).eva = d.eva := rfl
@[simp] theorem setShadow_tmrs (p off : Nat) (v : Word) : (setShadow p off v d).tmrs = d.tmrs := rfl
@[simp] theorem setShadow_modg (p off : Nat) (v : Word) : (setShadow p off v d).modg = d.modg := rfl
@[simp] theorem setShadow_mclk (p off : Nat) (v : Word) : (setShadow p off v d).mclk = d.mclk := rfl
@[simp] theorem setShadow_filt (p off : Nat) (v : Word) : (setShadow p off v d).filt = d.filt := rfl
@[simp] theorem setShadow_swTrg (p off : Nat) (v : Word) : (setShadow p off v d).swTrg = d.swTrg := rfl
@[simp] theorem setShadow_pfe (p off : Nat) (v : Word) : (setShadow p off v d).pfe = d.pfe := rfl
@[simp] theorem setShadow_latest (p off : Nat) (v : Word) : (setShadow p off v d).latest = d.latest := rfl
@[simp] theorem setShadow_band (p off : Nat) (v : Word) : (setShadow p off v d).band = d.band := rfl
@[simp] theorem setShadow_olu (p off : Nat) (v : Word) : (setShadow p off v d).olu = d.olu := rfl
@[simp] theorem setShadow_pos (p off : Nat) (v : Word) : (setShadow p off v d).pos = d.pos := rfl
@[simp] theorem setShadow_posNo (p off : Nat) (v : Word) : (setShadow p off v d).posNo = d.posNo := rfl
@[simp] theorem setShadow_posAt (p off : Nat) (v : Word) : (setShadow p off v d).posAt = d.posAt := rfl
@[simp] theorem setShadow_stream (p off : Nat) (v : Word) : (setShadow p off v d).stream = d.stream := rfl
@[simp] theorem setShadow_scrub (p off : Nat) (v : Word) : (setShadow p off v d).scrub = d.scrub := rfl
@[simp] theorem setShadow_cvuBusy (p off : Nat) (v : Word) : (setShadow p off v d).cvuBusy = d.cvuBusy := rfl
@[simp] theorem setShadow_cvuScan (p off : Nat) (v : Word) : (setShadow p off v d).cvuScan = d.cvuScan := rfl
@[simp] theorem setShadow_sess (p off : Nat) (v : Word) : (setShadow p off v d).sess = d.sess := rfl
@[simp] theorem setShadow_streamSpent (p off : Nat) (v : Word) : (setShadow p off v d).streamSpent = d.streamSpent := rfl
@[simp] theorem setShadow_streamTurn (p off : Nat) (v : Word) : (setShadow p off v d).streamTurn = d.streamTurn := rfl
@[simp] theorem setShadow_streamFrom (p off : Nat) (v : Word) : (setShadow p off v d).streamFrom = d.streamFrom := rfl
@[simp] theorem setShadow_sys (p off : Nat) (v : Word) : (setShadow p off v d).sys = d.sys := rfl
@[simp] theorem setShadow_sent (p off : Nat) (v : Word) : (setShadow p off v d).sent = d.sent := rfl
@[simp] theorem setShadow_fab (p off : Nat) (v : Word) : (setShadow p off v d).fab = d.fab := rfl
@[simp] theorem setShadow_eth (p off : Nat) (v : Word) : (setShadow p off v d).eth = d.eth := rfl
@[simp] theorem setShadow_core (p off : Nat) (v : Word) : (setShadow p off v d).core = d.core := rfl
@[simp] theorem setShadow_forced (p off : Nat) (v : Word) : (setShadow p off v d).forced = d.forced := rfl
@[simp] theorem setShadow_dawnBad (p off : Nat) (v : Word) : (setShadow p off v d).dawnBad = d.dawnBad := rfl
@[simp] theorem setShadow_testBad (p off : Nat) (v : Word) : (setShadow p off v d).testBad = d.testBad := rfl
@[simp] theorem setShadow_free (p off : Nat) (v : Word) : (setShadow p off v d).free = d.free := rfl

/-! ## `dropShadow` -/

@[simp] theorem dropShadow_regs (p off : Nat) : (dropShadow p off d).regs = d.regs := rfl
@[simp] theorem dropShadow_resp (p off : Nat) : (dropShadow p off d).resp = d.resp := rfl
@[simp] theorem dropShadow_aborts (p off : Nat) : (dropShadow p off d).aborts = d.aborts := rfl
@[simp] theorem dropShadow_held (p off : Nat) : (dropShadow p off d).held = d.held := rfl
@[simp] theorem dropShadow_soon (p off : Nat) : (dropShadow p off d).soon = d.soon := rfl
@[simp] theorem dropShadow_time (p off : Nat) : (dropShadow p off d).time = d.time := rfl
@[simp] theorem dropShadow_legs (p off : Nat) : (dropShadow p off d).legs = d.legs := rfl
@[simp] theorem dropShadow_eva (p off : Nat) : (dropShadow p off d).eva = d.eva := rfl
@[simp] theorem dropShadow_tmrs (p off : Nat) : (dropShadow p off d).tmrs = d.tmrs := rfl
@[simp] theorem dropShadow_modg (p off : Nat) : (dropShadow p off d).modg = d.modg := rfl
@[simp] theorem dropShadow_mclk (p off : Nat) : (dropShadow p off d).mclk = d.mclk := rfl
@[simp] theorem dropShadow_filt (p off : Nat) : (dropShadow p off d).filt = d.filt := rfl
@[simp] theorem dropShadow_swTrg (p off : Nat) : (dropShadow p off d).swTrg = d.swTrg := rfl
@[simp] theorem dropShadow_pfe (p off : Nat) : (dropShadow p off d).pfe = d.pfe := rfl
@[simp] theorem dropShadow_latest (p off : Nat) : (dropShadow p off d).latest = d.latest := rfl
@[simp] theorem dropShadow_band (p off : Nat) : (dropShadow p off d).band = d.band := rfl
@[simp] theorem dropShadow_olu (p off : Nat) : (dropShadow p off d).olu = d.olu := rfl
@[simp] theorem dropShadow_pos (p off : Nat) : (dropShadow p off d).pos = d.pos := rfl
@[simp] theorem dropShadow_posNo (p off : Nat) : (dropShadow p off d).posNo = d.posNo := rfl
@[simp] theorem dropShadow_posAt (p off : Nat) : (dropShadow p off d).posAt = d.posAt := rfl
@[simp] theorem dropShadow_stream (p off : Nat) : (dropShadow p off d).stream = d.stream := rfl
@[simp] theorem dropShadow_scrub (p off : Nat) : (dropShadow p off d).scrub = d.scrub := rfl
@[simp] theorem dropShadow_cvuBusy (p off : Nat) : (dropShadow p off d).cvuBusy = d.cvuBusy := rfl
@[simp] theorem dropShadow_cvuScan (p off : Nat) : (dropShadow p off d).cvuScan = d.cvuScan := rfl
@[simp] theorem dropShadow_sess (p off : Nat) : (dropShadow p off d).sess = d.sess := rfl
@[simp] theorem dropShadow_streamSpent (p off : Nat) : (dropShadow p off d).streamSpent = d.streamSpent := rfl
@[simp] theorem dropShadow_streamTurn (p off : Nat) : (dropShadow p off d).streamTurn = d.streamTurn := rfl
@[simp] theorem dropShadow_streamFrom (p off : Nat) : (dropShadow p off d).streamFrom = d.streamFrom := rfl
@[simp] theorem dropShadow_sys (p off : Nat) : (dropShadow p off d).sys = d.sys := rfl
@[simp] theorem dropShadow_sent (p off : Nat) : (dropShadow p off d).sent = d.sent := rfl
@[simp] theorem dropShadow_fab (p off : Nat) : (dropShadow p off d).fab = d.fab := rfl
@[simp] theorem dropShadow_eth (p off : Nat) : (dropShadow p off d).eth = d.eth := rfl
@[simp] theorem dropShadow_core (p off : Nat) : (dropShadow p off d).core = d.core := rfl
@[simp] theorem dropShadow_forced (p off : Nat) : (dropShadow p off d).forced = d.forced := rfl
@[simp] theorem dropShadow_dawnBad (p off : Nat) : (dropShadow p off d).dawnBad = d.dawnBad := rfl
@[simp] theorem dropShadow_testBad (p off : Nat) : (dropShadow p off d).testBad = d.testBad := rfl
@[simp] theorem dropShadow_free (p off : Nat) : (dropShadow p off d).free = d.free := rfl

/-! ## `answer` -/

@[simp] theorem answer_regs (r : Response) : (answer r d).regs = d.regs := rfl
@[simp] theorem answer_shadow (r : Response) : (answer r d).shadow = d.shadow := rfl
@[simp] theorem answer_aborts (r : Response) : (answer r d).aborts = d.aborts := rfl
@[simp] theorem answer_held (r : Response) : (answer r d).held = d.held := rfl
@[simp] theorem answer_soon (r : Response) : (answer r d).soon = d.soon := rfl
@[simp] theorem answer_time (r : Response) : (answer r d).time = d.time := rfl
@[simp] theorem answer_legs (r : Response) : (answer r d).legs = d.legs := rfl
@[simp] theorem answer_eva (r : Response) : (answer r d).eva = d.eva := rfl
@[simp] theorem answer_tmrs (r : Response) : (answer r d).tmrs = d.tmrs := rfl
@[simp] theorem answer_modg (r : Response) : (answer r d).modg = d.modg := rfl
@[simp] theorem answer_mclk (r : Response) : (answer r d).mclk = d.mclk := rfl
@[simp] theorem answer_filt (r : Response) : (answer r d).filt = d.filt := rfl
@[simp] theorem answer_swTrg (r : Response) : (answer r d).swTrg = d.swTrg := rfl
@[simp] theorem answer_pfe (r : Response) : (answer r d).pfe = d.pfe := rfl
@[simp] theorem answer_latest (r : Response) : (answer r d).latest = d.latest := rfl
@[simp] theorem answer_band (r : Response) : (answer r d).band = d.band := rfl
@[simp] theorem answer_olu (r : Response) : (answer r d).olu = d.olu := rfl
@[simp] theorem answer_pos (r : Response) : (answer r d).pos = d.pos := rfl
@[simp] theorem answer_posNo (r : Response) : (answer r d).posNo = d.posNo := rfl
@[simp] theorem answer_posAt (r : Response) : (answer r d).posAt = d.posAt := rfl
@[simp] theorem answer_stream (r : Response) : (answer r d).stream = d.stream := rfl
@[simp] theorem answer_scrub (r : Response) : (answer r d).scrub = d.scrub := rfl
@[simp] theorem answer_cvuBusy (r : Response) : (answer r d).cvuBusy = d.cvuBusy := rfl
@[simp] theorem answer_cvuScan (r : Response) : (answer r d).cvuScan = d.cvuScan := rfl
@[simp] theorem answer_sess (r : Response) : (answer r d).sess = d.sess := rfl
@[simp] theorem answer_streamSpent (r : Response) : (answer r d).streamSpent = d.streamSpent := rfl
@[simp] theorem answer_streamTurn (r : Response) : (answer r d).streamTurn = d.streamTurn := rfl
@[simp] theorem answer_streamFrom (r : Response) : (answer r d).streamFrom = d.streamFrom := rfl
@[simp] theorem answer_sys (r : Response) : (answer r d).sys = d.sys := rfl
@[simp] theorem answer_sent (r : Response) : (answer r d).sent = d.sent := rfl
@[simp] theorem answer_fab (r : Response) : (answer r d).fab = d.fab := rfl
@[simp] theorem answer_eth (r : Response) : (answer r d).eth = d.eth := rfl
@[simp] theorem answer_core (r : Response) : (answer r d).core = d.core := rfl
@[simp] theorem answer_forced (r : Response) : (answer r d).forced = d.forced := rfl
@[simp] theorem answer_dawnBad (r : Response) : (answer r d).dawnBad = d.dawnBad := rfl
@[simp] theorem answer_testBad (r : Response) : (answer r d).testBad = d.testBad := rfl
@[simp] theorem answer_free (r : Response) : (answer r d).free = d.free := rfl

/-! ## `emit` -/

@[simp] theorem emit_regs (m : Sent) : (emit m d).regs = d.regs := rfl
@[simp] theorem emit_shadow (m : Sent) : (emit m d).shadow = d.shadow := rfl
@[simp] theorem emit_resp (m : Sent) : (emit m d).resp = d.resp := rfl
@[simp] theorem emit_aborts (m : Sent) : (emit m d).aborts = d.aborts := rfl
@[simp] theorem emit_held (m : Sent) : (emit m d).held = d.held := rfl
@[simp] theorem emit_soon (m : Sent) : (emit m d).soon = d.soon := rfl
@[simp] theorem emit_time (m : Sent) : (emit m d).time = d.time := rfl
@[simp] theorem emit_legs (m : Sent) : (emit m d).legs = d.legs := rfl
@[simp] theorem emit_eva (m : Sent) : (emit m d).eva = d.eva := rfl
@[simp] theorem emit_tmrs (m : Sent) : (emit m d).tmrs = d.tmrs := rfl
@[simp] theorem emit_modg (m : Sent) : (emit m d).modg = d.modg := rfl
@[simp] theorem emit_mclk (m : Sent) : (emit m d).mclk = d.mclk := rfl
@[simp] theorem emit_filt (m : Sent) : (emit m d).filt = d.filt := rfl
@[simp] theorem emit_swTrg (m : Sent) : (emit m d).swTrg = d.swTrg := rfl
@[simp] theorem emit_pfe (m : Sent) : (emit m d).pfe = d.pfe := rfl
@[simp] theorem emit_latest (m : Sent) : (emit m d).latest = d.latest := rfl
@[simp] theorem emit_band (m : Sent) : (emit m d).band = d.band := rfl
@[simp] theorem emit_olu (m : Sent) : (emit m d).olu = d.olu := rfl
@[simp] theorem emit_pos (m : Sent) : (emit m d).pos = d.pos := rfl
@[simp] theorem emit_posNo (m : Sent) : (emit m d).posNo = d.posNo := rfl
@[simp] theorem emit_posAt (m : Sent) : (emit m d).posAt = d.posAt := rfl
@[simp] theorem emit_stream (m : Sent) : (emit m d).stream = d.stream := rfl
@[simp] theorem emit_scrub (m : Sent) : (emit m d).scrub = d.scrub := rfl
@[simp] theorem emit_cvuBusy (m : Sent) : (emit m d).cvuBusy = d.cvuBusy := rfl
@[simp] theorem emit_cvuScan (m : Sent) : (emit m d).cvuScan = d.cvuScan := rfl
@[simp] theorem emit_sess (m : Sent) : (emit m d).sess = d.sess := rfl
@[simp] theorem emit_streamSpent (m : Sent) : (emit m d).streamSpent = d.streamSpent := rfl
@[simp] theorem emit_streamTurn (m : Sent) : (emit m d).streamTurn = d.streamTurn := rfl
@[simp] theorem emit_streamFrom (m : Sent) : (emit m d).streamFrom = d.streamFrom := rfl
@[simp] theorem emit_sys (m : Sent) : (emit m d).sys = d.sys := rfl
@[simp] theorem emit_fab (m : Sent) : (emit m d).fab = d.fab := rfl
@[simp] theorem emit_eth (m : Sent) : (emit m d).eth = d.eth := rfl
@[simp] theorem emit_core (m : Sent) : (emit m d).core = d.core := rfl
@[simp] theorem emit_forced (m : Sent) : (emit m d).forced = d.forced := rfl
@[simp] theorem emit_dawnBad (m : Sent) : (emit m d).dawnBad = d.dawnBad := rfl
@[simp] theorem emit_testBad (m : Sent) : (emit m d).testBad = d.testBad := rfl
@[simp] theorem emit_free (m : Sent) : (emit m d).free = d.free := rfl

/-! ## `setLeg` -/

@[simp] theorem setLeg_regs (n : Nat) (l : Leg) : (setLeg n l d).regs = d.regs := rfl
@[simp] theorem setLeg_shadow (n : Nat) (l : Leg) : (setLeg n l d).shadow = d.shadow := rfl
@[simp] theorem setLeg_resp (n : Nat) (l : Leg) : (setLeg n l d).resp = d.resp := rfl
@[simp] theorem setLeg_aborts (n : Nat) (l : Leg) : (setLeg n l d).aborts = d.aborts := rfl
@[simp] theorem setLeg_held (n : Nat) (l : Leg) : (setLeg n l d).held = d.held := rfl
@[simp] theorem setLeg_soon (n : Nat) (l : Leg) : (setLeg n l d).soon = d.soon := rfl
@[simp] theorem setLeg_time (n : Nat) (l : Leg) : (setLeg n l d).time = d.time := rfl
@[simp] theorem setLeg_eva (n : Nat) (l : Leg) : (setLeg n l d).eva = d.eva := rfl
@[simp] theorem setLeg_tmrs (n : Nat) (l : Leg) : (setLeg n l d).tmrs = d.tmrs := rfl
@[simp] theorem setLeg_modg (n : Nat) (l : Leg) : (setLeg n l d).modg = d.modg := rfl
@[simp] theorem setLeg_mclk (n : Nat) (l : Leg) : (setLeg n l d).mclk = d.mclk := rfl
@[simp] theorem setLeg_filt (n : Nat) (l : Leg) : (setLeg n l d).filt = d.filt := rfl
@[simp] theorem setLeg_swTrg (n : Nat) (l : Leg) : (setLeg n l d).swTrg = d.swTrg := rfl
@[simp] theorem setLeg_pfe (n : Nat) (l : Leg) : (setLeg n l d).pfe = d.pfe := rfl
@[simp] theorem setLeg_latest (n : Nat) (l : Leg) : (setLeg n l d).latest = d.latest := rfl
@[simp] theorem setLeg_band (n : Nat) (l : Leg) : (setLeg n l d).band = d.band := rfl
@[simp] theorem setLeg_olu (n : Nat) (l : Leg) : (setLeg n l d).olu = d.olu := rfl
@[simp] theorem setLeg_pos (n : Nat) (l : Leg) : (setLeg n l d).pos = d.pos := rfl
@[simp] theorem setLeg_posNo (n : Nat) (l : Leg) : (setLeg n l d).posNo = d.posNo := rfl
@[simp] theorem setLeg_posAt (n : Nat) (l : Leg) : (setLeg n l d).posAt = d.posAt := rfl
@[simp] theorem setLeg_stream (n : Nat) (l : Leg) : (setLeg n l d).stream = d.stream := rfl
@[simp] theorem setLeg_scrub (n : Nat) (l : Leg) : (setLeg n l d).scrub = d.scrub := rfl
@[simp] theorem setLeg_cvuBusy (n : Nat) (l : Leg) : (setLeg n l d).cvuBusy = d.cvuBusy := rfl
@[simp] theorem setLeg_cvuScan (n : Nat) (l : Leg) : (setLeg n l d).cvuScan = d.cvuScan := rfl
@[simp] theorem setLeg_sess (n : Nat) (l : Leg) : (setLeg n l d).sess = d.sess := rfl
@[simp] theorem setLeg_streamSpent (n : Nat) (l : Leg) : (setLeg n l d).streamSpent = d.streamSpent := rfl
@[simp] theorem setLeg_streamTurn (n : Nat) (l : Leg) : (setLeg n l d).streamTurn = d.streamTurn := rfl
@[simp] theorem setLeg_streamFrom (n : Nat) (l : Leg) : (setLeg n l d).streamFrom = d.streamFrom := rfl
@[simp] theorem setLeg_sys (n : Nat) (l : Leg) : (setLeg n l d).sys = d.sys := rfl
@[simp] theorem setLeg_sent (n : Nat) (l : Leg) : (setLeg n l d).sent = d.sent := rfl
@[simp] theorem setLeg_fab (n : Nat) (l : Leg) : (setLeg n l d).fab = d.fab := rfl
@[simp] theorem setLeg_eth (n : Nat) (l : Leg) : (setLeg n l d).eth = d.eth := rfl
@[simp] theorem setLeg_core (n : Nat) (l : Leg) : (setLeg n l d).core = d.core := rfl
@[simp] theorem setLeg_forced (n : Nat) (l : Leg) : (setLeg n l d).forced = d.forced := rfl
@[simp] theorem setLeg_dawnBad (n : Nat) (l : Leg) : (setLeg n l d).dawnBad = d.dawnBad := rfl
@[simp] theorem setLeg_testBad (n : Nat) (l : Leg) : (setLeg n l d).testBad = d.testBad := rfl
@[simp] theorem setLeg_free (n : Nat) (l : Leg) : (setLeg n l d).free = d.free := rfl

/-! ## `setCarrier` -/

@[simp] theorem setCarrier_regs (g : Nat) (c : Carrier) : (setCarrier g c d).regs = d.regs := rfl
@[simp] theorem setCarrier_shadow (g : Nat) (c : Carrier) : (setCarrier g c d).shadow = d.shadow := rfl
@[simp] theorem setCarrier_resp (g : Nat) (c : Carrier) : (setCarrier g c d).resp = d.resp := rfl
@[simp] theorem setCarrier_aborts (g : Nat) (c : Carrier) : (setCarrier g c d).aborts = d.aborts := rfl
@[simp] theorem setCarrier_held (g : Nat) (c : Carrier) : (setCarrier g c d).held = d.held := rfl
@[simp] theorem setCarrier_soon (g : Nat) (c : Carrier) : (setCarrier g c d).soon = d.soon := rfl
@[simp] theorem setCarrier_time (g : Nat) (c : Carrier) : (setCarrier g c d).time = d.time := rfl
@[simp] theorem setCarrier_eva (g : Nat) (c : Carrier) : (setCarrier g c d).eva = d.eva := rfl
@[simp] theorem setCarrier_tmrs (g : Nat) (c : Carrier) : (setCarrier g c d).tmrs = d.tmrs := rfl
@[simp] theorem setCarrier_modg (g : Nat) (c : Carrier) : (setCarrier g c d).modg = d.modg := rfl
@[simp] theorem setCarrier_mclk (g : Nat) (c : Carrier) : (setCarrier g c d).mclk = d.mclk := rfl
@[simp] theorem setCarrier_filt (g : Nat) (c : Carrier) : (setCarrier g c d).filt = d.filt := rfl
@[simp] theorem setCarrier_swTrg (g : Nat) (c : Carrier) : (setCarrier g c d).swTrg = d.swTrg := rfl
@[simp] theorem setCarrier_pfe (g : Nat) (c : Carrier) : (setCarrier g c d).pfe = d.pfe := rfl
@[simp] theorem setCarrier_latest (g : Nat) (c : Carrier) : (setCarrier g c d).latest = d.latest := rfl
@[simp] theorem setCarrier_band (g : Nat) (c : Carrier) : (setCarrier g c d).band = d.band := rfl
@[simp] theorem setCarrier_olu (g : Nat) (c : Carrier) : (setCarrier g c d).olu = d.olu := rfl
@[simp] theorem setCarrier_pos (g : Nat) (c : Carrier) : (setCarrier g c d).pos = d.pos := rfl
@[simp] theorem setCarrier_posNo (g : Nat) (c : Carrier) : (setCarrier g c d).posNo = d.posNo := rfl
@[simp] theorem setCarrier_posAt (g : Nat) (c : Carrier) : (setCarrier g c d).posAt = d.posAt := rfl
@[simp] theorem setCarrier_stream (g : Nat) (c : Carrier) : (setCarrier g c d).stream = d.stream := rfl
@[simp] theorem setCarrier_scrub (g : Nat) (c : Carrier) : (setCarrier g c d).scrub = d.scrub := rfl
@[simp] theorem setCarrier_cvuBusy (g : Nat) (c : Carrier) : (setCarrier g c d).cvuBusy = d.cvuBusy := rfl
@[simp] theorem setCarrier_cvuScan (g : Nat) (c : Carrier) : (setCarrier g c d).cvuScan = d.cvuScan := rfl
@[simp] theorem setCarrier_sess (g : Nat) (c : Carrier) : (setCarrier g c d).sess = d.sess := rfl
@[simp] theorem setCarrier_streamSpent (g : Nat) (c : Carrier) : (setCarrier g c d).streamSpent = d.streamSpent := rfl
@[simp] theorem setCarrier_streamTurn (g : Nat) (c : Carrier) : (setCarrier g c d).streamTurn = d.streamTurn := rfl
@[simp] theorem setCarrier_streamFrom (g : Nat) (c : Carrier) : (setCarrier g c d).streamFrom = d.streamFrom := rfl
@[simp] theorem setCarrier_sys (g : Nat) (c : Carrier) : (setCarrier g c d).sys = d.sys := rfl
@[simp] theorem setCarrier_sent (g : Nat) (c : Carrier) : (setCarrier g c d).sent = d.sent := rfl
@[simp] theorem setCarrier_fab (g : Nat) (c : Carrier) : (setCarrier g c d).fab = d.fab := rfl
@[simp] theorem setCarrier_eth (g : Nat) (c : Carrier) : (setCarrier g c d).eth = d.eth := rfl
@[simp] theorem setCarrier_core (g : Nat) (c : Carrier) : (setCarrier g c d).core = d.core := rfl
@[simp] theorem setCarrier_forced (g : Nat) (c : Carrier) : (setCarrier g c d).forced = d.forced := rfl
@[simp] theorem setCarrier_dawnBad (g : Nat) (c : Carrier) : (setCarrier g c d).dawnBad = d.dawnBad := rfl
@[simp] theorem setCarrier_testBad (g : Nat) (c : Carrier) : (setCarrier g c d).testBad = d.testBad := rfl
@[simp] theorem setCarrier_free (g : Nat) (c : Carrier) : (setCarrier g c d).free = d.free := rfl

/-! ## `setTimer` -/

@[simp] theorem setTimer_regs (n : Nat) (t : Timer) : (setTimer n t d).regs = d.regs := rfl
@[simp] theorem setTimer_shadow (n : Nat) (t : Timer) : (setTimer n t d).shadow = d.shadow := rfl
@[simp] theorem setTimer_resp (n : Nat) (t : Timer) : (setTimer n t d).resp = d.resp := rfl
@[simp] theorem setTimer_aborts (n : Nat) (t : Timer) : (setTimer n t d).aborts = d.aborts := rfl
@[simp] theorem setTimer_held (n : Nat) (t : Timer) : (setTimer n t d).held = d.held := rfl
@[simp] theorem setTimer_soon (n : Nat) (t : Timer) : (setTimer n t d).soon = d.soon := rfl
@[simp] theorem setTimer_time (n : Nat) (t : Timer) : (setTimer n t d).time = d.time := rfl
@[simp] theorem setTimer_legs (n : Nat) (t : Timer) : (setTimer n t d).legs = d.legs := rfl
@[simp] theorem setTimer_eva (n : Nat) (t : Timer) : (setTimer n t d).eva = d.eva := rfl
@[simp] theorem setTimer_modg (n : Nat) (t : Timer) : (setTimer n t d).modg = d.modg := rfl
@[simp] theorem setTimer_mclk (n : Nat) (t : Timer) : (setTimer n t d).mclk = d.mclk := rfl
@[simp] theorem setTimer_filt (n : Nat) (t : Timer) : (setTimer n t d).filt = d.filt := rfl
@[simp] theorem setTimer_swTrg (n : Nat) (t : Timer) : (setTimer n t d).swTrg = d.swTrg := rfl
@[simp] theorem setTimer_pfe (n : Nat) (t : Timer) : (setTimer n t d).pfe = d.pfe := rfl
@[simp] theorem setTimer_latest (n : Nat) (t : Timer) : (setTimer n t d).latest = d.latest := rfl
@[simp] theorem setTimer_band (n : Nat) (t : Timer) : (setTimer n t d).band = d.band := rfl
@[simp] theorem setTimer_olu (n : Nat) (t : Timer) : (setTimer n t d).olu = d.olu := rfl
@[simp] theorem setTimer_pos (n : Nat) (t : Timer) : (setTimer n t d).pos = d.pos := rfl
@[simp] theorem setTimer_posNo (n : Nat) (t : Timer) : (setTimer n t d).posNo = d.posNo := rfl
@[simp] theorem setTimer_posAt (n : Nat) (t : Timer) : (setTimer n t d).posAt = d.posAt := rfl
@[simp] theorem setTimer_stream (n : Nat) (t : Timer) : (setTimer n t d).stream = d.stream := rfl
@[simp] theorem setTimer_scrub (n : Nat) (t : Timer) : (setTimer n t d).scrub = d.scrub := rfl
@[simp] theorem setTimer_cvuBusy (n : Nat) (t : Timer) : (setTimer n t d).cvuBusy = d.cvuBusy := rfl
@[simp] theorem setTimer_cvuScan (n : Nat) (t : Timer) : (setTimer n t d).cvuScan = d.cvuScan := rfl
@[simp] theorem setTimer_sess (n : Nat) (t : Timer) : (setTimer n t d).sess = d.sess := rfl
@[simp] theorem setTimer_streamSpent (n : Nat) (t : Timer) : (setTimer n t d).streamSpent = d.streamSpent := rfl
@[simp] theorem setTimer_streamTurn (n : Nat) (t : Timer) : (setTimer n t d).streamTurn = d.streamTurn := rfl
@[simp] theorem setTimer_streamFrom (n : Nat) (t : Timer) : (setTimer n t d).streamFrom = d.streamFrom := rfl
@[simp] theorem setTimer_sys (n : Nat) (t : Timer) : (setTimer n t d).sys = d.sys := rfl
@[simp] theorem setTimer_sent (n : Nat) (t : Timer) : (setTimer n t d).sent = d.sent := rfl
@[simp] theorem setTimer_fab (n : Nat) (t : Timer) : (setTimer n t d).fab = d.fab := rfl
@[simp] theorem setTimer_eth (n : Nat) (t : Timer) : (setTimer n t d).eth = d.eth := rfl
@[simp] theorem setTimer_core (n : Nat) (t : Timer) : (setTimer n t d).core = d.core := rfl
@[simp] theorem setTimer_forced (n : Nat) (t : Timer) : (setTimer n t d).forced = d.forced := rfl
@[simp] theorem setTimer_dawnBad (n : Nat) (t : Timer) : (setTimer n t d).dawnBad = d.dawnBad := rfl
@[simp] theorem setTimer_testBad (n : Nat) (t : Timer) : (setTimer n t d).testBad = d.testBad := rfl
@[simp] theorem setTimer_free (n : Nat) (t : Timer) : (setTimer n t d).free = d.free := rfl

/-! ## `setCore` -/

@[simp] theorem setCore_regs (k : Nat) (c : Core) : (setCore k c d).regs = d.regs := rfl
@[simp] theorem setCore_shadow (k : Nat) (c : Core) : (setCore k c d).shadow = d.shadow := rfl
@[simp] theorem setCore_resp (k : Nat) (c : Core) : (setCore k c d).resp = d.resp := rfl
@[simp] theorem setCore_aborts (k : Nat) (c : Core) : (setCore k c d).aborts = d.aborts := rfl
@[simp] theorem setCore_held (k : Nat) (c : Core) : (setCore k c d).held = d.held := rfl
@[simp] theorem setCore_soon (k : Nat) (c : Core) : (setCore k c d).soon = d.soon := rfl
@[simp] theorem setCore_time (k : Nat) (c : Core) : (setCore k c d).time = d.time := rfl
@[simp] theorem setCore_legs (k : Nat) (c : Core) : (setCore k c d).legs = d.legs := rfl
@[simp] theorem setCore_eva (k : Nat) (c : Core) : (setCore k c d).eva = d.eva := rfl
@[simp] theorem setCore_tmrs (k : Nat) (c : Core) : (setCore k c d).tmrs = d.tmrs := rfl
@[simp] theorem setCore_modg (k : Nat) (c : Core) : (setCore k c d).modg = d.modg := rfl
@[simp] theorem setCore_mclk (k : Nat) (c : Core) : (setCore k c d).mclk = d.mclk := rfl
@[simp] theorem setCore_filt (k : Nat) (c : Core) : (setCore k c d).filt = d.filt := rfl
@[simp] theorem setCore_swTrg (k : Nat) (c : Core) : (setCore k c d).swTrg = d.swTrg := rfl
@[simp] theorem setCore_pfe (k : Nat) (c : Core) : (setCore k c d).pfe = d.pfe := rfl
@[simp] theorem setCore_latest (k : Nat) (c : Core) : (setCore k c d).latest = d.latest := rfl
@[simp] theorem setCore_band (k : Nat) (c : Core) : (setCore k c d).band = d.band := rfl
@[simp] theorem setCore_olu (k : Nat) (c : Core) : (setCore k c d).olu = d.olu := rfl
@[simp] theorem setCore_pos (k : Nat) (c : Core) : (setCore k c d).pos = d.pos := rfl
@[simp] theorem setCore_posNo (k : Nat) (c : Core) : (setCore k c d).posNo = d.posNo := rfl
@[simp] theorem setCore_posAt (k : Nat) (c : Core) : (setCore k c d).posAt = d.posAt := rfl
@[simp] theorem setCore_stream (k : Nat) (c : Core) : (setCore k c d).stream = d.stream := rfl
@[simp] theorem setCore_scrub (k : Nat) (c : Core) : (setCore k c d).scrub = d.scrub := rfl
@[simp] theorem setCore_cvuBusy (k : Nat) (c : Core) : (setCore k c d).cvuBusy = d.cvuBusy := rfl
@[simp] theorem setCore_cvuScan (k : Nat) (c : Core) : (setCore k c d).cvuScan = d.cvuScan := rfl
@[simp] theorem setCore_sess (k : Nat) (c : Core) : (setCore k c d).sess = d.sess := rfl
@[simp] theorem setCore_streamSpent (k : Nat) (c : Core) : (setCore k c d).streamSpent = d.streamSpent := rfl
@[simp] theorem setCore_streamTurn (k : Nat) (c : Core) : (setCore k c d).streamTurn = d.streamTurn := rfl
@[simp] theorem setCore_streamFrom (k : Nat) (c : Core) : (setCore k c d).streamFrom = d.streamFrom := rfl
@[simp] theorem setCore_sys (k : Nat) (c : Core) : (setCore k c d).sys = d.sys := rfl
@[simp] theorem setCore_sent (k : Nat) (c : Core) : (setCore k c d).sent = d.sent := rfl
@[simp] theorem setCore_fab (k : Nat) (c : Core) : (setCore k c d).fab = d.fab := rfl
@[simp] theorem setCore_eth (k : Nat) (c : Core) : (setCore k c d).eth = d.eth := rfl
@[simp] theorem setCore_forced (k : Nat) (c : Core) : (setCore k c d).forced = d.forced := rfl
@[simp] theorem setCore_dawnBad (k : Nat) (c : Core) : (setCore k c d).dawnBad = d.dawnBad := rfl
@[simp] theorem setCore_testBad (k : Nat) (c : Core) : (setCore k c d).testBad = d.testBad := rfl
@[simp] theorem setCore_free (k : Nat) (c : Core) : (setCore k c d).free = d.free := rfl

end Sys2Proof.Machine
end

