-- ==== Sys2Proof/Laws/Regs.lean ====
section
/-! SUPPORT. Laws of the register operations: a read after a write; fields and bits; what recording an error, raising a cause and
asking EVA for a record leave alone. -/

namespace Sys2Proof.Machine

variable (d : Device)

/-! ## Reads after writes -/

/-- Keys of registers are distinct. -/
theorem rkey_inj {p off q off' : Nat} (h1 : off < 4096) (h2 : off' < 4096) : rkey p off = rkey q off' ↔ p = q ∧ off = off' := by
  unfold rkey; omega

@[simp] theorem rd_wr_same (p off : Nat) (v : Word) : rd (wr p off v d) p off = v := by
  simp [rd, wr]

theorem rd_wr_ne {p off q off' : Nat} (v : Word) (h : rkey q off' ≠ rkey p off) : rd (wr p off v d) q off' = rd d q off' := by
  simp only [rd, wr]
  exact SMap.get_set_ne _ _ _ h

/-- A register other than the written one, by page or by offset. -/
theorem rd_wr_page {p off q off' : Nat} (v : Word) (h1 : off < 4096) (h2 : off' < 4096) (h : q ≠ p) :
    rd (wr p off v d) q off' = rd d q off' := 
  rd_wr_ne d v (fun hc => h ((rkey_inj h2 h1).1 hc).1)

theorem rd_wr_off {p off off' : Nat} (v : Word) (h : off' ≠ off) : rd (wr p off v d) p off' = rd d p off' :=
  rd_wr_ne d v (by unfold rkey; omega)

@[simp] theorem rd_answer (r : Response) (p off : Nat) : rd (answer r d) p off = rd d p off := rfl
@[simp] theorem rd_emit (m : Sent) (p off : Nat) : rd (emit m d) p off = rd d p off := rfl

/-! ## Requests and causes -/

/-- A request changes the arbiter's queue and two of its registers. -/
theorem request_eta (r : EvRec) : request r d = { d with regs := (request r d).regs, eva := (request r d).eva } := by
  unfold request
  split
  · rfl
  · dsimp only
    split <;> rfl

theorem pageIrq_eta (p : Nat) (was : Word) : pageIrq p was d = { d with regs := (pageIrq p was d).regs, eva := (pageIrq p was d).eva } := by
  unfold pageIrq
  split
  · exact request_eta d _
  · rfl

theorem setIrqRaw_eta (p : Nat) (v : Word) :
    setIrqRaw p v d = { d with regs := (setIrqRaw p v d).regs, eva := (setIrqRaw p v d).eva } := by
  unfold setIrqRaw
  rw [pageIrq_eta]
  rfl

/-- Raising a cause changes registers and the arbiter only. -/
theorem raiseAt_eta (p b arg stamp : Nat) (mk : Bool) :
    raiseAt p b arg stamp mk d = { d with regs := (raiseAt p b arg stamp mk d).regs, eva := (raiseAt p b arg stamp mk d).eva } := by
  unfold raiseAt
  split
  · dsimp only
    split
    · rw [request_eta, setIrqRaw_eta]
    · rw [setIrqRaw_eta]
  · rfl

theorem raise_eta (p b : Nat) : raise p b d = { d with regs := (raise p b d).regs, eva := (raise p b d).eva } := raiseAt_eta d _ _ _ _ _

@[simp] theorem raiseAt_shadow (p b arg stamp : Nat) (mk : Bool) : (raiseAt p b arg stamp mk d).shadow = d.shadow := by rw [raiseAt_eta]
@[simp] theorem raiseAt_resp (p b arg stamp : Nat) (mk : Bool) : (raiseAt p b arg stamp mk d).resp = d.resp := by rw [raiseAt_eta]
@[simp] theorem raiseAt_aborts (p b arg stamp : Nat) (mk : Bool) : (raiseAt p b arg stamp mk d).aborts = d.aborts := by rw [raiseAt_eta]
@[simp] theorem raiseAt_held (p b arg stamp : Nat) (mk : Bool) : (raiseAt p b arg stamp mk d).held = d.held := by rw [raiseAt_eta]
@[simp] theorem raiseAt_soon (p b arg stamp : Nat) (mk : Bool) : (raiseAt p b arg stamp mk d).soon = d.soon := by rw [raiseAt_eta]
@[simp] theorem raiseAt_time (p b arg stamp : Nat) (mk : Bool) : (raiseAt p b arg stamp mk d).time = d.time := by rw [raiseAt_eta]
@[simp] theorem raiseAt_legs (p b arg stamp : Nat) (mk : Bool) : (raiseAt p b arg stamp mk d).legs = d.legs := by rw [raiseAt_eta]
@[simp] theorem raiseAt_tmrs (p b arg stamp : Nat) (mk : Bool) : (raiseAt p b arg stamp mk d).tmrs = d.tmrs := by rw [raiseAt_eta]
@[simp] theorem raiseAt_modg (p b arg stamp : Nat) (mk : Bool) : (raiseAt p b arg stamp mk d).modg = d.modg := by rw [raiseAt_eta]
@[simp] theorem raiseAt_mclk (p b arg stamp : Nat) (mk : Bool) : (raiseAt p b arg stamp mk d).mclk = d.mclk := by rw [raiseAt_eta]
@[simp] theorem raiseAt_filt (p b arg stamp : Nat) (mk : Bool) : (raiseAt p b arg stamp mk d).filt = d.filt := by rw [raiseAt_eta]
@[simp] theorem raiseAt_swTrg (p b arg stamp : Nat) (mk : Bool) : (raiseAt p b arg stamp mk d).swTrg = d.swTrg := by rw [raiseAt_eta]
@[simp] theorem raiseAt_pfe (p b arg stamp : Nat) (mk : Bool) : (raiseAt p b arg stamp mk d).pfe = d.pfe := by rw [raiseAt_eta]
@[simp] theorem raiseAt_latest (p b arg stamp : Nat) (mk : Bool) : (raiseAt p b arg stamp mk d).latest = d.latest := by rw [raiseAt_eta]
@[simp] theorem raiseAt_band (p b arg stamp : Nat) (mk : Bool) : (raiseAt p b arg stamp mk d).band = d.band := by rw [raiseAt_eta]
@[simp] theorem raiseAt_olu (p b arg stamp : Nat) (mk : Bool) : (raiseAt p b arg stamp mk d).olu = d.olu := by rw [raiseAt_eta]
@[simp] theorem raiseAt_pos (p b arg stamp : Nat) (mk : Bool) : (raiseAt p b arg stamp mk d).pos = d.pos := by rw [raiseAt_eta]
@[simp] theorem raiseAt_posNo (p b arg stamp : Nat) (mk : Bool) : (raiseAt p b arg stamp mk d).posNo = d.posNo := by rw [raiseAt_eta]
@[simp] theorem raiseAt_posAt (p b arg stamp : Nat) (mk : Bool) : (raiseAt p b arg stamp mk d).posAt = d.posAt := by rw [raiseAt_eta]
@[simp] theorem raiseAt_stream (p b arg stamp : Nat) (mk : Bool) : (raiseAt p b arg stamp mk d).stream = d.stream := by rw [raiseAt_eta]
@[simp] theorem raiseAt_scrub (p b arg stamp : Nat) (mk : Bool) : (raiseAt p b arg stamp mk d).scrub = d.scrub := by rw [raiseAt_eta]
@[simp] theorem raiseAt_cvuBusy (p b arg stamp : Nat) (mk : Bool) : (raiseAt p b arg stamp mk d).cvuBusy = d.cvuBusy := by rw [raiseAt_eta]
@[simp] theorem raiseAt_cvuScan (p b arg stamp : Nat) (mk : Bool) : (raiseAt p b arg stamp mk d).cvuScan = d.cvuScan := by rw [raiseAt_eta]
@[simp] theorem raiseAt_sess (p b arg stamp : Nat) (mk : Bool) : (raiseAt p b arg stamp mk d).sess = d.sess := by rw [raiseAt_eta]
@[simp] theorem raiseAt_streamSpent (p b arg stamp : Nat) (mk : Bool) : (raiseAt p b arg stamp mk d).streamSpent = d.streamSpent := by rw [raiseAt_eta]
@[simp] theorem raiseAt_streamTurn (p b arg stamp : Nat) (mk : Bool) : (raiseAt p b arg stamp mk d).streamTurn = d.streamTurn := by rw [raiseAt_eta]
@[simp] theorem raiseAt_streamFrom (p b arg stamp : Nat) (mk : Bool) : (raiseAt p b arg stamp mk d).streamFrom = d.streamFrom := by rw [raiseAt_eta]
@[simp] theorem raiseAt_sys (p b arg stamp : Nat) (mk : Bool) : (raiseAt p b arg stamp mk d).sys = d.sys := by rw [raiseAt_eta]
@[simp] theorem raiseAt_sent (p b arg stamp : Nat) (mk : Bool) : (raiseAt p b arg stamp mk d).sent = d.sent := by rw [raiseAt_eta]
@[simp] theorem raiseAt_fab (p b arg stamp : Nat) (mk : Bool) : (raiseAt p b arg stamp mk d).fab = d.fab := by rw [raiseAt_eta]
@[simp] theorem raiseAt_eth (p b arg stamp : Nat) (mk : Bool) : (raiseAt p b arg stamp mk d).eth = d.eth := by rw [raiseAt_eta]
@[simp] theorem raiseAt_core (p b arg stamp : Nat) (mk : Bool) : (raiseAt p b arg stamp mk d).core = d.core := by rw [raiseAt_eta]
@[simp] theorem raiseAt_forced (p b arg stamp : Nat) (mk : Bool) : (raiseAt p b arg stamp mk d).forced = d.forced := by rw [raiseAt_eta]
@[simp] theorem raiseAt_dawnBad (p b arg stamp : Nat) (mk : Bool) : (raiseAt p b arg stamp mk d).dawnBad = d.dawnBad := by rw [raiseAt_eta]
@[simp] theorem raiseAt_testBad (p b arg stamp : Nat) (mk : Bool) : (raiseAt p b arg stamp mk d).testBad = d.testBad := by rw [raiseAt_eta]
@[simp] theorem raiseAt_free (p b arg stamp : Nat) (mk : Bool) : (raiseAt p b arg stamp mk d).free = d.free := by rw [raiseAt_eta]

@[simp] theorem raise_shadow (p b : Nat) : (raise p b d).shadow = d.shadow := by rw [raise_eta]
@[simp] theorem raise_resp (p b : Nat) : (raise p b d).resp = d.resp := by rw [raise_eta]
@[simp] theorem raise_aborts (p b : Nat) : (raise p b d).aborts = d.aborts := by rw [raise_eta]
@[simp] theorem raise_held (p b : Nat) : (raise p b d).held = d.held := by rw [raise_eta]
@[simp] theorem raise_soon (p b : Nat) : (raise p b d).soon = d.soon := by rw [raise_eta]
@[simp] theorem raise_time (p b : Nat) : (raise p b d).time = d.time := by rw [raise_eta]
@[simp] theorem raise_legs (p b : Nat) : (raise p b d).legs = d.legs := by rw [raise_eta]
@[simp] theorem raise_tmrs (p b : Nat) : (raise p b d).tmrs = d.tmrs := by rw [raise_eta]
@[simp] theorem raise_modg (p b : Nat) : (raise p b d).modg = d.modg := by rw [raise_eta]
@[simp] theorem raise_mclk (p b : Nat) : (raise p b d).mclk = d.mclk := by rw [raise_eta]
@[simp] theorem raise_filt (p b : Nat) : (raise p b d).filt = d.filt := by rw [raise_eta]
@[simp] theorem raise_swTrg (p b : Nat) : (raise p b d).swTrg = d.swTrg := by rw [raise_eta]
@[simp] theorem raise_pfe (p b : Nat) : (raise p b d).pfe = d.pfe := by rw [raise_eta]
@[simp] theorem raise_latest (p b : Nat) : (raise p b d).latest = d.latest := by rw [raise_eta]
@[simp] theorem raise_band (p b : Nat) : (raise p b d).band = d.band := by rw [raise_eta]
@[simp] theorem raise_olu (p b : Nat) : (raise p b d).olu = d.olu := by rw [raise_eta]
@[simp] theorem raise_pos (p b : Nat) : (raise p b d).pos = d.pos := by rw [raise_eta]
@[simp] theorem raise_posNo (p b : Nat) : (raise p b d).posNo = d.posNo := by rw [raise_eta]
@[simp] theorem raise_posAt (p b : Nat) : (raise p b d).posAt = d.posAt := by rw [raise_eta]
@[simp] theorem raise_stream (p b : Nat) : (raise p b d).stream = d.stream := by rw [raise_eta]
@[simp] theorem raise_scrub (p b : Nat) : (raise p b d).scrub = d.scrub := by rw [raise_eta]
@[simp] theorem raise_cvuBusy (p b : Nat) : (raise p b d).cvuBusy = d.cvuBusy := by rw [raise_eta]
@[simp] theorem raise_cvuScan (p b : Nat) : (raise p b d).cvuScan = d.cvuScan := by rw [raise_eta]
@[simp] theorem raise_sess (p b : Nat) : (raise p b d).sess = d.sess := by rw [raise_eta]
@[simp] theorem raise_streamSpent (p b : Nat) : (raise p b d).streamSpent = d.streamSpent := by rw [raise_eta]
@[simp] theorem raise_streamTurn (p b : Nat) : (raise p b d).streamTurn = d.streamTurn := by rw [raise_eta]
@[simp] theorem raise_streamFrom (p b : Nat) : (raise p b d).streamFrom = d.streamFrom := by rw [raise_eta]
@[simp] theorem raise_sys (p b : Nat) : (raise p b d).sys = d.sys := by rw [raise_eta]
@[simp] theorem raise_sent (p b : Nat) : (raise p b d).sent = d.sent := by rw [raise_eta]
@[simp] theorem raise_fab (p b : Nat) : (raise p b d).fab = d.fab := by rw [raise_eta]
@[simp] theorem raise_eth (p b : Nat) : (raise p b d).eth = d.eth := by rw [raise_eta]
@[simp] theorem raise_core (p b : Nat) : (raise p b d).core = d.core := by rw [raise_eta]
@[simp] theorem raise_forced (p b : Nat) : (raise p b d).forced = d.forced := by rw [raise_eta]
@[simp] theorem raise_dawnBad (p b : Nat) : (raise p b d).dawnBad = d.dawnBad := by rw [raise_eta]
@[simp] theorem raise_testBad (p b : Nat) : (raise p b d).testBad = d.testBad := by rw [raise_eta]
@[simp] theorem raise_free (p b : Nat) : (raise p b d).free = d.free := by rw [raise_eta]

@[simp] theorem setIrqRaw_shadow (p : Nat) (v : Word) : (setIrqRaw p v d).shadow = d.shadow := by rw [setIrqRaw_eta]
@[simp] theorem setIrqRaw_resp (p : Nat) (v : Word) : (setIrqRaw p v d).resp = d.resp := by rw [setIrqRaw_eta]
@[simp] theorem setIrqRaw_aborts (p : Nat) (v : Word) : (setIrqRaw p v d).aborts = d.aborts := by rw [setIrqRaw_eta]
@[simp] theorem setIrqRaw_held (p : Nat) (v : Word) : (setIrqRaw p v d).held = d.held := by rw [setIrqRaw_eta]
@[simp] theorem setIrqRaw_soon (p : Nat) (v : Word) : (setIrqRaw p v d).soon = d.soon := by rw [setIrqRaw_eta]
@[simp] theorem setIrqRaw_time (p : Nat) (v : Word) : (setIrqRaw p v d).time = d.time := by rw [setIrqRaw_eta]
@[simp] theorem setIrqRaw_legs (p : Nat) (v : Word) : (setIrqRaw p v d).legs = d.legs := by rw [setIrqRaw_eta]
@[simp] theorem setIrqRaw_tmrs (p : Nat) (v : Word) : (setIrqRaw p v d).tmrs = d.tmrs := by rw [setIrqRaw_eta]
@[simp] theorem setIrqRaw_modg (p : Nat) (v : Word) : (setIrqRaw p v d).modg = d.modg := by rw [setIrqRaw_eta]
@[simp] theorem setIrqRaw_mclk (p : Nat) (v : Word) : (setIrqRaw p v d).mclk = d.mclk := by rw [setIrqRaw_eta]
@[simp] theorem setIrqRaw_filt (p : Nat) (v : Word) : (setIrqRaw p v d).filt = d.filt := by rw [setIrqRaw_eta]
@[simp] theorem setIrqRaw_swTrg (p : Nat) (v : Word) : (setIrqRaw p v d).swTrg = d.swTrg := by rw [setIrqRaw_eta]
@[simp] theorem setIrqRaw_pfe (p : Nat) (v : Word) : (setIrqRaw p v d).pfe = d.pfe := by rw [setIrqRaw_eta]
@[simp] theorem setIrqRaw_latest (p : Nat) (v : Word) : (setIrqRaw p v d).latest = d.latest := by rw [setIrqRaw_eta]
@[simp] theorem setIrqRaw_band (p : Nat) (v : Word) : (setIrqRaw p v d).band = d.band := by rw [setIrqRaw_eta]
@[simp] theorem setIrqRaw_olu (p : Nat) (v : Word) : (setIrqRaw p v d).olu = d.olu := by rw [setIrqRaw_eta]
@[simp] theorem setIrqRaw_pos (p : Nat) (v : Word) : (setIrqRaw p v d).pos = d.pos := by rw [setIrqRaw_eta]
@[simp] theorem setIrqRaw_posNo (p : Nat) (v : Word) : (setIrqRaw p v d).posNo = d.posNo := by rw [setIrqRaw_eta]
@[simp] theorem setIrqRaw_posAt (p : Nat) (v : Word) : (setIrqRaw p v d).posAt = d.posAt := by rw [setIrqRaw_eta]
@[simp] theorem setIrqRaw_stream (p : Nat) (v : Word) : (setIrqRaw p v d).stream = d.stream := by rw [setIrqRaw_eta]
@[simp] theorem setIrqRaw_scrub (p : Nat) (v : Word) : (setIrqRaw p v d).scrub = d.scrub := by rw [setIrqRaw_eta]
@[simp] theorem setIrqRaw_cvuBusy (p : Nat) (v : Word) : (setIrqRaw p v d).cvuBusy = d.cvuBusy := by rw [setIrqRaw_eta]
@[simp] theorem setIrqRaw_cvuScan (p : Nat) (v : Word) : (setIrqRaw p v d).cvuScan = d.cvuScan := by rw [setIrqRaw_eta]
@[simp] theorem setIrqRaw_sess (p : Nat) (v : Word) : (setIrqRaw p v d).sess = d.sess := by rw [setIrqRaw_eta]
@[simp] theorem setIrqRaw_streamSpent (p : Nat) (v : Word) : (setIrqRaw p v d).streamSpent = d.streamSpent := by rw [setIrqRaw_eta]
@[simp] theorem setIrqRaw_streamTurn (p : Nat) (v : Word) : (setIrqRaw p v d).streamTurn = d.streamTurn := by rw [setIrqRaw_eta]
@[simp] theorem setIrqRaw_streamFrom (p : Nat) (v : Word) : (setIrqRaw p v d).streamFrom = d.streamFrom := by rw [setIrqRaw_eta]
@[simp] theorem setIrqRaw_sys (p : Nat) (v : Word) : (setIrqRaw p v d).sys = d.sys := by rw [setIrqRaw_eta]
@[simp] theorem setIrqRaw_sent (p : Nat) (v : Word) : (setIrqRaw p v d).sent = d.sent := by rw [setIrqRaw_eta]
@[simp] theorem setIrqRaw_fab (p : Nat) (v : Word) : (setIrqRaw p v d).fab = d.fab := by rw [setIrqRaw_eta]
@[simp] theorem setIrqRaw_eth (p : Nat) (v : Word) : (setIrqRaw p v d).eth = d.eth := by rw [setIrqRaw_eta]
@[simp] theorem setIrqRaw_core (p : Nat) (v : Word) : (setIrqRaw p v d).core = d.core := by rw [setIrqRaw_eta]
@[simp] theorem setIrqRaw_forced (p : Nat) (v : Word) : (setIrqRaw p v d).forced = d.forced := by rw [setIrqRaw_eta]
@[simp] theorem setIrqRaw_dawnBad (p : Nat) (v : Word) : (setIrqRaw p v d).dawnBad = d.dawnBad := by rw [setIrqRaw_eta]
@[simp] theorem setIrqRaw_testBad (p : Nat) (v : Word) : (setIrqRaw p v d).testBad = d.testBad := by rw [setIrqRaw_eta]
@[simp] theorem setIrqRaw_free (p : Nat) (v : Word) : (setIrqRaw p v d).free = d.free := by rw [setIrqRaw_eta]

/-! ## Registers that requests and causes leave alone -/

/-- The registers that a request can move. -/
def evaCount (k : Nat) : Bool := decide (k = rkey pgEva Reg.EVA.MERGE_CNT) || decide (k = rkey pgEva Reg.EVA.PEND_PEAK)

theorem evaCount_page {q off : Nat} (hq : q ≠ pgEva) (h : off < 4096) : evaCount (rkey q off) = false := by
  have h1 : rkey q off ≠ rkey pgEva Reg.EVA.MERGE_CNT := fun hc => hq ((rkey_inj h (by decide)).1 hc).1
  have h2 : rkey q off ≠ rkey pgEva Reg.EVA.PEND_PEAK := fun hc => hq ((rkey_inj h (by decide)).1 hc).1
  simp [evaCount, h1, h2]

theorem rd_request (r : EvRec) {q off : Nat} (h : evaCount (rkey q off) = false) : rd (request r d) q off = rd d q off := by
  simp only [evaCount, Bool.or_eq_false_iff, decide_eq_false_iff_not] at h
  unfold request
  split
  · exact rd_wr_ne _ _ h.1
  · dsimp only
    split
    · exact rd_wr_ne _ _ h.2
    · rfl

theorem rd_pageIrq (p : Nat) (was : Word) {q off : Nat} (h : evaCount (rkey q off) = false) :
    rd (pageIrq p was d) q off = rd d q off := by
  unfold pageIrq
  split
  · exact rd_request d _ h
  · rfl

theorem rd_setIrqRaw_ne (p : Nat) (v : Word) {q off : Nat} (h : evaCount (rkey q off) = false) (hn : rkey q off ≠ rkey p hIRQ_RAW) :
    rd (setIrqRaw p v d) q off = rd d q off := by
  unfold setIrqRaw
  rw [rd_pageIrq _ _ _ h, rd_wr_ne _ _ hn]

theorem rd_setIrqRaw_same (p : Nat) (v : Word) (h : evaCount (rkey p hIRQ_RAW) = false) :
    rd (setIrqRaw p v d) p hIRQ_RAW = v &&& irqMask (classOf p) := by
  unfold setIrqRaw
  rw [rd_pageIrq _ _ _ h, rd_wr_same]

/-- A cause that is raised changes no register but its page's IRQ_RAW and the arbiter's two counts. -/
theorem rd_raiseAt_ne (p b arg stamp : Nat) (mk : Bool) {q off : Nat} (h : evaCount (rkey q off) = false)
    (hn : rkey q off ≠ rkey p hIRQ_RAW) : rd (raiseAt p b arg stamp mk d) q off = rd d q off := by
  unfold raiseAt
  split
  · dsimp only
    split
    · rw [rd_request _ _ h, rd_setIrqRaw_ne _ _ _ h hn]
    · exact rd_setIrqRaw_ne _ _ _ h hn
  · rfl

/-- A cause that is raised sets its bit of IRQ_RAW (R40). -/
theorem rd_raiseAt_irq (p b arg stamp : Nat) (mk : Bool) (hd : domainOn d p = true) (h : evaCount (rkey p hIRQ_RAW) = false) :
    rd (raiseAt p b arg stamp mk d) p hIRQ_RAW = (rd d p hIRQ_RAW ||| oneBit b) &&& irqMask (classOf p) := by
  unfold raiseAt
  rw [if_pos hd]
  dsimp only
  split
  · rw [rd_request _ _ h, rd_setIrqRaw_same _ _ _ h]
  · exact rd_setIrqRaw_same _ _ _ h

/-- No IRQ_RAW is one of the arbiter's counts. -/
theorem evaCount_irq (p : Nat) : evaCount (rkey p hIRQ_RAW) = false := by
  have h1 : rkey p hIRQ_RAW ≠ rkey pgEva Reg.EVA.MERGE_CNT := fun hc => by
    have := ((rkey_inj (by decide) (by decide)).1 hc).2
    exact absurd this (by decide)
  have h2 : rkey p hIRQ_RAW ≠ rkey pgEva Reg.EVA.PEND_PEAK := fun hc => by
    have := ((rkey_inj (by decide) (by decide)).1 hc).2
    exact absurd this (by decide)
  simp [evaCount, h1, h2]

end Sys2Proof.Machine
end

