-- ==== Sys2Proof/Laws/Settle.lean ====
section
/-! SUPPORT. In a calm state nothing follows a command within its instant; what keeps a state calm. -/

namespace Sys2Proof.Machine

theorem forEach_id {α β : Type} (xs : List α) (f : α → β → β) (b : β) (h : ∀ x ∈ xs, f x b = b) : forEach xs f b = b := by
  unfold forEach
  induction xs with
  | nil => rfl
  | cons x xs ih =>
    rw [List.foldl_cons, h x (by simp)]
    exact ih (fun y hy => h y (by simp [hy]))

/-- What calm rests on. -/
theorem calm_congr {d e : Device} (h1 : e.stream = d.stream) (h2 : e.cvuBusy = d.cvuBusy) (h3 : e.cvuScan = d.cvuScan) (h4 : e.fab = d.fab)
    (h5 : e.sys = d.sys) (h6 : e.sess = d.sess) (h7 : e.core = d.core) : calm e = calm d := by
  cases d
  cases e
  dsimp only at h1 h2 h3 h4 h5 h6 h7
  subst h1 h2 h3 h4 h5 h6 h7
  rfl

theorem copyDue_calm {d : Device} (m : Memory) (h : calm d = true) : copyDue m d = d := by
  unfold copyDue
  apply forEach_id
  intro s hs
  exfalso
  simp only [calm, Bool.and_eq_true, List.all_eq_true, decide_eq_true_eq] at h
  simp only [List.mem_filter, decide_eq_true_eq] at hs
  exact hs.2 (h.1.1.1.1.1.1.1 s hs.1)

theorem scanAll_calm {d : Device} (m : Memory) (h : calm d = true) : scanAll m d = d := by
  unfold scanAll
  apply forEach_id
  intro c hc
  unfold scanOn
  rw [if_neg]
  intro hx
  simp only [calm, Bool.and_eq_true, List.all_eq_true] at h
  have hy := h.1.1.1.1.1.1.2 c hc
  simp only [cvuEager, hx.1, Bool.true_and, Bool.not_and, Bool.or_eq_true, Bool.not_eq_true'] at hy
  rcases hy with hy | hy
  · exact hx.2.2.1 (by simpa using hy)
  · refine hx.2.2.2 ?_
    revert hy
    cases (scanOf d c).fault <;> simp

theorem calm_loop {d : Device} (h : calm d = true) : d.fab.loop = [] := by
  simp only [calm, Bool.and_eq_true, decide_eq_true_eq] at h
  exact h.1.1.1.1.1.2

theorem calm_later {d : Device} (h : calm d = true) : d.fab.later = [] := by
  simp only [calm, Bool.and_eq_true, decide_eq_true_eq] at h
  exact h.1.1.1.1.2

theorem calm_aborts {d : Device} (h : calm d = true) : d.fab.aborts = [] := by
  simp only [calm, Bool.and_eq_true, decide_eq_true_eq] at h
  exact h.1.1.1.2

theorem calm_verify {d : Device} (h : calm d = true) : d.sys.verifyDue = false := by
  simp only [calm, Bool.and_eq_true, Bool.not_eq_true'] at h
  exact h.1.1.2

theorem calm_sess {d : Device} (h : calm d = true) {s : Nat} (hs : s < 16) : (sessOf d s).slots = [] ∧ (sessOf d s).fly = [] := by
  simp only [calm, Bool.and_eq_true, List.all_eq_true, List.mem_range, decide_eq_true_eq] at h
  exact h.1.2 s hs

theorem calm_core {d : Device} (h : calm d = true) {k : Nat} (hk : k < 36) : (coreOf d k).await = none := by
  simp only [calm, Bool.and_eq_true, List.all_eq_true, List.mem_range, Option.isNone_iff_eq_none] at h
  exact (h.2 k hk).1

theorem calm_stop {d : Device} (h : calm d = true) {k : Nat} (hk : k < 36) : stopDue d k = false := by
  simp only [calm, Bool.and_eq_true, List.all_eq_true, List.mem_range, Bool.not_eq_true'] at h
  simp [stopDue, (h.2 k hk).2]

theorem loopOn_calm {s : DM} (h : calm s.1 = true) : loopOn s = s := by
  have hl := calm_loop h
  unfold loopOn
  rw [hl]
  obtain ⟨d, m⟩ := s
  show (({ d with fab := { d.fab with loop := [] } }, m) : DM) = (d, m)
  dsimp only at hl
  rw [← hl]

theorem laterOn_calm {s : DM} (n : Nat) (h : calm s.1 = true) : laterOn n s = s := by
  cases n with
  | zero => rfl
  | succ n =>
    have hr : laterReady s.1 = none := by
      unfold laterReady
      rw [calm_later h]
      rfl
    unfold laterOn
    rw [hr]

theorem fabAborts_calm {d : Device} (h : calm d = true) : fabAborts d = d := by
  unfold fabAborts
  rw [calm_aborts h]
  rfl

theorem sessionsOn_calm {s : DM} (h : calm s.1 = true) : sessionsOn s = s := by
  unfold sessionsOn
  apply forEach_id
  intro n hn
  obtain ⟨h1, h2⟩ := calm_sess h (List.mem_range.1 hn)
  have ha : abortsAnswered n s.1 = s.1 := by
    unfold abortsAnswered
    rw [h2]
    rfl
  rw [ha]
  unfold sessionGo
  dsimp only
  rw [h1]
  rfl

theorem coresOn_calm {s : DM} (h : calm s.1 = true) : coresOn s = s := by
  unfold coresOn
  have h1 : ∀ k ∈ (List.range 36).filter (fun k => (coreOf s.1 k).await.isSome && !readOut s.1 k &&
      !((coreOf s.1 k).rstReq && storeParked s.1 k)), coreResume k s = s := by
    intro k hk
    exfalso
    simp only [List.mem_filter, List.mem_range, Bool.and_eq_true] at hk
    rw [calm_core h hk.1] at hk
    simp at hk
  dsimp only
  rw [forEach_id _ _ _ h1]
  have h2 : ∀ k ∈ (List.range 36).filter (stopDue s.1), stopCore k s.1 = s.1 := by
    intro k hk
    simp only [List.mem_filter, List.mem_range] at hk
    rw [calm_stop h hk.1] at hk
    simp at hk
  rw [forEach_id _ _ _ h2]

theorem settleOnce_calm {s : DM} (h : calm s.1 = true) : settleOnce s = s := by
  unfold settleOnce
  dsimp only
  rw [copyDue_calm _ h, scanAll_calm _ h, loopOn_calm h, laterOn_calm _ h, fabAborts_calm h]
  have hv : verifyNeighbour (s.1, s.2) = (s.1, s.2) := by
    unfold verifyNeighbour
    rw [if_pos]
    rw [calm_verify h]
    simp
  rw [hv, sessionsOn_calm h, coresOn_calm h]

/-- Nothing follows in a calm state. -/
theorem settleAll_calm {s : DM} (h : calm s.1 = true) : settleAll s = s := by
  unfold settleAll
  rw [settleOnce_calm h, settleOnce_calm h, settleOnce_calm h]

/-! ## Edges -/

theorem legEdges_same (l : Leg) : legEdges l l = [] := by simp [legEdges]

/-- Outputs that stand leave no entry. -/
theorem streamEdges_same {old d : Device} (h : d.legs.leg = old.legs.leg) : streamEdges old d = d := by
  unfold streamEdges
  apply forEach_id
  intro s _
  apply forEach_id
  intro n _
  rw [show legOf old n = legOf d n by simp only [legOf, h], legEdges_same]
  rfl

/-- Without a stream of edges there is no entry. -/
theorem streamEdges_off {old d : Device} (h : edgesOff d = true) : streamEdges old d = d := by
  unfold streamEdges
  rw [of_decide_eq_true h]
  rfl

theorem withEdges_same {f : Device → Device} {d : Device} (h : (f d).legs.leg = d.legs.leg) : withEdges f d = f d := streamEdges_same h

theorem withEdges_off {f : Device → Device} {d : Device} (h : edgesOff (f d) = true) : withEdges f d = f d := streamEdges_off h

/-! ## Commands in a calm state -/

theorem settled_calm {f : DM → DM} {s : State} (hc : calm (f (s.dev, s.mem)).1 = true)
    (hl : (f (s.dev, s.mem)).1.legs.leg = s.dev.legs.leg ∨ edgesOff (f (s.dev, s.mem)).1 = true) :
    settled f s = .next { s with dev := (f (s.dev, s.mem)).1, mem := (f (s.dev, s.mem)).2 } := by
  unfold settled onBoth
  dsimp only
  rw [settleAll_calm hc]
  rcases hl with hl | hl
  · rw [streamEdges_same hl]
  · rw [streamEdges_off hl]

theorem settledD_calm {f : Device → Device} {s : State} (hc : calm (f s.dev) = true)
    (hl : (f s.dev).legs.leg = s.dev.legs.leg ∨ edgesOff (f s.dev) = true) :
    settledD f s = .next { s with dev := f s.dev } :=
  settled_calm (f := fun t => (f t.1, t.2)) hc hl

theorem onNet_calm {f : Device → Device} {s : State} (hc : calm (f s.dev) = true)
    (hl : (f s.dev).legs.leg = s.dev.legs.leg ∨ edgesOff (f s.dev) = true) :
    onNet f s = .next { s with dev := f s.dev } := by
  unfold onNet onNetR onDevR
  dsimp only
  rcases hl with hl | hl
  · rw [withEdges_same hl, copyDue_calm _ hc]
  · rw [withEdges_off hl, copyDue_calm _ hc]

theorem onEdges_calm {f : Device → Device} {s : State} (hl : (f s.dev).legs.leg = s.dev.legs.leg ∨ edgesOff (f s.dev) = true) :
    onEdges f s = .next { s with dev := f s.dev } := by
  unfold onEdges onDev
  rcases hl with hl | hl
  · rw [withEdges_same hl]
  · rw [withEdges_off hl]

end Sys2Proof.Machine
end

