-- ==== Sys2Proof/Laws/Access.lean ====
section
/-! SUPPORT. Laws of accesses to pages: what keeps a state calm, what a performed, a refused and an unmapped write do, and what reads do. -/

namespace Sys2Proof.Machine

variable (d : Device)

/-! ## Updates that keep a state calm -/

@[simp] theorem calm_wr (p off : Nat) (v : Word) : calm (wr p off v d) = calm d := calm_congr rfl rfl rfl rfl rfl rfl rfl
@[simp] theorem calm_wrF (p off lo n v : Nat) : calm (wrF p off lo n v d) = calm d := calm_congr rfl rfl rfl rfl rfl rfl rfl
@[simp] theorem calm_wrB (p off i : Nat) (b : Bool) : calm (wrB p off i b d) = calm d := calm_congr rfl rfl rfl rfl rfl rfl rfl
@[simp] theorem calm_bump (p off : Nat) : calm (bump p off d) = calm d := calm_congr rfl rfl rfl rfl rfl rfl rfl
@[simp] theorem calm_answer (r : Response) : calm (answer r d) = calm d := calm_congr rfl rfl rfl rfl rfl rfl rfl
@[simp] theorem calm_setShadow (p off : Nat) (v : Word) : calm (setShadow p off v d) = calm d := calm_congr rfl rfl rfl rfl rfl rfl rfl
@[simp] theorem calm_dropShadow (p off : Nat) : calm (dropShadow p off d) = calm d := calm_congr rfl rfl rfl rfl rfl rfl rfl
@[simp] theorem calm_emit (m : Sent) : calm (emit m d) = calm d := calm_congr rfl rfl rfl rfl rfl rfl rfl
@[simp] theorem calm_request (r : EvRec) : calm (request r d) = calm d := by rw [request_eta]; exact calm_congr rfl rfl rfl rfl rfl rfl rfl
@[simp] theorem calm_pageIrq (p : Nat) (was : Word) : calm (pageIrq p was d) = calm d := by rw [pageIrq_eta]; exact calm_congr rfl rfl rfl rfl rfl rfl rfl
@[simp] theorem calm_setIrqRaw (p : Nat) (v : Word) : calm (setIrqRaw p v d) = calm d := by rw [setIrqRaw_eta]; exact calm_congr rfl rfl rfl rfl rfl rfl rfl
@[simp] theorem calm_raiseAt (p b arg stamp : Nat) (mk : Bool) : calm (raiseAt p b arg stamp mk d) = calm d := by rw [raiseAt_eta]; exact calm_congr rfl rfl rfl rfl rfl rfl rfl
@[simp] theorem calm_raise (p b : Nat) : calm (raise p b d) = calm d := by rw [raise_eta]; exact calm_congr rfl rfl rfl rfl rfl rfl rfl

theorem recordErr_eta (p code : Nat) (who : Requester) (off : Nat) :
    recordErr p code who off d = { d with regs := (recordErr p code who off d).regs } := by
  unfold recordErr
  split <;> rfl

@[simp] theorem calm_recordErr (p code : Nat) (who : Requester) (off : Nat) : calm (recordErr p code who off d) = calm d := by
  rw [recordErr_eta]; exact calm_congr rfl rfl rfl rfl rfl rfl rfl

@[simp] theorem calm_refuse (p code off : Nat) (who : Requester) : calm (refuse p code off who d) = calm d := by
  unfold refuse; simp

@[simp] theorem calm_note (b : Bool) (p code off : Nat) (who : Requester) : calm (note b p code off who d) = calm d := by
  unfold note; split <;> simp

@[simp] theorem calm_storeReg (p off : Nat) (v : Word) : calm (storeReg p off v d) = calm d := by
  unfold storeReg; split <;> simp

@[simp] theorem storeReg_legs (p off : Nat) (v : Word) : (storeReg p off v d).legs = d.legs := by
  unfold storeReg; split <;> rfl

@[simp] theorem recordErr_legs (p code : Nat) (who : Requester) (off : Nat) : (recordErr p code who off d).legs = d.legs := by
  rw [recordErr_eta]

@[simp] theorem recordErr_resp (p code : Nat) (who : Requester) (off : Nat) : (recordErr p code who off d).resp = d.resp := by
  rw [recordErr_eta]

@[simp] theorem storeReg_resp (p off : Nat) (v : Word) : (storeReg p off v d).resp = d.resp := by
  unfold storeReg; split <;> rfl

/-! ## Registers after storing -/

/-- A register after a plain write of it (R6). -/
theorem rd_storeReg_same {p off : Nat} (v : Word) (h : (rowAt (classOf p) off).isSome = true) :
    rd (storeReg p off v d) p off = storedValue d p off v := by
  unfold storeReg
  rw [if_pos h, rd_wr_same]

theorem rd_storeReg_ne {p off q off' : Nat} (v : Word) (h : rkey q off' ≠ rkey p off) : rd (storeReg p off v d) q off' = rd d q off' := by
  unfold storeReg
  split
  · exact rd_wr_ne _ _ h
  · rfl

theorem rd_recordErr_ne {p code : Nat} {who : Requester} {off q off' : Nat} (h1 : rkey q off' ≠ rkey p hERR_CODE)
    (h2 : rkey q off' ≠ rkey p hERR_INFO) : rd (recordErr p code who off d) q off' = rd d q off' := by
  unfold recordErr
  split
  · rw [rd_wr_ne _ _ h2]
    exact rd_wr_ne _ _ h1
  · exact rd_wr_ne _ _ h1

/-! ## What stays of the registers -/

theorem keptBut_refl (ks : List (Nat × Nat)) : keptBut ks d d := fun _ _ _ _ => rfl

theorem keptBut_trans {ks : List (Nat × Nat)} {d e f : Device} (h1 : keptBut ks d e) (h2 : keptBut ks e f) : keptBut ks d f :=
  fun q off ho hn => (h2 q off ho hn).trans (h1 q off ho hn)

/-- The registers are those of another device. -/
theorem keptBut_regs {ks : List (Nat × Nat)} {d e f : Device} (h : f.regs = e.regs) (h1 : keptBut ks d e) : keptBut ks d f :=
  fun q off ho hn => by rw [← h1 q off ho hn]; unfold rd; rw [h]

/-- Offsets below 4096 make keys distinct. -/
theorem rkey_ne {p off q off' : Nat} (ho : off' < 4096) (hp : off < 4096) (hn : (q, off') ≠ (p, off)) : rkey q off' ≠ rkey p off := by
  intro hc
  obtain ⟨h1, h2⟩ := (rkey_inj ho hp).1 hc
  exact hn (by rw [h1, h2])

theorem keptBut_wr {ks : List (Nat × Nat)} {d e : Device} {p off : Nat} (v : Word) (hm : (p, off) ∈ ks) (hp : off < 4096)
    (h : keptBut ks d e) : keptBut ks d (wr p off v e) := fun q off' ho hn => by
  rw [rd_wr_ne _ _ (rkey_ne ho hp (fun hc => hn (hc ▸ hm)))]
  exact h q off' ho hn

theorem keptBut_wrF {ks : List (Nat × Nat)} {d e : Device} {p off : Nat} (lo n v : Nat) (hm : (p, off) ∈ ks) (hp : off < 4096)
    (h : keptBut ks d e) : keptBut ks d (wrF p off lo n v e) := keptBut_wr _ hm hp h

theorem keptBut_wrB {ks : List (Nat × Nat)} {d e : Device} {p off : Nat} (i : Nat) (b : Bool) (hm : (p, off) ∈ ks) (hp : off < 4096)
    (h : keptBut ks d e) : keptBut ks d (wrB p off i b e) := keptBut_wr _ hm hp h

theorem keptBut_bump {ks : List (Nat × Nat)} {d e : Device} {p off : Nat} (hm : (p, off) ∈ ks) (hp : off < 4096)
    (h : keptBut ks d e) : keptBut ks d (bump p off e) := keptBut_wr _ hm hp h

theorem keptBut_storeReg {ks : List (Nat × Nat)} {d e : Device} {p off : Nat} (v : Word) (hm : (p, off) ∈ ks) (hp : off < 4096)
    (h : keptBut ks d e) : keptBut ks d (storeReg p off v e) := by
  unfold storeReg
  split
  · exact keptBut_wr _ hm hp h
  · exact h

theorem evaCount_of_not_mem {ks : List (Nat × Nat)} {q off : Nat} (ho : off < 4096) (h1 : (pgEva, Reg.EVA.MERGE_CNT) ∈ ks)
    (h2 : (pgEva, Reg.EVA.PEND_PEAK) ∈ ks) (hn : (q, off) ∉ ks) : evaCount (rkey q off) = false := by
  have e1 := rkey_ne ho (by decide) (fun hc => hn (hc ▸ h1) : (q, off) ≠ (pgEva, Reg.EVA.MERGE_CNT))
  have e2 := rkey_ne ho (by decide) (fun hc => hn (hc ▸ h2) : (q, off) ≠ (pgEva, Reg.EVA.PEND_PEAK))
  simp [evaCount, e1, e2]

theorem keptBut_raiseAt {ks : List (Nat × Nat)} {d e : Device} {p : Nat} (b arg stamp : Nat) (mk : Bool) (hm : ∀ x ∈ raiseRegs p, x ∈ ks)
    (h : keptBut ks d e) : keptBut ks d (raiseAt p b arg stamp mk e) := fun q off ho hn => by
  rw [rd_raiseAt_ne _ _ _ _ _ _ (evaCount_of_not_mem ho (hm _ (by simp [raiseRegs])) (hm _ (by simp [raiseRegs])) hn)
    (rkey_ne ho (by decide) (fun hc => hn (hc ▸ hm (p, hIRQ_RAW) (by simp [raiseRegs]))))]
  exact h q off ho hn

theorem keptBut_raise {ks : List (Nat × Nat)} {d e : Device} {p : Nat} (b : Nat) (hm : ∀ x ∈ raiseRegs p, x ∈ ks)
    (h : keptBut ks d e) : keptBut ks d (raise p b e) := keptBut_raiseAt _ _ _ _ hm h

theorem keptBut_setIrqRaw {ks : List (Nat × Nat)} {d e : Device} {p : Nat} (v : Word) (hm : ∀ x ∈ raiseRegs p, x ∈ ks)
    (h : keptBut ks d e) : keptBut ks d (setIrqRaw p v e) := fun q off ho hn => by
  rw [rd_setIrqRaw_ne _ _ _ (evaCount_of_not_mem ho (hm _ (by simp [raiseRegs])) (hm _ (by simp [raiseRegs])) hn)
    (rkey_ne ho (by decide) (fun hc => hn (hc ▸ hm (p, hIRQ_RAW) (by simp [raiseRegs]))))]
  exact h q off ho hn

/-- No header register is one of the arbiter's counts. -/
theorem evaCount_of_header (p : Nat) {off : Nat} (h : off < 0x40) : evaCount (rkey p off) = false := by
  have h1 : rkey p off ≠ rkey pgEva Reg.EVA.MERGE_CNT := fun hc => by
    have := ((rkey_inj (by omega) (by decide)).1 hc).2
    have : Reg.EVA.MERGE_CNT = off := this.symm
    rw [← this] at h
    exact absurd h (by decide)
  have h2 : rkey p off ≠ rkey pgEva Reg.EVA.PEND_PEAK := fun hc => by
    have := ((rkey_inj (by omega) (by decide)).1 hc).2
    have : Reg.EVA.PEND_PEAK = off := this.symm
    rw [← this] at h
    exact absurd h (by decide)
  simp [evaCount, h1, h2]

/-- A request of a key is pending after it has been made (R560). -/
theorem request_pending (r : EvRec) : (request r d).eva.pending.any (fun e => sameKey e r) = true := by
  have key : ∀ (es : List EvRec), es.any (fun e => sameKey e r) = true → (mergeInto r es).any (fun e => sameKey e r) = true := by
    intro es
    induction es with
    | nil => simp
    | cons e es ih =>
      intro h
      unfold mergeInto
      split
      · next hs =>
        have : sameKey (mergeReq e r) r = true := by
          simp [sameKey, mergeReq] at hs ⊢
          exact decide_eq_true hs.1
        simp [this]
      · next hs =>
        simp only [List.any_cons, hs, Bool.false_or] at h ⊢
        simpa using ih h
  unfold request
  split
  · next h => exact key _ h
  · dsimp only
    split <;> simp [sameKey]

/-- IRQ_PEND after IRQ_RAW is written. -/
theorem irqPend_request (r : EvRec) (p : Nat) : irqPend (request r d) p = irqPend d p := by
  unfold irqPend
  rw [rd_request _ _ (evaCount_irq p), rd_request _ _ (evaCount_of_header p (by decide))]

/-! ## Accesses -/

theorem accepts_iff {p off : Nat} {w : Wr} (h : accepts d p off w = true) :
    pageMapped d p = true ∧ holds d p off = false ∧ refusal d p off true w = none ∧ claimBars d p w = false := by
  simpa [accepts, and_assoc] using h

/-- A write that no condition refuses carries no poison (R31). -/
theorem refusal_none_poison {p off : Nat} {w : Wr} (h : refusal d p off true w = none) : w.poison = false := by
  unfold refusal at h
  cases hp : w.poison with
  | false => rfl
  | true => simp [hp] at h

/-- The write of an aligned word without poison reaches its page (R30, R31). -/
theorem reachesPage {w : Wr} (h : w.poison = false) : ¬ (w.who.kind = .core ∧ (¬ (true : Bool) ∨ w.poison)) := by simp [h]

/-- A performed write of a block register. -/
theorem writePage_block {p off : Nat} {w : Wr} (h : accepts d p off w = true) (ho : 0x40 ≤ off) :
    writePage p off w d = blockWrite p off w (answer .done d) := by
  obtain ⟨h1, h2, h3, h4⟩ := accepts_iff d h
  unfold writePage pageWrite checkedWrite
  rw [if_pos h1, if_neg (reachesPage (refusal_none_poison d h3)), if_neg (by simp [h2]), h3]
  exact (if_neg (by simp [h4])).trans (if_pos ho)

/-- A performed write of a header register. -/
theorem writePage_header {p off : Nat} {w : Wr} (h : accepts d p off w = true) (ho : off < 0x40) :
    writePage p off w d = headerWrite p off w (answer .done d) := by
  obtain ⟨h1, h2, h3, h4⟩ := accepts_iff d h
  unfold writePage pageWrite checkedWrite
  rw [if_pos h1, if_neg (reachesPage (refusal_none_poison d h3)), if_neg (by simp [h2]), h3]
  exact (if_neg (by simp [h4])).trans (if_neg (by omega))

/-- A refused write. -/
theorem writePage_refused {p off code : Nat} {w : Wr} (h1 : pageMapped d p = true) (h2 : holds d p off = false)
    (h3 : refusal d p off true w = some code) (h4 : w.who.kind ≠ .core ∨ w.poison = false) :
    writePage p off w d = refuse p code off w.who (if code = 0x04 then wrB p hPAGE_STAT 5 true d else d) := by
  unfold writePage pageWrite checkedWrite
  rw [if_pos h1, if_neg (by rcases h4 with h | h <;> simp [h]), if_neg (by simp [h2]), h3]

theorem writePage_unmapped {p off : Nat} {w : Wr} (h1 : pageMapped d p = false) : writePage p off w d = answer (.error .decode) d := by
  unfold writePage
  rw [if_neg (by simp [h1])]

theorem writeCmd_block {p off : Nat} {w : Wr} {s : State} (h : accepts s.dev p off w = true) (ho : 0x40 ≤ off)
    (hc : calm (blockWrite p off w (answer .done s.dev)) = true)
    (hl : (blockWrite p off w (answer .done s.dev)).legs.leg = s.dev.legs.leg ∨ edgesOff (blockWrite p off w (answer .done s.dev)) = true) :
    writeCmd p off w s = .next { s with dev := blockWrite p off w (answer .done s.dev) } := by
  have e := writePage_block s.dev h ho
  unfold writeCmd
  rw [← e] at hc hl ⊢
  exact settledD_calm hc hl

theorem writeCmd_header {p off : Nat} {w : Wr} {s : State} (h : accepts s.dev p off w = true) (ho : off < 0x40)
    (hc : calm (headerWrite p off w (answer .done s.dev)) = true)
    (hl : (headerWrite p off w (answer .done s.dev)).legs.leg = s.dev.legs.leg ∨ edgesOff (headerWrite p off w (answer .done s.dev)) = true) :
    writeCmd p off w s = .next { s with dev := headerWrite p off w (answer .done s.dev) } := by
  have e := writePage_header s.dev h ho
  unfold writeCmd
  rw [← e] at hc hl ⊢
  exact settledD_calm hc hl

/-- The same, for what the write comes to. -/
theorem writeCmd_block_to {p off : Nat} {w : Wr} {s : State} {x : Device} (h : accepts s.dev p off w = true) (ho : 0x40 ≤ off)
    (e : blockWrite p off w (answer .done s.dev) = x) (hc : calm x = true) (hl : x.legs.leg = s.dev.legs.leg ∨ edgesOff x = true) :
    writeCmd p off w s = .next { s with dev := x } := by
  subst e
  exact writeCmd_block h ho hc hl

theorem writeCmd_header_to {p off : Nat} {w : Wr} {s : State} {x : Device} (h : accepts s.dev p off w = true) (ho : off < 0x40)
    (e : headerWrite p off w (answer .done s.dev) = x) (hc : calm x = true) (hl : x.legs.leg = s.dev.legs.leg ∨ edgesOff x = true) :
    writeCmd p off w s = .next { s with dev := x } := by
  subst e
  exact writeCmd_header h ho hc hl

/-- What a device is given within a command's instant, where that is one of its own functions. -/
theorem settledD_to {f : Device → Device} {s : State} {x : Device} (e : f s.dev = x) (hc : calm x = true)
    (hl : x.legs.leg = s.dev.legs.leg ∨ edgesOff x = true) : settledD f s = .next { s with dev := x } := by
  subst e
  exact settledD_calm hc hl

/-- A read of a mapped page. -/
theorem readCmd_mapped {p off : Nat} {who : Requester} {s : State} (h : pageMapped s.dev p = true) :
    readCmd p off who s = .next { s with dev := answer (.data (pageView p off s.dev) false) (readEffect p off who s.dev) } := by
  unfold readCmd onDev readPage
  rw [if_pos h]
  rfl

end Sys2Proof.Machine
end

