-- ==== Sys2Proof/Laws/Bits.lean ====
section
/-! SUPPORT. Laws of fields and bits: what a field or a bit reads after one is set. -/

namespace Sys2Proof.Machine

theorem bit_wd (n i : Nat) (h : i < 32) : bit (wd n) i = n.testBit i := by
  rw [bit, wd, BitVec.getLsbD_ofNat]; simp [h]

/-- A field, bit by bit. -/
theorem testBit_fld (w : Word) (lo n i : Nat) : (fld w lo n).testBit i = (decide (i < n) && bit w (lo + i)) := by
  unfold fld bit
  rw [Nat.testBit_mod_two_pow, Nat.testBit_div_two_pow, BitVec.getLsbD, Nat.add_comm]

theorem fld_lt (w : Word) (lo n : Nat) : fld w lo n < 2 ^ n := Nat.mod_lt _ (Nat.two_pow_pos n)

/-- A bit after any bit is set. -/
theorem bit_setBit (w : Word) (i j : Nat) (b : Bool) (h : i < 32) (hj : j < 32) :
    bit (setBit w i b) j = if j = i then b else bit w j := by
  unfold setBit bit
  split
  · next hb =>
    subst hb
    rw [BitVec.getLsbD_or]
    have : (wd (2 ^ i)).getLsbD j = decide (j = i) := by
      simp only [wd, BitVec.getLsbD_ofNat, hj, decide_true, Bool.true_and, Nat.testBit_two_pow]
      exact decide_eq_decide.2 eq_comm
    rw [this]
    by_cases hji : j = i <;> simp [hji]
  · next hb =>
    have hb : b = false := by simpa using hb
    subst hb
    rw [BitVec.getLsbD_and, BitVec.getLsbD_not]
    have : (wd (2 ^ i)).getLsbD j = decide (j = i) := by
      simp only [wd, BitVec.getLsbD_ofNat, hj, decide_true, Bool.true_and, Nat.testBit_two_pow]
      exact decide_eq_decide.2 eq_comm
    rw [this]
    by_cases hji : j = i <;> simp [hji, hj, h]

theorem bit_setBit_same (w : Word) (i : Nat) (b : Bool) (h : i < 32) : bit (setBit w i b) i = b := by
  rw [bit_setBit w i i b h h, if_pos rfl]

theorem bit_setBit_ne (w : Word) (i j : Nat) (b : Bool) (h : i < 32) (hj : j < 32) (hn : j ≠ i) : bit (setBit w i b) j = bit w j := by
  rw [bit_setBit w i j b h hj, if_neg hn]

/-- A bit after a field is set. -/
theorem bit_setFld (w : Word) (lo n v j : Nat) (hj : j < 32) :
    bit (setFld w lo n v) j = if j < lo then bit w j else if j < lo + n then v.testBit (j - lo) else bit w j := by
  unfold setFld
  rw [bit_wd _ _ hj]
  have h1 : w.toNat % 2 ^ lo < 2 ^ lo := Nat.mod_lt _ (Nat.two_pow_pos lo)
  have h2 : v % 2 ^ n < 2 ^ n := Nat.mod_lt _ (Nat.two_pow_pos n)
  have e : w.toNat % 2 ^ lo + v % 2 ^ n * 2 ^ lo + w.toNat / 2 ^ (lo + n) * 2 ^ (lo + n) =
      2 ^ lo * (2 ^ n * (w.toNat / 2 ^ (lo + n)) + v % 2 ^ n) + w.toNat % 2 ^ lo := by
    rw [Nat.pow_add, Nat.mul_add, Nat.mul_comm (v % 2 ^ n), Nat.mul_comm (w.toNat / (2 ^ lo * 2 ^ n)), Nat.mul_assoc (2 ^ lo) (2 ^ n)]
    omega
  rw [e, Nat.testBit_two_pow_mul_add _ h1]
  by_cases hlo : j < lo
  · rw [if_pos hlo, if_pos hlo, Nat.testBit_mod_two_pow]
    simp [hlo, bit, BitVec.getLsbD]
  · rw [if_neg hlo, if_neg hlo, Nat.testBit_two_pow_mul_add _ h2]
    by_cases hn : j < lo + n
    · rw [if_pos hn, if_pos (by omega), Nat.testBit_mod_two_pow]
      simp [show j - lo < n by omega]
    · rw [if_neg hn, if_neg (by omega), Nat.testBit_div_two_pow]
      simp [bit, BitVec.getLsbD, show j - lo - n + (lo + n) = j by omega]

/-- A field after it is set. -/
theorem fld_setFld_same (w : Word) (lo n v : Nat) (h : lo + n ≤ 32) : fld (setFld w lo n v) lo n = v % 2 ^ n := by
  apply Nat.eq_of_testBit_eq
  intro i
  rw [testBit_fld, Nat.testBit_mod_two_pow]
  by_cases hi : i < n
  · rw [bit_setFld _ _ _ _ _ (by omega), if_neg (by omega), if_pos (by omega)]
    simp
  · simp [hi]

/-- A field after another, disjoint field is set. -/
theorem fld_setFld_ne (w : Word) (lo n v lo' n' : Nat) (h' : lo' + n' ≤ 32) (hd : lo' + n' ≤ lo ∨ lo + n ≤ lo') :
    fld (setFld w lo n v) lo' n' = fld w lo' n' := by
  apply Nat.eq_of_testBit_eq
  intro i
  rw [testBit_fld, testBit_fld]
  by_cases hi : i < n'
  · rw [bit_setFld _ _ _ _ _ (by omega)]
    rcases hd with hd | hd
    · rw [if_pos (by omega)]
    · rw [if_neg (by omega), if_neg (by omega)]
  · simp [hi]

/-- A field after a bit outside it is set. -/
theorem fld_setBit_ne (w : Word) (i lo n : Nat) (b : Bool) (h : i < 32) (h' : lo + n ≤ 32) (hd : i < lo ∨ lo + n ≤ i) :
    fld (setBit w i b) lo n = fld w lo n := by
  apply Nat.eq_of_testBit_eq
  intro j
  rw [testBit_fld, testBit_fld]
  by_cases hj : j < n
  · rw [bit_setBit_ne _ _ _ _ h (by omega) (by omega)]
  · simp [hj]

/-- A bit outside a field that is set. -/
theorem bit_setFld_ne (w : Word) (lo n v j : Nat) (hj : j < 32) (hd : j < lo ∨ lo + n ≤ j) : bit (setFld w lo n v) j = bit w j := by
  rw [bit_setFld _ _ _ _ _ hj]
  rcases hd with hd | hd
  · rw [if_pos hd]
  · rw [if_neg (by omega), if_neg (by omega)]

/-- Words with equal bits are equal. -/
theorem word_ext {a b : Word} (h : ∀ i, i < 32 → bit a i = bit b i) : a = b := BitVec.eq_of_getLsbD_eq h

theorem bit_or (a b : Word) (i : Nat) : bit (a ||| b) i = (bit a i || bit b i) := BitVec.getLsbD_or
theorem bit_and (a b : Word) (i : Nat) : bit (a &&& b) i = (bit a i && bit b i) := BitVec.getLsbD_and
theorem bit_oneBit (i j : Nat) (hj : j < 32) : bit (oneBit i) j = decide (i = j) := by
  rw [oneBit, bit_wd _ _ hj, Nat.testBit_two_pow]

end Sys2Proof.Machine
end

