-- ==== Sys2Proof/Laws/Memory.lean ====
section
/-! SUPPORT. Every operation that touches memory keeps its canonical form: from the writes of single bytes up to what follows a
command within its instant. -/

namespace Sys2Proof.Machine

/-! ## Bytes and words -/

/-- A byte reads as what was last written to it. -/
@[simp] theorem memByte_setByte_same (a : Nat) (b : Byte) (m : Memory) : memByte (setByte a b m) a = b := by
  simp [memByte, setByte]

/-- A write of a byte leaves every other byte alone. -/
theorem memByte_setByte_ne {a x : Nat} (b : Byte) (m : Memory) (h : x ≠ a) : memByte (setByte a b m) x = memByte m x := by
  simp only [memByte, setByte]
  exact SMap.get_set_ne _ _ _ h

/-- A write of bytes leaves every byte outside its range alone. -/
theorem memByte_setBytes_ne {x : Nat} (bs : List Byte) (a : Nat) (m : Memory) (h : x < a ∨ a + bs.length ≤ x) :
    memByte (setBytes a bs m) x = memByte m x := by
  induction bs generalizing a m with
  | nil => rfl
  | cons b bs ih =>
    simp only [List.length_cons] at h
    rw [setBytes, ih (a + 1) _ (by omega), memByte_setByte_ne _ _ (by omega)]

theorem setByte_wf {a : Nat} {b : Byte} {m : Memory} (h : m.wf = true) : (setByte a b m).wf = true := by
  simp only [Memory.wf, setByte, Bool.and_eq_true] at *
  exact ⟨SMap.wf_set _ _ h.1, h.2⟩

theorem setBytes_wf {a : Nat} {bs : List Byte} {m : Memory} (h : m.wf = true) : (setBytes a bs m).wf = true := by
  induction bs generalizing a m with
  | nil => exact h
  | cons b bs ih => exact ih (setByte_wf h)

theorem storeWord_wf {w v : Nat} {p : Bool} {m : Memory} (h : m.wf = true) : (storeWord w v p m).wf = true := by
  unfold storeWord
  generalize freshFault v p (faultOf m w) = f
  have h' := @setBytes_wf (8 * w) (bytesLE 8 (v ^^^ f.damage % 2 ^ 64)) m h
  simp only [Memory.wf, Bool.and_eq_true] at *
  exact ⟨h'.1, SMap.wf_set _ _ h'.2⟩

theorem writePart_wf {w : Nat} {x : Nat × List Byte} {p : Bool} {s : Device × Memory} (h : s.2.wf = true) :
    (writePart w x p s).2.wf = true := by
  unfold writePart
  split <;> exact storeWord_wf h

/-- Folding a step that keeps the form over a list keeps it. -/
theorem forEach_wf {α : Type} (xs : List α) (f : α → DM → DM) (hf : ∀ x s, s.2.wf = true → (f x s).2.wf = true) {s : DM}
    (h : s.2.wf = true) : (forEach xs f s).2.wf = true := by
  unfold forEach
  induction xs generalizing s with
  | nil => exact h
  | cons x xs ih => exact ih (hf x s h)

theorem writeMem_wf {a : Nat} {bs : List Byte} {bad : Nat → Bool} {s t : Device × Memory} (h : s.2.wf = true)
    (ht : writeMem a bs bad s = some t) : t.2.wf = true := by
  unfold writeMem at ht
  split at ht
  · rw [← Option.some.inj ht]
    exact forEach_wf _ _ (fun _ _ hs => writePart_wf hs) h
  · cases ht

theorem writeMem_getD_wf {a : Nat} {bs : List Byte} {bad : Nat → Bool} {s : Device × Memory} (h : s.2.wf = true) :
    ((writeMem a bs bad s).getD s).2.wf = true := by
  cases hw : writeMem a bs bad s with
  | none => exact h
  | some t => exact writeMem_wf h hw

theorem forEach_mem_wf {α : Type} (xs : List α) (f : α → Memory → Memory) (hf : ∀ x m, m.wf = true → (f x m).wf = true) {m : Memory}
    (h : m.wf = true) : (forEach xs f m).wf = true := by
  unfold forEach
  induction xs generalizing m with
  | nil => exact h
  | cons x xs ih => exact ih (hf x m h)

theorem clearRange_wf {lo hi : Nat} {m : Memory} (h : m.wf = true) : (clearRange lo hi m).wf = true := by
  refine forEach_mem_wf _ _ (fun _ _ hm => storeWord_wf hm) ?_
  simp only [Memory.wf, Bool.and_eq_true] at *
  exact ⟨SMap.wf_filter _ h.1, SMap.wf_filter _ h.2⟩

theorem powerLoss_wf {d : Device} {m : Memory} (h : m.wf = true) : (powerLoss d m).wf = true :=
  forEach_mem_wf _ _ (fun _ _ hm => clearRange_wf hm) h

theorem retainedMemory_wf {d : Device} {m : Memory} (h : m.wf = true) : (retainedMemory d m).wf = true := by
  unfold retainedMemory
  exact forEach_mem_wf _ _ (fun _ _ hm => clearRange_wf hm) (clearRange_wf (clearRange_wf h))

/-! ## Accesses -/

theorem writeAt_wf {who : Requester} {a : Nat} {bs : List Byte} {bad : List Bool} {s : DM} (h : s.2.wf = true) :
    (writeAt who a bs bad s).1.2.wf = true := by
  unfold writeAt
  dsimp only
  split
  · split
    · exact h
    · split <;> exact h
  · split
    · next t ht => exact writeMem_wf h ht
    · exact h

theorem rmwAt_wf {who : Requester} {a : Nat} {mask data : Word} {p : Bool} {s : DM} (h : s.2.wf = true) :
    (rmwAt who a mask data p s).1.2.wf = true := by
  unfold rmwAt
  dsimp only
  split
  · split
    · exact h
    · split <;> exact h
  · split
    · exact h
    · split
      · next t ht => exact writeMem_wf h ht
      · exact h

theorem registerWrite_wf {who : Requester} {a : Nat} {width : Width} {data : Word} {p : Bool} {s : DM} (h : s.2.wf = true) :
    (registerWrite who a width data p s).2.wf = true := by
  unfold registerWrite
  split
  · dsimp only
    split
    · exact h
    · split <;> exact h
  · exact writeAt_wf h

theorem scrubWord_wf {n : Nat} {s : DM} (h : s.2.wf = true) : (scrubWord n s).2.wf = true := by
  unfold scrubWord
  split
  · exact h
  · dsimp only
    split <;> (dsimp only; split <;> first | exact storeWord_wf h | exact h)

/-! ## Ethernet -/

theorem ringIn_wf {e : Nat} {fr : List Byte} {bad : List Bool} {st : Bool} {s : DM} (h : s.2.wf = true) :
    (ringIn e fr bad st s).2.wf = true := by
  unfold ringIn
  dsimp only
  split
  · exact h
  · split
    · exact h
    · exact writeMem_getD_wf (writeMem_getD_wf h)

theorem ite_rx_wf {c : Prop} [Decidable c] {a b : DM × Option RxUandi} (ha : a.1.2.wf = true) (hb : b.1.2.wf = true) :
    (if c then a else b).1.2.wf = true := by
  split
  · exact ha
  · exact hb

theorem udpReceive_wf {e : Nat} {fr : List Byte} {bad : List Bool} {o : Nat} {v6 : Bool} {src dst fines : Nat} {s : DM}
    (h : s.2.wf = true) : (udpReceive e fr bad o v6 src dst fines s).1.2.wf = true := by
  unfold udpReceive
  dsimp only
  refine ite_rx_wf h (ite_rx_wf ?_ (ite_rx_wf h (ite_rx_wf h h)))
  split
  · apply ringIn_wf
    exact h
  · exact ringIn_wf h

theorem ip4Receive_wf {e : Nat} {fr : List Byte} {bad : List Bool} {o fines : Nat} {s : DM} (h : s.2.wf = true) :
    (ip4Receive e fr bad o fines s).1.2.wf = true := by
  unfold ip4Receive
  dsimp only
  split
  · exact h
  · split
    · exact udpReceive_wf h
    · split <;> exact h
    · exact h

theorem ip6Receive_wf {e : Nat} {fr : List Byte} {bad : List Bool} {o fines : Nat} {s : DM} (h : s.2.wf = true) :
    (ip6Receive e fr bad o fines s).1.2.wf = true := by
  unfold ip6Receive
  dsimp only
  split
  · split
    · exact udpReceive_wf h
    · exact h
  · split
    · split <;> exact h
    · split <;> exact h
    · exact h
  · exact h

theorem etherReceive_wf {e : Nat} {fr : List Byte} {bad : List Bool} {o fines : Nat} {s : DM} (h : s.2.wf = true) :
    (etherReceive e fr bad o fines s).1.2.wf = true := by
  unfold etherReceive
  dsimp only
  split
  · split <;> exact ringIn_wf h
  · split
    · exact ringIn_wf h
    · split
      · split <;> exact h
      · split
        · exact ip4Receive_wf h
        · split
          · exact ip6Receive_wf h
          · exact h

theorem frameReceive_wf {e : Nat} {fr : List Byte} {ok : Bool} {fines : Nat} {line : RxLine} {s : DM} (h : s.2.wf = true) :
    (frameReceive e fr ok fines line s).1.2.wf = true := by
  unfold frameReceive
  split
  · exact h
  · dsimp only
    split
    · exact h
    · exact etherReceive_wf h

theorem rawTxSend_wf {e fines : Nat} {s : DM} (h : s.2.wf = true) : (rawTxSend e fines s).2.wf = true := by
  unfold rawTxSend
  dsimp only
  split
  · exact h
  · split
    · exact h
    · split <;> exact h

/-! ## Cores -/

theorem drainOne_wf {k : Nat} {page : Bool} {s : DM} (h : s.2.wf = true) : (drainOne k page s).2.wf = true := by
  unfold drainOne
  dsimp only
  split
  · exact h
  · split
    · exact h
    · split
      · exact writeAt_wf h
      · split <;> exact h

theorem drainPath_wf {k : Nat} {page : Bool} {n : Nat} {s : DM} (h : s.2.wf = true) : (drainPath k page n s).2.wf = true := by
  induction n generalizing s with
  | zero => exact h
  | succ n ih => exact ih (drainOne_wf h)

theorem makeRoom_wf {k n f : Nat} {s : DM} (h : s.2.wf = true) : (makeRoom k n f s).2.wf = true := by
  induction f generalizing s with
  | zero => exact h
  | succ f ih =>
    unfold makeRoom
    dsimp only
    split
    · exact h
    · split
      · exact h
      · exact ih (drainOne_wf h)

theorem foldl_wf {α β : Type} (xs : List α) (f : DM × β → α → DM × β)
    (hf : ∀ s x, s.1.2.wf = true → (f s x).1.2.wf = true) {s : DM × β} (h : s.1.2.wf = true) : (xs.foldl f s).1.2.wf = true := by
  induction xs generalizing s with
  | nil => exact h
  | cons x xs ih => exact ih (hf s x h)

theorem frameWord_wf {k x : Nat} {v : Word} {s : DM} (h : s.2.wf = true) : (frameWord k x v s).2.wf = true := by
  unfold frameWord
  refine foldl_wf _ _ ?_ h
  intro st p hs
  dsimp only
  split
  · exact hs
  · exact writeAt_wf hs

theorem enterHandler_wf {k : Nat} {r : EntryReq} {x : Desc} {sw : Bool} {pl sp : Nat} {s : DM} (h : s.2.wf = true) :
    (enterHandler k r x sw pl sp s).2.wf = true := by
  unfold enterHandler
  exact frameWord_wf (frameWord_wf (frameWord_wf (frameWord_wf h)))

/-- The memories of an outcome have the form. -/
def CoreOut.wf (o : CoreOut) : Prop :=
  match o with
  | .done t => t.2.wf = true
  | .enter _ t => t.2.wf = true
  | _ => True

theorem ite_wf {c : Prop} [Decidable c] {a b : CoreOut} (ha : a.wf) (hb : b.wf) : (if c then a else b).wf := by
  split
  · exact ha
  · exact hb

theorem enterRec_wf {k f : Nat} {r : EntryReq} {got : List RemoteData} {s : DM} (h : s.2.wf = true) :
    (enterRec k f r got s).wf := by
  induction f generalizing r got s with
  | zero => exact h
  | succ f ih =>
    unfold enterRec
    dsimp only
    split
    · trivial
    · split
      · exact h
      · exact ih h
    · exact ite_wf (ite_wf h (ite_wf h (ih (s := (_, s.2)) h))) (enterHandler_wf (s := (_, s.2)) h)

theorem runEntry_wf {k : Nat} {r : EntryReq} {got : List RemoteData} {s : DM} (h : s.2.wf = true) :
    (runEntry k r got s).1.wf ∧ (runEntry k r got s).2.2.wf = true := by
  have hd : (drainNow k false s).2.wf = true := drainPath_wf h
  unfold runEntry
  dsimp only
  split
  · exact ⟨enterRec_wf hd, hd⟩
  · exact ⟨trivial, hd⟩

theorem faultEntry_wf {k : Nat} {r : EntryReq} {s : DM} (h : s.2.wf = true) : (faultEntry k r s).wf := by
  unfold faultEntry
  dsimp only
  split <;> exact h

theorem waitStores_wf {k : Nat} {is : List KInst} {s : DM} (h : s.2.wf = true) : (waitStores k is s).1.2.wf = true := by
  unfold waitStores
  dsimp only
  have h1 : (if is.any (fun i => decide (i.op = 0x81)) then drainNow k true (drainNow k false s) else s).2.wf = true := by
    split
    · exact drainPath_wf (drainPath_wf h)
    · exact h
  revert h1
  generalize (if is.any (fun i => decide (i.op = 0x81)) then drainNow k true (drainNow k false s) else s) = s1
  intro h1
  cases partsDrain s1.1 k (readParts (coreOf s.1 k) is) with
  | none =>
    dsimp only
    split
    · exact h1
    · exact makeRoom_wf h1
  | some page =>
    dsimp only
    split
    · exact drainPath_wf h1
    · exact makeRoom_wf (drainPath_wf h1)

theorem retirePosition_wf {k : Nat} {is : List KInst} {e : KEff} {fr : List Byte} {s : DM} (h : s.2.wf = true) :
    (retirePosition k is e fr s).2.wf = true := h

theorem runPosition_wf {k : Nat} {is : List KInst} {got : List RemoteData} {s : DM} (h : s.2.wf = true) :
    (runPosition k is got s).1.wf ∧ (runPosition k is got s).2.2.wf = true := by
  unfold runPosition
  dsimp only
  generalize is.filter (fun i => !illegal (planCore k) i) = legal
  generalize (if legal.any contextSync then longsDone k s.1 else waitLongs k legal 4 s.1) = d0
  generalize firstFault d0 k (coreOf d0 k) is = f
  generalize (if f.isNone then noteWaits k is d0 else d0) = d1
  have hw : (waitStores k legal (d1, s.2)).1.2.wf = true := waitStores_wf (s := (_, s.2)) h
  revert hw
  generalize waitStores k legal (d1, s.2) = w
  intro hw
  split
  · split <;> exact ⟨hw, hw⟩
  · split
    · exact ⟨faultEntry_wf hw, hw⟩
    · split
      · exact ⟨trivial, hw⟩
      · split
        · exact ⟨trivial, hw⟩
        · exact ⟨faultEntry_wf hw, hw⟩
        · exact ⟨faultEntry_wf hw, hw⟩
        · split
          · exact ⟨faultEntry_wf hw, hw⟩
          · split <;> exact ⟨hw, hw⟩

theorem runJob_wf {k f : Nat} {w : CoreWait} {s : DM} (h : s.2.wf = true) : (runJob k f w s).2.wf = true := by
  induction f generalizing w s with
  | zero => exact h
  | succ f ih =>
    unfold runJob
    dsimp only
    have go : ∀ (r : CoreOut × DM), r.1.wf ∧ r.2.2.wf = true → (match r.1 with
        | .done t => (if w.isImprecise then t.1 else stepEnds k t.1, t.2)
        | .enter q t => runJob k f (.entry q []) t
        | .needStores => parkCore k w r.2
        | .needRead dest a n =>
          match (issueReq (.core k) (coreReq r.2.1 k) dest 0 1 a n 0 [] r.2.1).2 with
          | some _ => parkCore k w ((issueReq (.core k) (coreReq r.2.1 k) dest 0 1 a n 0 [] r.2.1).1, r.2.2)
          | none => runJob k f (addGot w (.err 2)) ((issueReq (.core k) (coreReq r.2.1 k) dest 0 1 a n 0 [] r.2.1).1, r.2.2)).2.wf = true := by
      rintro ⟨o, t⟩ hr
      cases o with
      | done t' => exact hr.1
      | enter q t' => exact ih hr.1
      | needStores => exact hr.2
      | needRead dest a n =>
        dsimp only
        split
        · exact hr.2
        · exact ih (s := (_, t.2)) hr.2
    cases w with
    | position is got => exact go _ (runPosition_wf h)
    | entry q got => exact go _ (runEntry_wf h)

theorem coreResume_wf {k : Nat} {s : DM} (h : s.2.wf = true) : (coreResume k s).2.wf = true := by
  unfold coreResume
  split
  · exact h
  · exact runJob_wf (s := (_, s.2)) h

theorem coresOn_wf {s : DM} (h : s.2.wf = true) : (coresOn s).2.wf = true := by
  unfold coresOn
  exact forEach_wf _ _ (fun _ _ hs => coreResume_wf hs) h

theorem coreAnswer_wf {k : Nat} {r : RemoteData} {s : DM} (h : s.2.wf = true) : (coreAnswer k r s).2.wf = true := by
  unfold coreAnswer
  exact coreResume_wf (s := (_, s.2)) h

theorem ite_dm_wf {c : Prop} [Decidable c] {a b : DM} (ha : a.2.wf = true) (hb : b.2.wf = true) : (if c then a else b).2.wf = true := by
  split
  · exact ha
  · exact hb

theorem issuePosition_wf {k : Nat} {is : List KInst} {s : DM} (h : s.2.wf = true) : (issuePosition k is s).2.wf = true := by
  unfold issuePosition
  dsimp only
  have q : ∀ (r : EntryReq) (d : Device), (match faultEntry k r (d, s.2) with
      | .enter r t => runJob k 40 (.entry r []) t
      | _ => s).2.wf = true := by
    intro r d
    have hf := faultEntry_wf (k := k) (r := r) (s := (d, s.2)) h
    revert hf
    cases faultEntry k r (d, s.2) with
    | enter r t => exact fun hf => runJob_wf hf
    | done t => exact fun _ => h
    | needStores => exact fun _ => h
    | needRead a b c => exact fun _ => h
  split
  · exact q _ _
  · exact q _ _
  · exact ite_dm_wf (q _ _) (ite_dm_wf h (runJob_wf (s := (_, s.2)) h))

theorem issue_wf {k : Nat} {i : KInst} {s : DM} (h : s.2.wf = true) : (issue k i s).2.wf = true := by
  unfold issue
  split
  · exact h
  · split
    · dsimp only
      split
      · exact issuePosition_wf (s := (_, s.2)) h
      · exact h
    · exact issuePosition_wf h

theorem takeImprecise_wf {k : Nat} {s : DM} (h : s.2.wf = true) : (takeImprecise k s).2.wf = true := by
  unfold takeImprecise
  split
  · exact h
  · dsimp only
    split
    · exact runJob_wf (s := (_, s.2)) h
    · exact h

theorem takeInterrupt_wf {k : Nat} {s : DM} (h : s.2.wf = true) : (takeInterrupt k s).2.wf = true := by
  unfold takeInterrupt
  split
  · exact h
  · dsimp only
    split
    · exact h
    · split
      · exact h
      · exact runJob_wf (s := (_, s.2)) h

/-! ## Images and sessions -/

theorem copySegments_wf {bs : List Byte} {gs : List Segment} {s : DM} (h : s.2.wf = true) : (copySegments bs gs s).1.2.wf = true := by
  induction gs generalizing s with
  | nil => exact h
  | cons g gs ih =>
    unfold copySegments
    dsimp only
    split
    · exact ih h
    · split
      · exact ih (writeAt_wf h)
      · exact writeAt_wf h

theorem takeImage_wf {n : Nat} {s : DM} (h : s.2.wf = true) : (takeImage n s).2.2.2.wf = true := by
  unfold takeImage
  dsimp only
  split
  · exact h
  · split
    · exact h
    · next bs _ _ =>
      have hc : (copySegments bs (imgSegments bs) ((stagedImage n s.2 s.1).2, s.2)).1.2.wf = true :=
        copySegments_wf (s := ((stagedImage n s.2 s.1).2, s.2)) h
      split
      · exact hc
      · exact hc

theorem stageBytes_wf {bs : List Byte} {s : DM} (h : s.2.wf = true) : (stageBytes bs s).2.wf = true := writeMem_getD_wf h

theorem flashCopy_wf {second : Bool} {copy : Option (List Byte)} {s : DM} (h : s.2.wf = true) : (flashCopy second copy s).2.2.wf = true := by
  unfold flashCopy
  dsimp only
  split
  · exact h
  · split
    · exact takeImage_wf (stageBytes_wf (s := (_, s.2)) h)
    · exact takeImage_wf (stageBytes_wf (s := (_, s.2)) h)

theorem bootFlash_wf {c1 c2 : Option (List Byte)} {s : DM} (h : s.2.wf = true) : (bootFlash c1 c2 s).2.wf = true := by
  unfold bootFlash
  dsimp only
  split
  · exact flashCopy_wf h
  · split
    · exact flashCopy_wf (flashCopy_wf h)
    · exact flashCopy_wf (flashCopy_wf h)

theorem retainedImage_wf {s : DM} (h : s.2.wf = true) : (retainedImage s).2.2.wf = true := by
  unfold retainedImage
  split
  · exact h
  · dsimp only
    obtain ⟨x, d⟩ := stagedImage 16 s.2 s.1
    cases x with
    | none => exact h
    | some bs =>
      dsimp only
      generalize 0x2000000 = k
      by_cases hi : imgTotal bs ≤ k ∧ stagingKept d (imgTotal bs) = true
      · rw [if_pos hi]
        exact takeImage_wf (n := imgTotal bs) (s := (d, s.2)) h
      · rw [if_neg hi]
        exact h

theorem bootAll_wf {x : BootRun} {s : DM} (h : s.2.wf = true) : (bootAll x s).2.wf = true := by
  unfold bootAll
  split
  · exact h
  · dsimp only
    have hr := @retainedImage_wf (bootFirst x s.1, s.2) h
    split
    · exact hr
    · split
      · exact bootFlash_wf hr
      · split
        · exact hr
        · exact hr

theorem verifyNeighbour_wf {s : DM} (h : s.2.wf = true) : (verifyNeighbour s).2.wf = true := by
  unfold verifyNeighbour
  split
  · exact h
  · dsimp only
    split
    · exact takeImage_wf (s := (_, s.2)) h
    · exact takeImage_wf (s := (_, s.2)) h

theorem stageChunk_wf {off total : Nat} {data : List Byte} {s : DM} (h : s.2.wf = true) : (stageChunk off total data s).2.wf = true := by
  unfold stageChunk
  dsimp only
  split
  · exact h
  · exact writeMem_getD_wf h

theorem accessHome_wf {s : Nat} {q : SessReq} {t : DM} (h : t.2.wf = true) : (accessHome s q t).2.wf = true := by
  unfold accessHome
  dsimp only
  split
  · exact h
  · split
    · split <;> exact h
    · split
      · split <;> exact rmwAt_wf h
      · split
        · exact h
        · exact writeAt_wf h

theorem performAccess_wf {s : Nat} {q : SessReq} {t : DM} (h : t.2.wf = true) : (performAccess s q t).2.wf = true := by
  unfold performAccess
  dsimp only
  split
  · exact h
  · split
    · exact accessHome_wf h
    · exact h

theorem performLoad_wf {s : Nat} {q : SessReq} {t : DM} (h : t.2.wf = true) : (performLoad s q t).2.wf = true := by
  unfold performLoad
  dsimp only
  split
  · exact h
  · split
    · exact h
    · split
      · exact h
      · split
        · exact h
        · split
          · exact stageChunk_wf h
          · exact stageChunk_wf h

theorem performReq_wf {s : Nat} {q : SessReq} {t : DM} (h : t.2.wf = true) : (performReq s q t).2.wf = true := by
  unfold performReq
  dsimp only
  split
  · exact h
  · split
    · exact h
    · split
      · exact h
      · split
        · exact h
        · split
          · exact h
          · split
            · exact h
            · split
              · exact performLoad_wf h
              · exact performAccess_wf h

theorem verifyHost_wf {t : DM} (h : t.2.wf = true) : (verifyHost t).2.wf = true := by
  unfold verifyHost
  split
  · exact h
  · dsimp only
    split
    · exact takeImage_wf (s := (_, t.2)) h
    · exact takeImage_wf (s := (_, t.2)) h

theorem sessionGo_wf {s n : Nat} {t : DM} (h : t.2.wf = true) : (sessionGo s n t).2.wf = true := by
  induction n generalizing t with
  | zero => exact h
  | succ n ih =>
    unfold sessionGo
    dsimp only
    split
    · exact h
    · split
      · exact ih (performReq_wf (t := (_, t.2)) h)
      · exact h

theorem sessionsOn_wf {t : DM} (h : t.2.wf = true) : (sessionsOn t).2.wf = true := by
  unfold sessionsOn
  refine forEach_wf _ _ (fun s u hu => ?_) h
  exact sessionGo_wf (t := (abortsAnswered s u.1, u.2)) hu

theorem receiveMsg_wf {e : Nat} {peer : Peer} {m : Msg} {t : DM} (h : t.2.wf = true) : (receiveMsg e peer m t).2.wf = true := by
  unfold receiveMsg
  dsimp only
  split
  · exact h
  · split
    · exact h
    · split
      · exact h
      · split
        · exact sessionGo_wf (t := (_, t.2)) h
        · exact sessionGo_wf (t := (_, t.2)) h

theorem receivePayload_wf {e : Nat} {x : RxUandi} {t : DM} (h : t.2.wf = true) : (receivePayload e x t).2.wf = true := by
  unfold receivePayload
  split
  · exact h
  · exact receiveMsg_wf h

theorem commandMsg_wf {x : UandiHead} {op : Nat} {body : List Byte} {t : DM} (h : t.2.wf = true) : (commandMsg x op body t).2.wf = true := by
  unfold commandMsg
  split
  · exact receiveMsg_wf h
  · exact h

theorem frameArrives_wf {e : Nat} {bs : List Byte} {ok : Bool} {fines : Nat} {line : RxLine} {t : DM} (h : t.2.wf = true) :
    (frameArrives e bs ok fines line t).2.wf = true := by
  unfold frameArrives
  split
  · exact h
  · dsimp only
    split
    · exact receivePayload_wf (frameReceive_wf h)
    · exact frameReceive_wf h

theorem creditArrives_wf {e : Nat} {x : UandiHead} {st : Byte} {lim : Word} {t : DM} (h : t.2.wf = true) :
    (creditArrives e x st lim t).2.wf = true := by
  unfold creditArrives
  split
  · exact receiveMsg_wf h
  · exact h

/-! ## The fabric -/

theorem performHead_wf {f : Flit} {ds : List Flit} {s : DM} (h : s.2.wf = true) : (performHead f ds s).2.wf = true := by
  unfold performHead
  dsimp only
  split
  · exact h
  · split
    · exact h
    · exact writeAt_wf h
    · exact rmwAt_wf h
    · split
      · split <;> exact h
      · exact h
    · exact h

theorem maintAccess_wf {p : List Byte} {s : DM} (h : s.2.wf = true) : (maintAccess p s).1.2.wf = true := by
  unfold maintAccess
  dsimp only
  split
  · split <;> exact h
  · exact writeAt_wf h

theorem maintPerform_wf {p : List Byte} {s : DM} (h : s.2.wf = true) : (maintPerform p s).2.wf = true := maintAccess_wf h

theorem maintArrives_wf {l : Nat} {f : Flit} {s : DM} (h : s.2.wf = true) : (maintArrives l f s).2.wf = true := by
  unfold maintArrives
  dsimp only
  generalize (if mtOp f.payload ≤ 2 then (pathOf (mtRpath f.payload)).set (mtDone f.payload) l else pathOf (mtRpath f.payload)) = back
  refine ite_dm_wf h (ite_dm_wf h (ite_dm_wf (ite_dm_wf h ?_) h))
  apply maintPerform_wf
  exact h

theorem maintReceive_wf {l : Nat} {f : Flit} {s : DM} (h : s.2.wf = true) : (maintReceive l f s).2.wf = true := by
  unfold maintReceive
  split
  · exact h
  · dsimp only
    split
    · exact maintArrives_wf (s := (_, s.2)) h
    · exact h

theorem reqArrives_wf {f : Flit} {ds : List Flit} {s : DM} (h : s.2.wf = true) : (reqArrives f ds s).2.wf = true := by
  unfold reqArrives
  dsimp only
  split
  · exact h
  · exact performHead_wf h

theorem laterOn_wf {n : Nat} {s : DM} (h : s.2.wf = true) : (laterOn n s).2.wf = true := by
  induction n generalizing s with
  | zero => exact h
  | succ n ih =>
    unfold laterOn
    split
    · exact h
    · dsimp only
      refine ih ?_
      split
      · exact maintPerform_wf (s := (_, s.2)) h
      · exact performHead_wf (s := (_, s.2)) h

theorem outEnds_wf {o : OutReq} {st ex : Nat} {r : ReadOut} {s : DM} (h : s.2.wf = true) : (outEnds o st ex r s).2.wf = true := by
  unfold outEnds
  split
  · exact coreAnswer_wf h
  · exact h
  · exact h
  · exact h

theorem respArrives_wf {f : Flit} {ds : List Flit} {s : DM} (h : s.2.wf = true) : (respArrives f ds s).2.wf = true := by
  unfold respArrives
  dsimp only
  split
  · exact h
  · exact outEnds_wf (s := (_, s.2)) h

theorem loopTake_wf {f : Flit} {ds : List Flit} {s : DM} (h : s.2.wf = true) : (loopTake f ds s).2.wf = true := by
  unfold loopTake
  split
  · split
    · exact h
    · exact outEnds_wf (s := (_, s.2)) h
  · split
    · exact h
    · split
      · exact reqArrives_wf h
      · exact h

theorem loopOn_wf {s : DM} (h : s.2.wf = true) : (loopOn s).2.wf = true := by
  unfold loopOn
  refine forEach_wf _ _ ?_ (s := (_, s.2)) h
  intro r t ht
  split
  · exact ht
  · exact loopTake_wf ht

theorem reqTimeout_wf {tag : Nat} {s : DM} (h : s.2.wf = true) : (reqTimeout tag s).2.wf = true := by
  unfold reqTimeout
  split
  · exact h
  · exact outEnds_wf (s := (_, s.2)) h

theorem messageTake_wf {typ l : Nat} {fs : List Flit} {s : DM} (h : s.2.wf = true) : (messageTake typ l fs s).2.wf = true := by
  unfold messageTake
  split
  · exact h
  · split
    · dsimp only
      split
      · exact reqArrives_wf (s := (_, s.2)) h
      · exact respArrives_wf (s := (_, s.2)) h
    · exact h

theorem messageArrives_wf {typ l : Nat} {fs : List Flit} {s : DM} (h : s.2.wf = true) : (messageArrives typ l fs s).2.wf = true := by
  unfold messageArrives
  dsimp only
  split
  · exact h
  · split
    · exact h
    · split
      · exact messageTake_wf (s := (_, s.2)) h
      · exact h

/-! ## What follows a command -/

theorem settleOnce_wf {s : DM} (h : s.2.wf = true) : (settleOnce s).2.wf = true := by
  unfold settleOnce
  dsimp only
  have h1 : (laterOn 64 (loopOn (scanAll s.2 (copyDue s.2 s.1), s.2))).2.wf = true := by
    apply laterOn_wf
    apply loopOn_wf
    exact h
  revert h1
  generalize laterOn 64 (loopOn (scanAll s.2 (copyDue s.2 s.1), s.2)) = t
  intro h1
  apply coresOn_wf
  apply sessionsOn_wf
  apply verifyNeighbour_wf
  exact h1

theorem settleAll_wf {s : DM} (h : s.2.wf = true) : (settleAll s).2.wf = true := settleOnce_wf (settleOnce_wf (settleOnce_wf h))

theorem domainChange_wf {k : Nat} {s : DM} (h : s.2.wf = true) : (domainChange k s).2.wf = true := powerLoss_wf h

theorem modeArrives_wf {s : DM} (h : s.2.wf = true) : (modeArrives s).2.wf = true := by
  unfold modeArrives
  dsimp only
  split
  · exact retainedMemory_wf h
  · exact h

/-! ## The shapes of meanings -/

/-- What an outcome leaves of the memories is in canonical form. -/
def MemWf (o : Host.Outcome State Fault Refusal) : Prop := ∀ t, o = .next t → t.mem.wf = true

theorem onDev_memWf (f : Device → Device) {s : State} (h : s.mem.wf = true) : MemWf (onDev f s) := by
  intro t ht
  cases ht
  exact h

theorem onDevR_memWf (f : Memory → Device → Device) {s : State} (h : s.mem.wf = true) : MemWf (onDevR f s) := by
  intro t ht
  cases ht
  exact h

theorem onBoth_memWf {f : DM → DM} {s : State} (h : s.mem.wf = true) (hf : ∀ t : DM, t.2.wf = true → (f t).2.wf = true) :
    MemWf (onBoth f s) := by
  intro t ht
  cases ht
  exact hf _ h

theorem settled_memWf {f : DM → DM} {s : State} (h : s.mem.wf = true) (hf : ∀ t : DM, t.2.wf = true → (f t).2.wf = true) :
    MemWf (settled f s) := by
  unfold settled
  apply onBoth_memWf h
  intro t ht
  dsimp only
  exact settleAll_wf (hf t ht)

theorem settledD_memWf (f : Device → Device) {s : State} (h : s.mem.wf = true) : MemWf (settledD f s) := by
  unfold settledD
  exact settled_memWf h (fun _ ht => ht)

end Sys2Proof.Machine
end

