-- ==== Sys2Proof/WellFormed.lean ====
section
/-! DEFINITION. Well-formed commands: what an operand must satisfy beyond its type, as the spec gives the thing it stands for. A
meaning does not ask for it: what breaks these rules could not reach the part. -/

namespace Sys2Proof

/-- The fields of a flit fit their bits, and its payload its 52 bytes (R518). -/
def Flit.wf (f : Flit) : Bool :=
  decide (f.typ < 16) && decide (f.vc < 4) && decide (f.dest < 4096) && decide (f.src < 4096) && decide (f.lseq < 4096) &&
    decide (f.cret < 256) && decide (f.crc < 2 ^ 32) && decide (f.pmap < 64) && decide (f.hops < 32) && decide (f.payload.length ≤ 52)

/-- A peer's address fits its IP version (R468, R469). -/
def Peer.wf (p : Peer) : Bool :=
  decide (p.mac < 2 ^ 48) && decide (p.ip < if p.v6 then 2 ^ 128 else 2 ^ 32) && decide (p.port < 2 ^ 16)

/-- The flash delivers at most one image slot of 32 MiB for each copy (R594); the links of a board join its devices (R549). -/
def BootRun.wf (x : BootRun) : Bool :=
  let fits := fun (c : Option (List Byte)) => match c with | some bs => decide (bs.length ≤ 2 ^ 25) | none => true
  let joins := fun (l : Option BoardLink) => match l with | some k => decide (k.peer < x.board.length) | none => true
  fits x.copy1 && fits x.copy2 && x.board.all (fun b => decide (b.links.length ≤ 8) && b.links.all joins)

/-- An immediate is one that its encoding holds (R360, R363, R368): `bundle` bits in a bundle; in the compact encoding 16, or 32 with
`wide`; sign-extended. -/
def immFits (k : Fin 36) (bundle : Nat) (imm : Word) (e : Enc) : Bool :=
  let n := if 32 ≤ k.val then bundle else if e.wide then 32 else 16
  decide ((imm.setWidth n).signExtend 32 = imm)

/-- A command whose operands can stand for what they name. -/
def Instr.wf (i : Instr) : Bool :=
  match i with
  | .initDone _ cals => decide (cals.length = 13)
  | .syncWordReceive _ _ edge => decide (edge < 2 ^ 32)
  | .tsyncRequest _ n _ _ => decide (n < 2 ^ 32)
  | .tsyncResponse _ n _ _ _ => decide (n < 2 ^ 32)
  | .conversionEnd _ outs => decide (outs ≠ [])
  | .frameReceive _ bytes _ line => decide (14 ≤ bytes.length) && decide (line.fines < 2 ^ 70) && line.damage.all (fun g => decide (g.2 < 2 ^ 88))
  | .rawtxDone _ fines => decide (fines < 2 ^ 70)
  | .reqMessage _ fs => decide (fs ≠ []) && fs.all Flit.wf
  | .respMessage _ fs => decide (fs ≠ []) && fs.all Flit.wf
  | .eventFlit _ f => f.wf
  | .fenceFlit _ f => f.wf
  | .fenceAck _ f => f.wf
  | .maintFlit _ f => f.wf
  | .maintResponse _ f => f.wf
  | .sessOpen h => h.peer.wf
  | .close h => h.peer.wf
  | .read h _ => h.peer.wf
  | .write h _ _ => h.peer.wf
  | .readBlock h _ _ => h.peer.wf
  | .writeBlock h _ _ _ => h.peer.wf
  | .rmw h _ _ _ => h.peer.wf
  | .fence h => h.peer.wf
  | .abortFunction h _ => h.peer.wf
  | .eventSubscribe h _ _ _ => h.peer.wf
  | .credit _ h _ _ => h.peer.wf
  | .loadImage h _ _ _ _ => h.peer.wf
  | .reset x => x.wf
  | .movi k _ imm e => immFits k 16 imm e
  | .movhi k _ imm e => immFits k 16 imm e
  | .addiI32 k _ _ imm e => immFits k 10 imm e
  | .andi k _ _ imm e => immFits k 10 imm e
  | .ori k _ _ imm e => immFits k 10 imm e
  | .xori k _ _ imm e => immFits k 10 imm e
  | .shli k _ _ imm e => immFits k 10 imm e
  | .shri k _ _ imm e => immFits k 10 imm e
  | .srai k _ _ imm e => immFits k 10 imm e
  | .seqi k _ _ imm e => immFits k 10 imm e
  | .snei k _ _ imm e => immFits k 10 imm e
  | .slti k _ _ imm e => immFits k 10 imm e
  | .sltui k _ _ imm e => immFits k 10 imm e
  | .ldB k _ _ imm e => immFits k 10 imm e
  | .ldBu k _ _ imm e => immFits k 10 imm e
  | .ldH k _ _ imm e => immFits k 10 imm e
  | .ldHu k _ _ imm e => immFits k 10 imm e
  | .ldW k _ _ imm e => immFits k 10 imm e
  | .stB k _ _ imm e => immFits k 10 imm e
  | .stH k _ _ imm e => immFits k 10 imm e
  | .stW k _ _ imm e => immFits k 10 imm e
  | .ldD k _ _ imm e => immFits k 10 imm e
  | .stD k _ _ imm e => immFits k 10 imm e
  | .b k imm e => immFits k 20 imm e
  | .call k imm e => immFits k 20 imm e
  | .bz k _ imm e => immFits k 10 imm e
  | .bnz k _ imm e => immFits k 10 imm e
  | .cbeq k _ _ imm e => immFits k 10 imm e
  | .cbne k _ _ imm e => immFits k 10 imm e
  | .cblt k _ _ imm e => immFits k 10 imm e
  | .cbge k _ _ imm e => immFits k 10 imm e
  | .cbltu k _ _ imm e => immFits k 10 imm e
  | .cbgeu k _ _ imm e => immFits k 10 imm e
  | .loop k _ imm e => immFits k 10 imm e
  | _ => true

end Sys2Proof
end

