-- ==== Sys2Proof/Tests/Slice0.lean ====
section
/-! SUPPORT. Tests of single commands on small states, and witnesses of the statements' hypotheses: each theorem `wit_…` shows values that meet
all hypotheses of a clause of the statement it names, and what the command makes of them. Expected values come from the rules named. -/

open Sys2Proof Sys2Proof.Machine

namespace Sys2Proof.Tests

-- One theorem at a time: many threads at once need more memory than a build may take.
set_option Elab.async false

/-- The device after reset with registers written. -/
def dv (ws : List (Nat × Nat × Word)) : Device := ws.foldl (fun d x => wr x.1 x.2.1 x.2.2 d) State.reset.dev

/-- A host's word, through session 0. -/
def host (v : Word) : Wr := { who := { devid := 0#12, kind := .session, index := 0 }, data := v, poison := false }

/-- The device with a running time line, in a mode, at a clock. -/
def at' (x : Mode) (n : Nat) (d : Device) : Device :=
  { d with time := { d.time with everLocked := true, now := n, tl := BitVec.ofNat 64 n }, sys := { d.sys with mode := x } }

/-- The device that a command leaves, with empty memories before it. -/
def run (i : Instr) (d : Device) : Device :=
  match exec i ⟨d, {}, [], []⟩ with
  | .next s => s.dev
  | _ => d

/-- What two devices share outside registers, answers and the arbiter's requests. -/
def rest (d : Device) : Device := { d with regs := [], resp := .none, eva := {} }

/-- The device, and the memory, of an outcome. -/
def devOf (o : Host.Outcome State Fault Refusal) : Device := match o with | .next s => s.dev | _ => State.reset.dev
def memOf (o : Host.Outcome State Fault Refusal) : Memory := match o with | .next s => s.mem | _ => {}

/-! ## Steps -/

/-- `Obligations.IdleStep`, both cases: at reset the reference locks first; once that has run at this tick, time passes. -/
theorem wit_idle : nextOwn State.reset = some .refLock ∧
    nextOwn { State.reset with ran := dueNow State.reset.dev } = none ∧ State.reset.pending = [] := by decide +kernel

/-- `Obligations.MemoryFormKept`: a scrubber's repair and a step on an empty queue start from canonical memory. -/
theorem wit_memory_form : State.reset.mem.wf = true ∧ stepsOn State.reset = true := by decide +kernel

/-! ## Pages -/

/-- `Obligations.RefusedWrite`: the four codes of R31 for an aligned word, in their order. -/
theorem wit_refused : calm (dv [(0, hLOCK, 1)]) = true ∧ pageMapped (dv [(0, hLOCK, 1)]) 0 = true ∧
    holds (dv [(0, hLOCK, 1)]) 0 Reg.TB.REF_CTL = false ∧
    refusal (dv [(0, hLOCK, 1)]) 0 Reg.TB.REF_CTL true (host 1) = some 0x01 ∧
    refusal (dv [(0, hLOCK, 1)]) 0 Reg.TB.REF_CTL true { host 1 with poison := true } = some 0x04 ∧
    refusal (dv [(0, hOWNER, 0xFFF00000#32)]) 0 Reg.TB.REF_CTL true (host 1) = some 0x02 ∧
    refusal (dv [(0, hPAGE_STAT, 0x10#32)]) 0 Reg.TB.REF_CTL true (host 1) = some 0x05 ∧
    (run (.relock (host 1)) (dv [(0, hLOCK, 1)])).resp = .error (.refused 1) := by decide +kernel

/-- `Obligations.HeaderWrites`: the key locks (R35), an owner is kept without its low bits (R37), a forced cause sets IRQ_RAW (R40). -/
theorem wit_header : calm (dv []) = true ∧ accepts (dv []) (pgTmr 0) hLOCK (host 0x4C4B) = true ∧
    rd (run (.lockWrite (.tmr 0) (host 0x4C4B)) (dv [])) (pgTmr 0) hLOCK = 1#32 ∧
    rd (run (.lockWrite (.tmr 0) (host 0x4C4C)) (dv [])) (pgTmr 0) hLOCK = 0#32 ∧
    accepts (dv []) (pgTmr 0) hOWNER (host 0xFFF81234) = true ∧
    rd (run (.ownerWrite (.tmr 0) (host 0xFFF81234)) (dv [])) (pgTmr 0) hOWNER = 0xFFF81000#32 ∧
    rd (run (.ownerWrite (.tmr 0) (host 0xFFF01234)) (dv [])) (pgTmr 0) hOWNER = 0#32 ∧
    accepts (dv [(pgTmr 0, hIRQ_EN, 1)]) (pgTmr 0) hIRQ_FORCE (host 1) = true ∧
    irqPend (run (.irqForce (.tmr 0) (host 1)) (dv [(pgTmr 0, hIRQ_EN, 1)])) (pgTmr 0) = 1#32 ∧
    (run (.irqForce (.tmr 0) (host 1)) (dv [(pgTmr 0, hIRQ_EN, 1)])).eva.pending.map (fun e => (e.source, e.code)) = [(128, 0x1000)] := by
  decide +kernel

/-- `Obligations.RegisterAccess`: a read of ERR_CODE, a stored word, a decode error, and bad accesses of a session and a core. -/
theorem wit_access : calm (dv []) = true ∧ pageMapped (dv [(0, hERR_CODE, 3)]) 0 = true ∧
    (run (.errCodeRead .tb (host 0).who) (dv [(0, hERR_CODE, 3)])).resp = .data 3#32 false ∧
    rd (run (.errCodeRead .tb (host 0).who) (dv [(0, hERR_CODE, 3)])) 0 hERR_CODE = 0#32 ∧
    pageAt (pageBase + 1984 * 4096 + 0x44) = some (pgXspi, 0x44) ∧ accepts (dv []) pgXspi 0x44 (host 1) = true ∧
    (rowAt 31 0x44).isSome = true ∧ (run (.registerWrite (host 0).who (BitVec.ofNat 36 (pageBase + 1984 * 4096 + 0x44)) .w4 1 false) (dv [])).resp = .done ∧
    pageAt (pageBase + 2048 * 4096) = some (2048, 0) ∧ pageMapped (dv []) 2048 = false ∧
    (run (.registerWrite (host 0).who (BitVec.ofNat 36 (pageBase + 2048 * 4096)) .w4 1 false) (dv [])).resp = .error .decode ∧
    pageAt (pageBase + 0x42) = some (0, 0x42) ∧ holds (dv []) 0 0x42 = false ∧
    (run (.registerWrite (host 0).who (BitVec.ofNat 36 (pageBase + 0x42)) .w4 1 false) (dv [])).resp = .error (.refused 3) ∧
    (run (.registerWrite { (host 0).who with kind := .core } (BitVec.ofNat 36 (pageBase + 0x42)) .w4 1 false) (dv [])) = dv [] := by decide +kernel
/-- An abort is under way on TMR0. -/
def aborted : Device := run (.abort (.tmr 0) (host 0)) (dv [])

/-- `Obligations.SecondAbort` (R44). -/
theorem wit_second_abort : calm aborted = true ∧ pageMapped aborted (pgTmr 0) = true ∧ aborting aborted (pgTmr 0) = true ∧
    (run (.abort (.tmr 0) (host 0)) aborted).aborts = aborted.aborts := by decide +kernel

/-- `Obligations.RefusedWrite`, code 0x05 (R31): the page is unusable, unlocked and free, and the target is a block register. -/
theorem wit_refused_unusable :
    (let d := dv [(0, hPAGE_STAT, 0x10#32)]
     calm d = true ∧ locked d 0 = false ∧ rd d 0 hOWNER = 0#32 ∧ unusable d 0 = true ∧ 0x040 ≤ Reg.TB.REF_CTL ∧
      (run (.relock (host 1)) d).resp = .error (.refused 5) ∧ rdF (run (.relock (host 1)) d) 0 hERR_CODE 0 8 = 5) ∧
    (let d := dv [(0, hERR_CODE, 1), (0, hOWNER, 0xFFF00000#32)]
     rdB (run (.relock (host 1)) d) 0 hERR_CODE 31 = true ∧ rdF (run (.relock (host 1)) d) 0 hERR_CODE 0 8 = 1) := by decide +kernel

/-- `Obligations.SecondAbort`, with SOFT_RST in the word (R39). -/
theorem wit_second_soft :
    (let w := host 2
     let e := softRstStart (pgTmr 0) { aborted with held := aborted.held ++ [{ page := pgTmr 0, off := hPAGE_CTL, aligned := true, w := withOnes w 4#32 }], resp := .none }
     bit w.data 1 = true ∧ locked aborted (pgTmr 0) = false ∧ ownerOk aborted (pgTmr 0) w.who = true ∧ claimBars aborted (pgTmr 0) w = false ∧
      calm e = true ∧ rdB (run (.abort (.tmr 0) w) aborted) (pgTmr 0) hPAGE_CTL 1 = true ∧ classOf (pgTmr 0) ≠ 21) := by decide +kernel

/-- `Obligations.RegisterAccess`: a stored word of a link's page (class 24) and of MEMERR (class 16); only writable bits are kept. -/
theorem wit_access_block :
    (let a := pageBase + pgLink 2 * 4096 + Reg.LINK.FAIL_TO
     let d := run (.registerWrite (host 0).who (BitVec.ofNat 36 a) .w4 0x12345 false) (dv [])
     pageAt a = some (pgLink 2, Reg.LINK.FAIL_TO) ∧ classOf (pgLink 2) = 24 ∧ (rowAt 24 Reg.LINK.FAIL_TO).isSome = true ∧
      accepts (dv []) (pgLink 2) Reg.LINK.FAIL_TO (host 0x12345) = true ∧ d.resp = .done ∧ rd d (pgLink 2) Reg.LINK.FAIL_TO = 0x2345#32) ∧
    (let d := run (.registerWrite (host 0).who (BitVec.ofNat 36 (pageBase + pgMemerr * 4096 + 0x5C)) .w4 9 false) (dv [])
     pageAt (pageBase + pgMemerr * 4096 + 0x5C) = some (pgMemerr, 0x5C) ∧ classOf pgMemerr = 16 ∧ (rowAt 16 0x5C).isSome = true ∧
      accepts (dv []) pgMemerr 0x5C (host 9) = true ∧ d.resp = .done ∧ rd d pgMemerr 0x5C = 1#32) := by decide +kernel

/-- `Obligations.PageControl`: EN of STREAM, a reset and an abort of idle pages (R38, R39, R41). -/
theorem wit_page_control : calm (dv []) = true ∧ aborting (dv []) pgStream = false ∧ accepts (dv []) pgStream hPAGE_CTL (host 1) = true ∧
    ownerOk (dv []) pgStream (host 1).who = true ∧ classOf pgStream = 22 ∧
    enabled (run (.pageEnable .stream (host 1)) (dv [])) pgStream = true ∧ pageBusy (dv []) pgXspi = false ∧ enFixed (classOf pgXspi) = true ∧
    rdB (run (.softRst .xspi (host 0)) (dv [])) pgXspi hPAGE_CTL 1 = true ∧
    aborting (run (.abort .xspi (host 0)) (dv [])) pgXspi = true := by decide +kernel

/-- `Obligations.PageControl`, EN of a page that time-domain logic reads (R15, log 147): entered for the second tick boundary, it reads back
at once. -/
theorem wit_page_enable_time :
    timeEnable (pgTmr 0) = true ∧ soonOf (dv []) (pgTmr 0) hPAGE_CTL = [] ∧ rdB (dv []) (pgTmr 0) hPAGE_CTL 0 ≠ bit (host 1).data 0 ∧
    accepts (dv []) (pgTmr 0) hPAGE_CTL (host 1) = true ∧ (run (.pageEnable (.tmr 0) (host 1)) (dv [])).soon.map SoonWrite.due = [2] ∧
    enabled (run (.pageEnable (.tmr 0) (host 1)) (dv [])) (pgTmr 0) = false ∧
    enabledSoon (run (.pageEnable (.tmr 0) (host 1)) (dv [])) (pgTmr 0) = true := by decide +kernel

/-- `Obligations.PageControl`, the other pages: EN of PFE, MODG, BE, OLU, SCRUB, ETH, UANDI and FIREFLY (R38), and a reset that starts while
the page is busy (R39, R345). -/
theorem wit_page_enable_rest :
    ([Page.pfe 3, .modg 2, .be 9, .olu 4, .scrub 1, .eth 1, .uandi, .firefly 2].all (fun p =>
      !enFixed (classOf (pageNum p)) && !timeEnable (pageNum p) && accepts (dv []) (pageNum p) hPAGE_CTL (host 1) &&
      calm (writeEnable (pageNum p) true { dv [] with resp := .done }) && decide ((run (.pageEnable p (host 1)) (dv [])).legs.leg = (dv []).legs.leg) &&
      enabled (run (.pageEnable p (host 1)) (dv [])) (pageNum p))) = true ∧
    (let d := wr (pgStream) hPAGE_CTL 1 (dv [])
     calm (softRstStart pgUandi { d with resp := .done }) = true ∧ accepts d pgUandi hPAGE_CTL (host 3) = true ∧
      rdB (run (.softRst .uandi (host 0)) d) pgUandi hPAGE_CTL 1 = true) := by decide +kernel

/-- `Obligations.AbortAndResetEnds`: an abort that found nothing ends with outcome 0; a forced one with 3 (R42, R46); a reset (R39). -/
theorem wit_abort_ends : calm aborted = true ∧ aborted.held = [] ∧ (aborted.aborts.find? (pgTmr 0)).isSome = true ∧
    cannotQuiesce aborted (pgTmr 0) = false ∧ rdF (run (.abortDone (.tmr 0)) aborted) (pgTmr 0) hPAGE_STAT 1 3 = 1 ∧
    rdB (dv [(pgXspi, hPAGE_CTL, 2)]) pgXspi hPAGE_CTL 1 = true ∧
    rd (run (.softRstComplete .xspi) (dv [(pgXspi, hPAGE_CTL, 2), (pgXspi, 0x44, 7)])) pgXspi 0x44 = 0#32 := by decide +kernel

/-- `Obligations.AbortAndResetEnds`, a reset of any page (R39): of TMR0, whose lock, enables and interrupt enables stay. -/
theorem wit_reset_ends :
    (let d := dv [(pgTmr 0, hPAGE_CTL, 3), (pgTmr 0, hIRQ_RAW, 1), (pgTmr 0, hIRQ_EN, 1), (pgTmr 0, hERR_CODE, 4), (pgTmr 0, hLOCK, 1), (pgTmr 0, Reg.TMR.TOP, 9)]
     let e := run (.softRstComplete (.tmr 0)) d
     d.held = [] ∧ softRstReady d (pgTmr 0) = true ∧ calm (softRstDone (pgTmr 0) d) = true ∧ (softRstDone (pgTmr 0) d).legs.leg = d.legs.leg ∧
      rdB e (pgTmr 0) hPAGE_CTL 1 = false ∧ rdB e (pgTmr 0) hPAGE_CTL 0 = true ∧ rd e (pgTmr 0) hIRQ_RAW = 0#32 ∧
      rd e (pgTmr 0) hIRQ_EN = 1#32 ∧ rd e (pgTmr 0) hERR_CODE = 4#32 ∧ rd e (pgTmr 0) hLOCK = 1#32 ∧ rd e (pgTmr 0) Reg.TMR.TOP = 0xFFFFFFFF#32) := by
  decide +kernel

/-- A check-value unit whose read of another device is outstanding, 5120 ticks after its abort began. -/
def forcedCvu : Device :=
  let d := dv [(pgCvu 0, hPAGE_CTL, 5)]
  { d with
    cvuBusy := [0], aborts := [(pgCvu 0, { idle := false, cut := false })], time := { d.time with now := 5120 }
    fab := { d.fab with out := [{ tag := 1, dest := 2, op := 0, addr := 0, len := 8, sentAt := 0, src := .cvu 0 }] } }

/-- `Obligations.AbortAndResetEnds`, the forced abort: outcome 3 with UNUSABLE (R46). -/
theorem wit_forced : calm forcedCvu = true ∧ forcedCvu.held = [] ∧ abortOver forcedCvu (pgCvu 0) = true ∧ domainOn forcedCvu (pgCvu 0) = true ∧
    rdF (run (.forcedAbort (.cvu 0)) forcedCvu) (pgCvu 0) hPAGE_STAT 1 4 = 15 ∧
    enabled (run (.forcedAbort (.cvu 0)) forcedCvu) (pgCvu 0) = false := by decide +kernel

/-! ## The time line -/

/-- `Obligations.ReferenceCommands`: lock, loss, relock (R49 to R51). -/
theorem wit_reference : asleep (dv []) = false ∧ (dv []).time.everLocked = false ∧ (dv []).time.refinOk = true ∧
    rdB (run .refLock (dv [])) pgTb Reg.TB.REF_STAT 0 = true ∧
    (let d := at' .configure 5 (dv [(pgTb, Reg.TB.REF_CTL, 0)]); (List.range 8).all (fun z => !zoneSourced { d with time := { d.time with refinOk := false } } z) = true ∧
      domainOn d pgTb = true ∧ rdB (run .refLoss d) pgTb hIRQ_RAW 0 = true) ∧
    (let d := dv [(pgTb, Reg.TB.REF_STAT, 2)]; calm d = true ∧ accepts d pgTb Reg.TB.REF_CTL (host 1) = true ∧
      (List.range 8).all (fun z => !zoneSourced d z) = true ∧ rdB (run (.relock (host 1)) d) pgTb Reg.TB.REF_CTL 0 = true) ∧
    (let d := run (.relock (host 1)) (dv [(pgTb, Reg.TB.REF_STAT, 2)])
     rdB d pgTb Reg.TB.REF_STAT 1 = true ∧ d.time.relock = true ∧ d.time.refinOk = true ∧ asleep d = false ∧
      rd (run .relockDone d) pgTb Reg.TB.REF_STAT = 1#32) := by decide +kernel

/-- `Obligations.TimeLineEvents` (R56, R57, R60, R61): midnight, 4 and 5 fines, an armed compare. -/
theorem wit_time_line :
    (run .midnight { at' .run 0 (dv []) with time := { (at' .run 0 (dv [])).time with midnight := true } }).eva.pending.map
      (fun e => (e.source, e.code, e.stamp)) = [(0, 4, 0)] ∧
    rdB (run (.dlCalibration 3 5) (dv [])) pgTb Reg.TB.DL_OK 3 = false ∧ domainOn (dv []) (pgLg 3) = true ∧
    (run (.dlCalibration 3 2) (dv [])).time.dlGood = 8#32 ∧
    accepts (dv []) pgTb (Reg.TB.TLCMP_HI 1) (host 0) = true ∧
    (run (.tlcmpArm 1 (host 0)) (dv [])).soon.map SoonWrite.due = [2] ∧
    (let d := at' .run 700 (usable (dv [(pgTb, Reg.TB.TLCMP_LO 1, 700), (pgTb, Reg.TB.TLCMP_CTL, 2)]) pgTb (Reg.TB.TLCMP_HI 1) (host 0))
     tlRuns d = true ∧ calm d = true ∧ d.time.cmpArmed = 2#8 ∧ d.time.cmpVal.find? 1 = some 700 ∧ gsyncKind d ≠ 3 ∧
      rdB (run (.tlcmpFire 1) d) pgTb Reg.TB.TLCMP_FIRED 1 = true ∧ (run (.tlcmpFire 1) d).time.cmpArmed = 0#8) := by decide +kernel

/-- A device that is not ROOT. -/
def leaf (d : Device) : Device := { d with sys := { d.sys with straps := { d.sys.straps with root := false } } }
/-- Link 2 is up. -/
def up2 (d : Device) : Device := wr (pgLink 2) Reg.LINK.STAT 2#32 d

/-- `Obligations.SyncCommands`: SYNC words (R63), exchanges (R65, R539), REACQ (R69), PTP commits (R74). -/
theorem wit_sync :
    (let d := at' .run (2 ^ 18) (dv []); d.sys.straps.root = true ∧ tlRuns d = true ∧ (run .syncWordSend d).sent = [.syncWord 0]) ∧
    (let d := leaf (at' .configure 9 (dv [])); asleep d = false ∧ d.time.lockNow * 64 + 128 ≤ d.time.now * 64 ∧
      (run (.syncWordReceive 1 true 128) d).time.tl = 266242#64 ∧ d.time.syncSeen = false ∧
      (run (.syncWordReceive 1 true 128) d).time.syncFwd = some 2 ∧ d.time.now * 64 < d.time.lockNow * 64 + 577 ∧
      rdB (run (.syncWordReceive 1 true 577) d) pgTb Reg.TB.SYNC_STAT 5 = true) ∧
    (let d := leaf (at' .run 9 (dv [])); rdB (run (.syncWordReceive 1 true 128) d) pgTb Reg.TB.SYNC_STAT 4 = true) ∧
    (run (.syncWordReceive 1 true 128) (dv [])) = dv [] ∧
    (let d := leaf (at' .configure 270336 (dv [])); let e := { d with time := { d.time with syncFwd := some 2 } }
     tlRuns e = true ∧ (run .syncWordSend e).sent = [.syncWord 2]) ∧
    (let d := leaf (at' .run (2 ^ 20) (dv [])); tlRuns d = true ∧ d.time.lockNow + 2 ^ 20 ≤ d.time.now ∧
      rdB d pgTb Reg.TB.SYNC_STAT 3 = false ∧ rdB (run .syncTimeout d) pgTb Reg.TB.SYNC_STAT 3 = true) ∧
    (let d := { up2 (at' .run 500 (dv [])) with
        time := { (at' .run 500 (dv [])).time with exch := [(2, { t1 := 6400, sentAt := 0 })] } }
     linkUp d 2 = true ∧ parentOf d = none ∧ rd (run (.tsyncResponse 2 0 6500 6600 6800) d) (pgLink 2) Reg.LINK.TS_DELAY = 150#32 ∧
      rd (run (.tsyncResponse 2 0 6500 6600 6800) d) (pgLink 2) Reg.LINK.TS_OFFSET = 50#32) ∧
    (let d := dv []; calm d = true ∧ accepts d pgTb Reg.TB.SYNC_CTL (host 0) = true ∧ syncState (run (.reacq (host 0)) d) = 1 ∧
      accepts d pgTb Reg.TB.PTP_CTL (host 0) = true ∧ (run (.ptpCommit (host 0)) d).time.ptpDue = [2]) ∧
    (let d := setShadow pgTb Reg.TB.PTP_RATE 9 { dv [] with time := { (dv []).time with ptpDue := [0] } }
     rd (run .ptpCommitBoundary d) pgTb Reg.TB.PTP_RATE = 9#32) := by decide +kernel

/-- A device whose reference relocked after a sleep of 10 slow periods; the links' domains are off. -/
def woken : Device :=
  let d := at' .sleep 5 (dv [(pgTb, Reg.TB.REF_STAT, 1), (pgTb, Reg.TB.WAKE_CNT_LO, 10), (pgMode, Reg.MODE.SLEEP_CFG, 1)])
  { d with time := { d.time with wakeAt := some 10 }, sys := { d.sys with pd := ~~~ (3#64 <<< 60) } }

/-- `Obligations.MakeUpAdvances` (R76): 10 periods are 12800 ticks, and WAKE_TO says HOLD. -/
theorem wit_make_up : makeupReady woken = true ∧ edgesOff (makeUp woken) = true ∧ calm (makeUp woken) = true ∧
    (List.range 64).all (fun n => !tmrRuns woken n) = true ∧ (List.range 32).all (fun g => !running woken g) = true ∧
    (List.range 128).all (fun n => decide (beRd woken n Reg.BE.TBL_INC = 0#32)) = true ∧ woken.time.cmpArmed = 0#8 ∧
    (List.range 8).all (fun l => !domainOn woken (pgLink l)) = true ∧ (List.range 32).all (fun n => !posOn woken n) = true ∧
    parentOf woken = none ∧ domainOn woken pgTb = true ∧ rdB (run .makeUp woken) pgTb hIRQ_RAW 5 = true ∧
    rd (run .makeUp woken) pgTb Reg.TB.WAKE_STAMP_LO = 12805#32 ∧ rd (run .makeUp woken) pgTb Reg.TB.WAKE_ERR = 1284#32 ∧
    (run .makeUp woken).time.tl = 12805#64 ∧ (run .makeUp woken).sys.transit = some .hold := by decide +kernel
/-- `Obligations.SyncCommands`, the ends of an exchange: one begins at 4096 l (R539), one is void after 2^16 ticks. -/
theorem wit_exchange :
    (let d := up2 (at' .run 8192 (dv []))
     linkUp d 2 = true ∧ d.time.tl.toNat % 2 ^ 20 = 4096 * 2 ∧ d.time.exch.find? 2 = none ∧ ffArmed d 2 = false ∧ (fireflyOf d 2).held = [] ∧
      exchangeDue d 2 = true ∧ ((run (.tsyncExchangeStart 2 7) d).time.exch.find? 2).map Exchange.t1 = some 524295 ∧
      (run (.tsyncRequest 2 5 3 4) d).sent.length = 1 ∧ (run (.tsyncExchangeStart 2 7) d).sent.length = 1) ∧
    (let d := { up2 (at' .run 70000 (dv [])) with
        time := { (at' .run 70000 (dv [])).time with exch := [(2, { t1 := 6400, sentAt := 4464 })] } }
     exchangeOver d 2 = true ∧ domainOn d (pgLink 2) = true ∧ rd (run (.tsyncTimeout 2) d) (pgLink 2) Reg.LINK.TS_BAD = 1#32) := by decide +kernel

/-! ## Carriers and legs -/

/-- Group 0 runs up with PER 99, its carrier at a count; leg 0 follows it in PWM mode and is free of the safe pattern. -/
def carrier (n : Nat) (ud : Bool) (ws : List (Nat × Nat × Word)) : Device :=
  let d := at' .run 1000 (dv ([(pgLg 0, hPAGE_CTL, 1), (pgLg 0, Reg.LG.CTL, if ud then 3 else 1), (pgLg 0, Reg.LG.PER, 99),
    (pgLg 0, Reg.LG.CFG 0, 1)] ++ ws))
  setLeg 0 { legOf d 0 with stage := .follow } (setCarrier 0 { carrierOf d 0 with count := n } d)

/-- `Obligations.CarrierCommands`: start and stop (R87), ZERO and PERIOD at their counts (R85), GSYNC_SW (R636). -/
theorem wit_carrier :
    (let d := dv [(pgLg 0, hPAGE_CTL, 1), (pgLg 0, Reg.LG.PHASE, 7)]
     let e := settleCarriers (usable d pgLegsys Reg.LEGSYS.START (host 1))
     (List.range 32).all (fun g => decide ((carrierOf d g).load = none ∧ (carrierOf d g).perWas = none)) = true ∧ calm d = true ∧ accepts d pgLegsys Reg.LEGSYS.START (host 1) = true ∧ (run (.legsysStart (host 1)) d).soon.map SoonWrite.due = [2] ∧
      running d 0 = false ∧ running e 0 = true ∧ (carrierOf e 0).count = 7 ∧ accepts d pgLegsys Reg.LEGSYS.STOP (host 1) = true ∧
      (run (.legsysStop (host 1)) d).soon.map SoonWrite.off = [Reg.LEGSYS.STOP] ∧
      running (usable e pgLegsys Reg.LEGSYS.STOP (host 1)) 0 = false) ∧
    calm (carrier 0 false []) = true ∧ edgesOff (carrier 0 false []) = true ∧ running (carrier 0 false []) 0 = true ∧
    (carrierOf (carrier 0 false []) 0).count = 0 ∧ (carrierOf (carrier 0 false []) 0).zeroDone = false ∧
    zeroDue (carrier 0 false []) 0 = true ∧ rdB (run (.carrierZero 0) (carrier 0 false [])) (pgLg 0) hIRQ_RAW 0 = true ∧
    periodDue (carrier 99 false []) 0 = true ∧ rdB (run (.carrierPeriod 0) (carrier 99 false [])) (pgLg 0) hIRQ_RAW 1 = true ∧
    (let d := dv [(pgLegsys, Reg.LEGSYS.GSYNC_SRC, 1)]
     calm d = true ∧ accepts d pgLegsys Reg.LEGSYS.GSYNC_SW (host 0) = true ∧ gsyncKind d = 1 ∧ domainOn d pgLegsys = true ∧
      (run (.gsyncSw (host 0)) d).soon.map (fun x => x.w.data) = [1#32] ∧
      (usable d pgLegsys Reg.LEGSYS.GSYNC_SW (host 1)).legs.gsyncDue = true ∧
      rdB (tickSync (usable d pgLegsys Reg.LEGSYS.GSYNC_SW (host 1))) pgLegsys hIRQ_RAW 10 = true) ∧
    gsyncKind (dv []) ≠ 1 ∧ (usable (dv []) pgLegsys Reg.LEGSYS.GSYNC_SW (host 1)).legs.gsyncDue = false := by decide +kernel

/-- `Obligations.CarrierCommands`, a global sync: the running carrier 0 has asked for it and loads PHASE 7; leg 0's CMPA waits for it (R88, R91). -/
theorem wit_gsync :
    (let d := setShadow (pgLg 0) (Reg.LG.CMPA 0) 64 (carrier 40 false [(pgLg 0, Reg.LG.CTL, 5), (pgLg 0, Reg.LG.PHASE, 7),
       (pgLg 0, Reg.LG.CFG 0, 0x40001)])
     domainOn d pgLegsys = true ∧ rdB d (pgLg 0) Reg.LG.CTL 2 = true ∧ running d 0 = true ∧ (carrierOf (gsyncNow d) 0).count = 7 ∧
      legLoadSel d 0 = 4 ∧ legFrozen d 0 = false ∧ rd (gsyncNow d) (pgLg 0) (Reg.LG.CMPA 0) = 64#32 ∧
      (gsyncNow d).tmrs.evs = [sel 9 0] ∧ (tickSync { d with legs := { d.legs with gsyncDue := true } }).legs.gsyncDue = false) := by decide +kernel

/-- `Obligations.CompareAndDelays`: a match in UP mode acts there (R98); one in the down half with fines acts a tick before (R637). -/
theorem wit_compare :
    cmpMatches (carrier 40 false [(pgLg 0, Reg.LG.CMPA 0, 40 * 64), (pgLg 0, Reg.LG.ACT 0, 4)]) 0 .a = true ∧
    (legOf (run (.compareMatch 0 .a false) (carrier 40 false [(pgLg 0, Reg.LG.CMPA 0, 40 * 64), (pgLg 0, Reg.LG.ACT 0, 4)])) 0).state = .a ∧
    (let d := carrier 41 true [(pgLg 0, Reg.LG.CMPA 0, 40 * 64 + 9), (pgLg 0, Reg.LG.ACT 0, 0x200)]
     let e := setCarrier 0 { carrierOf d 0 with down := true } d
     earlyDue e 0 .a = true ∧ (legOf (run (.compareMatch 0 .a true) e) 0).state = .b) ∧
    (let d := carrier 50 false [(pgLg 0, Reg.LG.ACT 0, 4), (pgLg 0, Reg.LG.CFG 0, 0x130001)]
     let e := usable d (pgLg 0) (Reg.LG.CMPA 0) (host (40 * 64))
     legLoadSel d 0 = 3 ∧ calm e = true ∧ edgesOff e = true ∧ cmpMatches e 0 .a = false ∧ catchDue e 0 .a = true ∧
      (legOf (run (.compareMatch 0 .a false) e) 0).state = .a ∧ rdB (run (.compareMatch 0 .a false) e) (pgLg 0) hIRQ_RAW 8 = true ∧
      catchDue (run (.compareMatch 0 .a false) e) 0 .a = false) := by decide +kernel

/-- `Obligations.CompareAndDelays`, the ends of delays at instant 64 (R108 to R110, R119, R123). -/
theorem wit_delays :
    (let d := carrier 5 false []
     let e := setLeg 0 { legOf d 0 with high := { pend := some 64 } } d
     edgesOff e = true ∧ 64 / 64 ≤ e.time.now ∧ (legOf (run (.deadTimeExpiry 0 true) e) 0).high.on = true ∧
      (legOf (run (.deadTimeExpiry 0 true) e) 0).high.onAt = 64) ∧
    (let d := carrier 5 false []
     let e := setLeg 0 { legOf d 0 with high := { pend := some 64 }, low := { on := true, minp := some 64 } } d
     (legOf (run (.deadTimeExpiry 0 true) e) 0).high.on = true ∧ (legOf (run (.deadTimeExpiry 0 true) e) 0).low.on = false) ∧
    (let d := carrier 5 false []
     let e := setLeg 0 { legOf d 0 with high := { pend := some 64 }, low := { on := true } } d
     (legOf (run (.deadTimeExpiry 0 true) e) 0).high.on = false ∧ (legOf (run (.deadTimeExpiry 0 true) e) 0).low.on = false) ∧
    (let d := carrier 5 false []
     let e := setLeg 0 { legOf d 0 with high := { on := true, minp := some 64 } } d
     (legOf (run (.minpExpiry 0 true) e) 0).high.offAt = 64) ∧
    (let d := carrier 5 false []
     let e := setLeg 0 { legOf d 0 with stage := .safe, high := { ilk := some 64 } } d
     (legOf (run (.safepatIlkExpiry 0 true) e) 0).high.onAt = 64) ∧
    (let d := at' .sleep 0 (dv [])
     let e := setLeg 0 { legOf d 0 with stage := .safe, high := { ilk := some 640 } } d
     edgesOff e = true ∧ asleep e = true ∧ (legOf (run (.safepatIlkExpiry 0 true) e) 0).high.onAt = 640) ∧
    (let d := carrier 5 false []
     let e := setLeg 0 { legOf d 0 with high := { ilk := some 64 } } d
     (legOf e 0).stage ≠ .safe ∧ (legOf (run (.ilkExpiry 0 true) e) 0).high.onAt = 64) := by decide +kernel

/-- `Obligations.LegStateChange`: B to A with the minimum pulse over, and with 6 fines of it left; no dead time (R107 to R110). -/
theorem wit_leg_state :
    (let d := carrier 5 false [(pgLg 0, Reg.LG.DTR 0, 70), (pgLg 0, Reg.LG.MINP 0, 100)]
     let e := setLeg 0 { legOf d 0 with state := .b, driven := .b, stage := .follow, low := { on := true, onAt := 64 } } d
     legMode e 0 = 1 ∧ moreAt e 0 164 = false ∧ legMinp e 0 = 100 ∧ legDtr e 0 = 70 ∧ domainOn e (pgLg 0) = true ∧
      (legOf (pwmAct 0 164 1 e) 0).high.pend = some 234 ∧ (legOf (pwmAct 0 164 1 e) 0).low.offAt = 164 ∧
      (legOf (pwmAct 0 158 1 e) 0).low.minp = some 164 ∧ (legOf (pwmAct 0 158 1 e) 0).high.pend = some 234 ∧
      rd (pwmAct 0 158 1 e) (pgLg 0) (Reg.LG.MINP_CNT 0) = 1#32) ∧
    (let d := carrier 5 false [(pgLg 0, Reg.LG.DTR 0, 0)]
     let e := setLeg 0 { legOf d 0 with state := .off, driven := .off, stage := .follow } d
     legDtr e 0 = 0 ∧ (legOf (pwmAct 0 164 1 e) 0).high.onAt = 164) := by decide +kernel

/-- `Obligations.CompareAndDelays`, where an edge lies: without fine placement, at its tick (R56). -/
theorem wit_edge_at : edgeAt (dv []) 3 100 = 100 ∧ (let d := { dv [] with time := { (dv []).time with dlCoarse := 1#32 } }; edgeAt d 3 100 = 64) := by
  decide +kernel

/-- Zone 1 takes pin 3. -/
def zoned (d : Device) : Device := wr pgLegsys (Reg.LEGSYS.TZ_PIN 1) 8#32 d

/-- `Obligations.TripZonesLatch` (R113 to R117). -/
theorem wit_trip :
    (let d := zoned (dv [(pgTb, Reg.TB.REF_CTL, 0), (pgLegsys, Reg.LEGSYS.TRIP_FLT, 0)])
     let x := tripLevel 3 (!rdB d pgLegsys Reg.LEGSYS.TRIP_POL 3) d
     let e := wrB pgLegsys Reg.LEGSYS.TRIP_LVL 3 true x
     let t := run (.tripPinAssert 3) d
     asleep d = false ∧ domainOn d pgLegsys = true ∧ edgesOff d = true ∧ tripPinDue x 3 = true ∧
      (List.range 8).filter (zoneSourced e) = [1] ∧ bitsOf (zonePins e 1) 32 = [3] ∧
      zoneLatched t 1 = true ∧ rd t pgLegsys (Reg.LEGSYS.TZ_CAUSE 1) = 0x10000003#32 ∧
      rd (run (.tripPinDeassert 3) t) pgLegsys Reg.LEGSYS.TRIP_LVL = 0#32 ∧
      zoneLatched (usable t pgLegsys Reg.LEGSYS.TZ_CLR (host 2)) 1 = true ∧
      zoneLatched (usable (run (.tripPinDeassert 3) t) pgLegsys Reg.LEGSYS.TZ_CLR (host 2)) 1 = false) ∧
    (let d := zoned (dv [(pgTb, Reg.TB.REF_CTL, 0), (pgLegsys, Reg.LEGSYS.TRIP_FLT, 9)])
     let x := tripLevel 3 (!rdB d pgLegsys Reg.LEGSYS.TRIP_POL 3) d
     tripAsserted x 3 = true ∧ x.legs.tripAt.get (fun _ => 0) 3 = 0 ∧ tripPinDue x 3 = false ∧
      tripPinDue { x with time := { x.time with now := 8 } } 3 = true ∧ rdB (run (.tripPinAssert 3) d) pgLegsys Reg.LEGSYS.TRIP_LVL 3 = false) ∧
    (let d := dv [(pgLegsys, Reg.LEGSYS.TRIP_FLT, 0)]
     let x := tripLevel 31 (!rdB d pgLegsys Reg.LEGSYS.TRIP_POL 31) d
     tripPinDue x 31 = true ∧ (List.range 8).all (fun z => !zoneSourced (wrB pgLegsys Reg.LEGSYS.TRIP_LVL 31 true x) z) = true ∧
      accepts d pgLegsys Reg.LEGSYS.TZ_SW (host 0x80) = true ∧ (run (.tzSw (host 0x80)) d).soon.map SoonWrite.due = [2] ∧
      zoneLatched (usable d pgLegsys Reg.LEGSYS.TZ_SW (host 0x80)) 7 = true ∧
      calm d = true ∧ (run (.tzClr (host 0x80)) d).soon.map SoonWrite.off = [Reg.LEGSYS.TZ_CLR] ∧ accepts d pgLegsys Reg.LEGSYS.TZ_CLR (host 0x80) = true) := by decide +kernel

/-- `Obligations.SafePattern` (R122, R123): HIGH_ON at leg 127, BOTH_OFF at leg 0; SAFE_N; a device in RUN is free of it. -/
theorem wit_safe_pattern :
    (let d := dv [(pgMode, Reg.MODE.DUSK_CFG, 0), (pgSafepat, Reg.SAFEPAT.PAT 7, 0x40000000#32)]
     d.legs.safeNLow = false ∧ edgesOff (safeNFall d) = true ∧ rdB d pgMode Reg.MODE.DUSK_CFG 0 = false ∧
      rdB (run .safeNFall d) pgLegsys hIRQ_RAW 8 = true ∧ edgesOff (safeNRise (run .safeNFall d)) = true ∧
      rdB (run .safeNRise (run .safeNFall d)) pgLegsys hIRQ_RAW 9 = true ∧ safeApplied d = true ∧ safePat d 127 = 1 ∧ safePat d 0 = 0 ∧
      (legOf (refreshLegs d) 127).stage = .safe ∧ (legOf (refreshLegs d) 127).low.on = false ∧ calm d = true ∧ edgesOff d = true ∧
      accepts d pgSafepat (Reg.SAFEPAT.PAT 7) (host 0) = true) ∧
    safeApplied (at' .run 0 (dv [])) = false ∧ domainOn (dv []) (pgLg 31) = true ∧
    (legOf (refreshLegs (at' .run 0 (refreshLegs (dv [])))) 127).stage = .follow := by decide +kernel
/-! ## Timers and reads with effects -/

/-- TMR5 runs with a step in every tick; COUNT, TOP, matches and one-shot as given. -/
def timer5 (count top : Word) (ws : List (Nat × Nat × Word)) : Device :=
  at' .run 50 (dv ([(pgTmr 5, hPAGE_CTL, 1), (pgTmr 5, Reg.TMR.CTL, 1), (pgTmr 5, Reg.TMR.COUNT, count), (pgTmr 5, Reg.TMR.TOP, top)] ++ ws))

/-- `Obligations.TimerCountsAndDecides` (R138, R149): a step below TOP meets MATCH0; one at TOP overflows to 0 and ends a one-shot. -/
theorem wit_timer :
    (let d := timer5 8 9 [(pgTmr 5, Reg.TMR.MATCH0, 9)]
     tmrOn d 5 = true ∧ slvMode d 5 = 0 ∧ (tickStep 5 d).2 = true ∧ (timerOf d 5).noStep ≠ tickMark d ∧ timerDue d 5 = true ∧
      tmrRd (run (.timerCountStep 5) d) 5 Reg.TMR.COUNT = 9#32 ∧ rd (run (.timerCountStep 5) d) (pgTmr 5) hIRQ_RAW = 1#32) ∧
    (let d := timer5 9 9 [(pgTmr 5, Reg.TMR.CTL, 3), (pgTmr 5, Reg.TMR.MATCH1, 5)]
     (tickStep 5 d).2 = true ∧ tmrRd (run (.timerCountStep 5) d) 5 Reg.TMR.COUNT = 0#32 ∧
      rdB (run (.timerCountStep 5) d) (pgTmr 5) hIRQ_RAW 2 = true ∧ rdB (run (.timerCountStep 5) d) (pgTmr 5) Reg.TMR.CTL 0 = false) := by
  decide +kernel

/-- `Obligations.TimerCommands`: a written COUNT does not step in its tick (R138); levels of TIO63. -/
theorem wit_timer_commands :
    (let d := timer5 8 9 []
     let e := usable d (pgTmr 5) Reg.TMR.COUNT (host 3)
     calm d = true ∧ accepts d (pgTmr 5) Reg.TMR.COUNT (host 3) = true ∧
      (run (.timerCountWrite 5 (host 3)) d).soon.map SoonWrite.due = [52] ∧ tmrRd e 5 Reg.TMR.COUNT = 3#32 ∧ timerDue e 5 = false ∧
      d.tmrs.given ≠ tickMark d ∧ netQuiet d = true ∧ timerDue d 5 = true) ∧
    (let d := at' .sleep 0 (dv [])
     asleep d = true ∧ calm d = true ∧ (run (.tioEdge 63 true) d).tmrs.ext = 0x8000000000000000#64 ∧ (run (.tioEdge 63 true) d).tmrs.tio = 0#64) ∧
    (let d := run (.tioEdge 63 true) (setTimer 63 { timerOf (dv []) 63 with out := false }
       (dv [(pgTmr 63, hPAGE_CTL, 1), (pgTmr 63, Reg.TMR.TIO_CFG, 1)]))
     tioPin d 63 = false) := by decide +kernel

/-- `Obligations.TimerCommands`, a level at TIO63 from the pin to the edge: two ticks of synchronising, then FLT = 2 ticks of it (R139, R153). -/
theorem wit_tio :
    (let d := dv [(pgTmr 63, Reg.TMR.TIO_CFG, 0x20000)]
     let e := run (.tioEdge 63 true) d
     calm d = true ∧ asleep d = false ∧ d.tmrs.samp.getLsbD 63 = d.tmrs.tio.getLsbD 63 ∧ tioPin e 63 = true ∧ e.tmrs.tio = 0#64 ∧
      (tioTick e).tmrs.inA.getLsbD 63 = true ∧ (tioTick (tioTick e)).tmrs.inB.getLsbD 63 = true ∧
      (tioTick (tioTick e)).tmrs.samp = 0#64 ∧ (tioTick (tioTick (tioTick e))).tmrs.samp = 0x8000000000000000#64) ∧
    (let d := at' .run 7 (dv [(pgTmr 63, Reg.TMR.TIO_CFG, 0x20000)])
     let e := { d with tmrs := { d.tmrs with samp := 0x8000000000000000#64, sampAt := [(63, 6)] } }
     let f := { e with time := { e.time with now := 6 } }
     calm e = true ∧ asleep e = false ∧ (run (.tioEdge 63 true) e).tmrs.tio = 0x8000000000000000#64 ∧
      (run (.tioEdge 63 true) e).tmrs.evs = [sel 10 63] ∧ (run (.tioEdge 63 true) f).tmrs.tio = 0#64) := by decide +kernel

/-- A conversion request and its result. -/
def req0 : PfeReq := { due := 40, stamp := 9, seq := 7, trg := 1, chan := 2, osr := 0, k := 1, urgent := false }
def res0 : PfeRes := { value := 0x123456, req := req0, late := false, inv := false, ovl := true }

/-- A conversion of a channel on a slice, 64 ticks long from w. -/
def run0 (chan slice w : Nat) : PfeRun :=
  { req := { req0 with chan := chan }, w := w, len := 64, slice := some slice, segs := [{ first := w, step := 1, before := 0 }]
    marks := [{ at_ := w, offs := 0, gain := 0x40000000, full := none }], late := false, inv := false, ovl := false }

/-- `Obligations.ReadEffects`: heads that pop and counts that clear (R156, R229, R277, R285, R310, R432, R472, R561, R566). -/
theorem wit_reads :
    (let d := setTimer 5 { timerOf (dv []) 5 with queue := [{ count := 4, edge := 1, stamp := 2 ^ 32 + 6 }] } (dv [])
     pageMapped d (pgTmr 5) = true ∧ (run (.capHeadRead 5 (host 0).who) d).resp = .data 4#32 false ∧
      rd (run (.capHeadRead 5 (host 0).who) d) (pgTmr 5) Reg.TMR.CAP_POP_INFO = 0x80010001#32 ∧
      (run (.capHeadRead 5 (host 0).who) (run (.capHeadRead 5 (host 0).who) d)).resp = .data 0#32 false) ∧
    (let d := setPfe 23 { pfeOf (dv []) 23 with fifo := [res0] } (dv [])
     pageMapped d (pgPfe 23) = true ∧ rd (run (.resHeadRead 23 (host 0).who) d) (pgPfe 23) Reg.PFE.RES_POP_SEQ = 7#32 ∧
      (pfeOf (run (.resHeadRead 23 (host 0).who) d) 23).fifo = []) ∧
    (let d := setOlu 0 { oluOf (dv []) 0 with intD := 2 ^ 64 + 3 } (dv [(pgOlu 0, Reg.OLU.FE_PEAK, 8)])
     pageMapped d (pgOlu 0) = true ∧ (run (.intLoRead 0 false (host 0).who) d).resp = .data 3#32 false ∧
      (oluOf (run (.intLoRead 0 false (host 0).who) d) 0).holdD = some (0#32, 1#32) ∧
      (run (.fePeakRead 0 (host 0).who) d).resp = .data 8#32 false) ∧
    (let d := dv [(pgPos 1, Reg.POS.SSI_DATA_LO, 5), (pgPos 1, Reg.POS.SSI_DATA_HI, 6)]
     pageMapped d (pgPos 1) = true ∧ (posOf (run (.ssiDataLoRead 1 (host 0).who) d) 1).ssiHold = some (6#32, 0#32)) ∧
    (let d := dv [(pgMemerr, Reg.MEMERR.CE_CNT 118, 2), (pgMemerr, Reg.MEMERR.UE_CNT 0, 3)]
     pageMapped d pgMemerr = true ∧ (run (.ceCntRead 118 (host 0).who) d).resp = .data 2#32 false ∧
      rd (run (.ueCntRead 0 (host 0).who) d) pgMemerr (Reg.MEMERR.UE_CNT 0) = 0#32) ∧
    (let d := setEth 1 { ethOf (dv []) 1 with ts := [{ tx := true, kind := 1, seqId := 2, domain := 0, fines := 99 }] } (dv [])
     pageMapped d (pgEth 1) = true ∧ rd (run (.tsHeadRead 1 (host 0).who) d) (pgEth 1) Reg.ETH.TS_POP_LO = 99#32) ∧
    (let d := dv [(pgEva, Reg.EVA.PEND_PEAK, 4)]
     let e := { d with eva := { d.eva with log := [{ source := 3, code := 4, stamp := 5, seq := 6 }] } }
     pageMapped e pgEva = true ∧ (run (.logHeadRead (host 0).who) e).resp = .data 6#32 false ∧
      (run (.pendPeakRead (host 0).who) e).resp = .data 4#32 false) := by decide +kernel

/-! ## Slices, filters and conversions -/

/-- A calibration of an ideal slice: offset 0, ±1.000 V of 1.2 V full scale, the middle point at 0.5 V (R181). -/
def ideal : Cal := { z := 0, p := 1789569707, n := wdI (-1789569707), m := 894784853, ovld := false }
/-- An ideal rotation step with this target, begun at tick 0. -/
def stepTo (t : Nat) : Rotation := { origin := 0, target := t, cal := ideal, ho := [], chMean := 0, ovld := false, connected := true, passed := true }
/-- Group 7 has been initialised, its spare being slice 12, and is enabled. -/
def group7 (ws : List (Nat × Nat × Word)) : Device :=
  let d := at' .configure 1086464 (dv ([(pgModg 7, hPAGE_CTL, 1)] ++ (List.range 12).map (fun c => (pgModg 7, Reg.MODG.MAP c, wd c)) ++
    [(pgModg 7, Reg.MODG.STAT, 0x0C00#32), (pgModg 7, Reg.MODG.REF_STAT, 1)] ++ ws))
  setMod 7 { modOf d 7 with needInit := false } d

/-- `Obligations.SliceRotation`: INIT refused with EN 1, and done (R177, R185). -/
theorem wit_init :
    (let d := dv [(pgModg 7, hPAGE_CTL, 1)]
     calm d = true ∧ accepts d (pgModg 7) Reg.MODG.CTL (host 0) = true ∧ enabled d (pgModg 7) = true ∧
      (run (.modgInit 7 (host 0)) d).resp = .error (.refused 0x81)) ∧
    (let d := at' .configure 5 (dv [])
     accepts d (pgModg 7) Reg.MODG.CTL (host 0) = true ∧ enabled d (pgModg 7) = false ∧ (modOf d 7).initAt = none ∧
      (run (.modgInit 7 (host 0)) d).soon.map (fun x => (x.due, x.w.data)) = [(7, 8#32)] ∧
      (modOf (usable d (pgModg 7) Reg.MODG.CTL (host 8)) 7).initAt = some 5) ∧
    (let d := setMod 7 { modOf (group7 []) 7 with initAt := some 5 } (group7 [])
     5 + 1064960 ≤ d.time.now ∧ (List.replicate 13 ideal).all (calPasses (mgRd d 7 Reg.MODG.LIN_LIM)) = true ∧
      mgRd d 7 Reg.MODG.SLICE_BAD = 0#32 ∧ mgRd (run (.initDone 7 (List.replicate 13 ideal)) d) 7 (Reg.MODG.GAIN 12) = 0x40000000#32 ∧
      spareOf (run (.initDone 7 (List.replicate 13 ideal)) d) 7 = 12) := by decide +kernel

/-- `Obligations.SliceRotation`: a step's start, a handover to the spare with the old slice held, and its release (R179, R183, R189). -/
theorem wit_rotation :
    (let d := setMod 7 { modOf (group7 []) 7 with nextOrigin := 1086464, prevTarget := some 11 } (group7 [])
     stepReady d 7 = true ∧ nextTarget d 7 = some 0 ∧ ((modOf (run (.rotationStepStart 7 ideal [] 0 false) d) 7).rot.map Rotation.target) = some 0) ∧
    (let d := group7 [(pgModg 7, Reg.MODG.HO_CNT, 3)]
     let e := setPfe 0 { pfeOf d 0 with run := some (run0 95 11 d.time.now) } (setMod 7 { modOf d 7 with rot := some (stepTo 11) } d)
     switchReady e 7 = true ∧ pinned e 7 11 = false ∧ spareOf e 7 < 13 ∧ sliceBusy e 95 (sliceOf e 7 11) = true ∧
      sliceOf (run (.handoverSwitch 7) e) 7 11 = 12 ∧ (modOf (run (.handoverSwitch 7) e) 7).held = some (11, 11) ∧
      mgRd (run (.handoverSwitch 7) e) 7 Reg.MODG.HO_CNT = 4#32) ∧
    (let d := setMod 7 { modOf (group7 []) 7 with held := some (11, 11), nextOrigin := 1086465 } (group7 [])
     sliceBusy d 95 11 = false ∧ d.time.now < (modOf d 7).nextOrigin ∧ spareOf (run (.oldSliceRelease 7) d) 7 = 11) := by decide +kernel

/-- `Obligations.SliceRotation`, a spare that is in overload at its handover (R174): the channel's OVLD and its cause. -/
theorem wit_handover_full :
    (let d := group7 []
     let e := setPfe 0 { pfeOf d 0 with run := some (run0 95 11 d.time.now) }
       (setMod 7 { modOf d 7 with rot := some (stepTo 11), full := [(12, true)] } d)
     switchReady e 7 = true ∧ pinned e 7 11 = false ∧ (sliceFull e 7 (spareOf e 7)).isSome = true ∧ domainOn e (pgModg 7) = true ∧
      sliceBusy e 95 (sliceOf e 7 11) = true ∧ rdB (run (.handoverSwitch 7) e) (pgModg 7) Reg.MODG.OVLD 11 = true ∧
      rdB (run (.handoverSwitch 7) e) (pgModg 7) hIRQ_RAW 19 = true) := by decide +kernel

/-- `Obligations.SliceEvents` (R173, R174, R176, R190, R200). -/
theorem wit_slice_events :
    (let d := group7 []
     domainOn d (pgModg 7) = true ∧ asleep d = false ∧ (modOf d 7).rot = none ∧ sliceOf d 7 11 = 11 ∧ chanDead d 7 11 = false ∧
      rdB (run (.sliceOverload 7 11 true) d) (pgModg 7) Reg.MODG.OVLD 11 = true ∧
      (modOf (run (.sliceOverloadEnd 7 11) (run (.sliceOverload 7 11 true) d)) 7).full = [] ∧
      rdB d (pgModg 7) Reg.MODG.REF_STAT 0 = true ∧ rdB (run (.refFail 7) d) (pgModg 7) hIRQ_RAW 4 = true ∧
      rdB (run (.refOkRestored 7) (run (.refFail 7) d)) (pgModg 7) Reg.MODG.REF_STAT 0 = true) ∧
    (let d := setMod 7 { modOf (group7 []) 7 with rot := some (stepTo 3) } (group7 [])
     mgRd (run (.refFail 7) d) 7 Reg.MODG.FAIL_CNT = 1#32) ∧
    (let d := group7 []
     calm d = true ∧ accepts d (pgModg 7) (Reg.MODG.OFFS 11) (host 5) = true ∧ sliceUsed d 7 11 = true ∧ sliceUsed d 7 12 = true ∧
      (run (.coefWrite 7 11 false (host 5)) d).resp = .error (.refused 0x80) ∧ enabled (dv []) (pgModg 7) = false ∧
      (run (.coefWrite 7 11 false (host 5)) (dv [])).soon.map SoonWrite.off = [Reg.MODG.OFFS 11] ∧
      (List.range 24).all (fun p => decide ((pfeOf (dv []) p).run = none)) = true ∧
      mgRd (usable (dv []) (pgModg 7) (Reg.MODG.OFFS 11) (host 5)) 7 (Reg.MODG.OFFS 11) = 5#32) ∧
    (let d := dv [(pgXbs, hPAGE_CTL, 1), (pgXbs, Reg.XBS.XCFG 63, 1), (pgXbs, Reg.XBS.STUCK_LIM, 9)]
     stuckWatched d 63 = true ∧ rd (run (.xbsStuck 63) d) pgXbs Reg.XBS.XSTUCK_HI = 0x80000000#32) := by decide +kernel
/-- Channel 95 has a running filter at its boundary; comparator HI asserts after 2 outputs above 0.5 with a hysteresis of 0.25. -/
def filter95 (ws : List (Nat × Nat × Word)) : Device :=
  let d := group7 ([(pgFf 5, hPAGE_CTL, 1), (pgFf 5, Reg.FF.CFG 15, 0x100), (pgFf 5, Reg.FF.CMP_CFG 15, 0x201),
    (pgFf 5, Reg.FF.THR_HI 15, 0x40000000), (pgFf 5, Reg.FF.HYS 15, 0x20000000)] ++ ws)
  setFilt 95 { filtOf d 95 with restart := 0 } (setMod 7 { modOf d 7 with needInit := false } d)

/-- `Obligations.FastPathOutputs`: an output without comparators, and the comparator's counting (R209 to R212). -/
theorem wit_fast :
    (let d := filter95 [(pgFf 5, Reg.FF.CMP_CFG 15, 0)]
     calm d = true ∧ fastDue d 95 = true ∧ bandsOn d 95 = [] ∧ streamsOf d 1 = [] ∧ streamsOf d 2 = [] ∧ fld (cmpCfg d 95) 0 2 = 0 ∧
      rdB d (pgFf 5) (Reg.FF.CFG 15) 9 = false ∧ rdF (run (.fastOutput 95 0) d) (pgFf 5) (Reg.FF.SMP 15) 0 6 = 1) ∧
    (let d := filter95 []
     let o := fun (n : Nat) (f : Filt) => filtOf (comparators 95 (wd n) (setFilt 95 f d)).1 95
     let f := filtOf d 95
     bit (cmpCfg d 95) 0 = true ∧ f.hi = false ∧ (o 0x40000000 { f with hiRun := 1 }).hiRun = 0 ∧ (o 0x40000001 f).hiRun = 1 ∧
      (o 0x40000001 f).hi = false ∧ (o 0x40000001 { f with hiRun := 1 }).hi = true ∧ (o 0x20000000 { f with hi := true, hiRun := 1 }).hiRun = 0 ∧
      (o 0x1FFFFFFF { f with hi := true, hiRun := 1 }).hi = false) := by decide +kernel

/-- `Obligations.InvalidOutputs` (R213): with the group's reference lost since a restart, the comparator's count stands. -/
theorem wit_invalid :
    (let d := setFilt 95 { filtOf (filter95 []) 95 with restart := 2, hiRun := 1 } (filter95 [])
     fastDue d 95 = true ∧ (fastValue d 95 0x7FFFFFFF).1.inv = true ∧ (filtOf (run (.fastOutput 95 0x7FFFFFFF) d) 95).hiRun = 1) ∧
    (let e := fastDeliver 95 { tick := 9, y := 0x7FFFFFFF, inv := false } true (filter95 [])
     (filtOf e 95).hiRun = 1 ∧ (filtOf (comparators 95 0x7FFFFFFF (filter95 [])).1 95).hiRun = 1) := by decide +kernel

/-- Engine 23 is enabled with queue and conversion. -/
def engine (q : List PfeReq) (r : Option PfeRun) : Device :=
  let d := group7 [(pgPfe 23, hPAGE_CTL, 1), (pgPfeseq, hPAGE_CTL, 1), (pgPfeseq, Reg.PFESEQ.TRG_CONV 63, 0x85C0405F)]
  setPfe 23 { pfeOf d 23 with queue := q, run := r } d

/-- `Obligations.Conversions` (R216 to R228): a request placed, started, interrupted by an URGENT one, and ended. -/
theorem wit_conversion :
    (let d := engine [] none
     calm d = true ∧ accepts d pgPfeseq Reg.PFESEQ.SW_TRG_HI (host 0x80000000#32) = true ∧ trgArmed d 63 = true ∧
      (run (.swTrg true (host 0x80000000#32)) d).soon.map SoonWrite.off = [Reg.PFESEQ.SW_TRG_HI] ∧
      (usable d pgPfeseq Reg.PFESEQ.SW_TRG_HI (host 0x80000000#32)).swTrg = BitVec.ofNat 64 (2 ^ 63) ∧
      fld (trgConv d 63) 22 5 = 23 ∧ pfeTakes d 23 = true ∧ (pfeOf d 23).queue.length < 16 ∧
      ((pfeOf (fireEntry 63 d) 23).queue.map (fun r => (r.chan, r.k))) = [(95, 2)] ∧
      rd (fireEntry 63 d) pgPfeseq Reg.PFESEQ.FIRED_HI = 0x80000000#32) ∧
    (let d := engine [{ req0 with chan := 95 }] none
     convReady d 23 = true ∧ ((pfeOf (run (.conversionStart 23) d) 23).run.map (fun r => (r.slice, r.late))) = some (some 11, true)) ∧
    (let d := engine [{ req0 with chan := 95, urgent := true }] (some (run0 3 3 1086460))
     convReady d 23 = true ∧ rd (run (.conversionStart 23) d) (pgPfe 23) Reg.PFE.RESTART_CNT = 1#32 ∧
      ((pfeOf (run (.conversionStart 23) d) 23).queue.map (fun r => (r.chan, r.restarts))) = [(3, 1)]) ∧
    (let d := engine [] (some (run0 3 3 1086400))
     runEnd (run0 3 3 1086400) ≤ d.time.now ∧ (run0 3 3 1086400).req.k = 1 ∧
      (pfeOf (run (.conversionEnd 23 [0x10000]) d) 23).finished.map PfeRes.value = [0x100]) ∧
    (let d := engine [] none
     let e := fun l => setPfe 23 { pfeOf d 23 with finished := [res0], fifo := List.replicate l res0 } d
     streamsOf d 3 = [] ∧ (pfeOf (run (.resultAppend 23) (e 31)) 23).fifo.length = 32 ∧ domainOn d (pgPfe 23) = true ∧
      (pfeOf (run (.resultAppend 23) (e 32)) 23).fifo.length = 32 ∧ rd (run (.resultAppend 23) (e 32)) (pgPfe 23) Reg.PFE.RES_STAT = 0x10100#32) := by
  decide +kernel

/-! ## Loops and positions -/

/-- Engine 127 whose evaluation of an output waits, with the registers it began with. -/
def band127 (o : FastOut) (entry : Option (Option Word)) (ws : List (Nat × Nat × Word)) : Device :=
  let d := at' .run 500 (dv ([(pgBe 127, hPAGE_CTL, 1), (pgBe 127, Reg.BE.MSCALE, 0x10000000), (pgBe 127, Reg.BE.REF, 0x1000),
    (pgBe 127, Reg.BE.BAND_HI, 0x100), (pgBe 127, Reg.BE.BAND_LO, 0x100), (pgBe 127, Reg.BE.SUP_CFG, 0), (pgBe 127, Reg.BE.CFG, 0)] ++ ws))
  setBand 127 { bandOf d 127 with
    wait := some { out := o, ix := 0, entry := entry, regs := beTaken.map (fun off => (off, beRd d 127 off)) } } d

/-- What engine 127 takes of a table at offset 0 of TBL_BASE, or past the SRAM. -/
def table127 (base : Word) : List (Nat × Nat × Word) :=
  [(pgBe 127, Reg.BE.CFG, 0x200), (pgBe 127, Reg.BE.TBL_BASE, base), (pgBe 127, Reg.BE.TBL_AMP, 0x40000000), (pgBe 127, Reg.BE.TBL_OFFS, 0x1000)]

/-- `Obligations.BandEngines` (R241, R247, R249 to R251): error 0x200 above BAND_HI asks for A, active two ticks later. -/
theorem wit_band :
    (bandOf (dv []) 127).wait = none ∧
    (let d := band127 { tick := 499, y := 0, inv := true } none []
     legMode d 127 ≠ 2 ∧ domainOn d (pgBe 127) = true ∧ beRd (run (.bandEvaluation 127) d) 127 Reg.BE.INV_CNT = 1#32) ∧
    (let d := band127 { tick := 499, y := 0xE00, inv := false } none []
     let e := run (.bandEvaluation 127) d
     (bandOf d 127).wait.map byTable = some false ∧ (bandOf d 127).wait.map (fun i => bandRegF i Reg.BE.SUP_CFG 0 16) = some 0 ∧
      (bandOf d 127).wait.map (fun i => bit (bandReg i Reg.BE.CFG) 12) = some false ∧ beRd e 127 Reg.BE.ERR = 0x200#32 ∧
      (bandOf e 127).state = .a ∧ (bandOf e 127).due = [(502, .a)] ∧ (bandOf e 127).since = 502 ∧ beRd e 127 Reg.BE.SW_CNT = 1#32) ∧
    (let d := band127 { tick := 499, y := 0xF00, inv := false } none []
     (bandOf (run (.bandEvaluation 127) d) 127).state = .off) := by decide +kernel

/-- `Obligations.BandEngines`, references of a table (R244, R246): an entry of 0.5, a poisoned one, one past the SRAM, one not yet fetched. -/
theorem wit_table :
    (let d := band127 { tick := 499, y := 0, inv := false } (some (some 0x40000000#32)) (table127 0)
     (bandOf d 127).wait.map byTable = some true ∧ (bandOf (run (.bandEvaluation 127) d) 127).refUsed = 0x20001000#32 ∧
      (bandOf (run (.bandEvaluation 127) d) 127).state = .a) ∧
    (let d := band127 { tick := 499, y := 0, inv := false } (some none) (table127 0)
     domainOn d (pgBe 127) = true ∧ rdB (run (.bandEvaluation 127) d) (pgBe 127) Reg.BE.STAT 6 = true) ∧
    (let d := band127 { tick := 499, y := 0, inv := false } none (table127 0x3000000)
     tblOffset 0x3000000#32 0 = none ∧ (bandOf (run (.bandEvaluation 127) d) 127).refUsed = 0x1000#32) ∧
    (let d := band127 { tick := 499, y := 0, inv := false } none (table127 0)
     tblOffset 0#32 0 = some 0 ∧ (bandOf (run (.bandEvaluation 127) d) 127).refUsed = 0x1000#32) := by decide +kernel

/-- `Obligations.BandEngines`: a state becomes active in a leg in BAND mode (R251). -/
theorem wit_band_active :
    (let d := at' .run 500 (dv [(pgLg 31, hPAGE_CTL, 1), (pgLg 31, Reg.LG.CFG 3, 2)])
     let e := setBand 127 { bandOf d 127 with due := [(500, .a)] } d
     legMode e 127 = 2 ∧ (List.range 127).all (fun k => decide ((bandOf e k).due = [])) = true ∧ (bandOf (bandTick e) 127).due = []) := by
  decide +kernel

/-- Evaluation of an OLU in scalar mode. -/
def eval0 (inv : Bool) : OluEval :=
  { trig := 400, deadline := some 500, fa := 0, fb := 0, fc := 0, inv := inv, count := 0, theta := 0, cascade := 0
    regs := [(Reg.OLU.FE_LIM, 0x7FFFFFFF#32)], swap := false }

/-- `Obligations.OuterLoops` (R260, R269 to R271). -/
theorem wit_outer_loop :
    (let d := setOlu 31 { oluOf (dv []) 31 with trig := some 400 } (at' .run 499 (dv []))
     rdB d (pgOlu 31) Reg.OLU.BANK 0 = false ∧ rdB d (pgOlu 31) Reg.OLU.BANK 1 = false ∧
      ((oluOf (run (.oluEvaluation 31) d) 31).run.map OluEval.trig) = some 400 ∧ (oluOf (dv []) 31).trig = none) ∧
    (let d := setOlu 31 { oluOf (dv []) 31 with trig := some 400 }
       (at' .run 499 (dv [(pgOlu 31, Reg.OLU.BANK, 1), (pgOlu 31, Reg.OLU.SHD 7, 9)]))
     rdB d (pgOlu 31) Reg.OLU.BANK 0 = true ∧ domainOn d (pgOlu 31) = true ∧ oluRd (run (.oluEvaluation 31) d) 31 (Reg.OLU.ACT 7) = 9#32 ∧
      rdB (run (.oluEvaluation 31) d) (pgOlu 31) hIRQ_RAW 6 = true) ∧
    (let d := setOlu 31 { oluOf (dv []) 31 with run := some (eval0 true) } (at' .run 499 (dv []))
     oluOverdue d 31 = false ∧ rdB (run (.oluCommit 31) d) (pgOlu 31) Reg.OLU.STAT 5 = true) ∧
    (let d := setOlu 31 { oluOf (dv []) 31 with run := some (eval0 false) } (at' .run 499 (dv []))
     oluModeOf (taken (eval0 false) Reg.OLU.CFG) = 0 ∧ taken (eval0 false) Reg.OLU.TGT_SEL = 0#32 ∧
      taken (eval0 false) Reg.OLU.FE_LIM = 0x7FFFFFFF#32 ∧ oluRd (run (.oluCommit 31) d) 31 Reg.OLU.EVAL_CNT = 1#32) ∧
    (let d := setOlu 31 { oluOf (dv []) 31 with run := some (eval0 false) } (at' .run 500 (dv []))
     oluLate d 31 = true ∧ oluRd (run (.oluMiss 31) d) 31 Reg.OLU.MISS_CNT = 1#32) ∧
    (let d := setOlu 31 { oluOf (dv []) 31 with run := some (eval0 false) } (at' .run 501 (dv []))
     oluOverdue d 31 = true ∧ oluRd (run (.oluCommit 31) d) 31 Reg.OLU.MISS_CNT = 1#32 ∧
      oluRd (run (.oluCommit 31) d) 31 Reg.OLU.EVAL_CNT = 0#32) ∧
    calm (dv []) = true ∧ accepts (dv []) (pgOlu 31) Reg.OLU.BANK (host 0) = true ∧
    (run (.bankSwap 31 (host 0)) (dv [])).soon.map (fun x => x.w.data) = [1#32] ∧
    (run (.intClr 31 (host 0)) (dv [])).soon.map (fun x => x.w.data) = [2#32] ∧
    pageView (pgOlu 31) Reg.OLU.BANK (run (.intClr 31 (host 0)) (dv [])) = 2#32 ∧
    oluRd (usable (dv []) (pgOlu 31) Reg.OLU.BANK (host 1)) 31 Reg.OLU.BANK = 1#32 ∧
    oluRd (usable (dv []) (pgOlu 31) Reg.OLU.BANK (host 2)) 31 Reg.OLU.BANK = 2#32 := by
  decide +kernel

/-- Channel 31 in QUAD mode at a sample's tick, RAW and COUNT at a place, its pins low; FLT 0 acts as 1. -/
def quad (raw : Word) (ws : List (Nat × Nat × Word)) : Device :=
  { at' .run 4096 (dv ([(pgPos 31, hPAGE_CTL, 1), (pgPos 31, Reg.POS.CFG, 1), (pgPos 31, Reg.POS.RAW, raw), (pgPos 31, Reg.POS.COUNT, raw)] ++ ws)) with
    posNo := 7, posAt := some 4096 }

/-- `Obligations.PositionCounting` (R287 to R298): no sample; up and down across 0, a skipped place, a filtered level, an index, a written
COUNT. -/
theorem wit_position :
    posSampleDue (dv []) 31 = false ∧ (posOf (run (.posLevelRecognised 31 true false true) (dv [])) 31).lz.pin = true ∧
    (let d := quad 0xFFFFFFFF []
     posSampleDue d 31 = true ∧ posOn d 31 = true ∧ indexHit d 31 true false false = false ∧ posMove d 31 true false false = .step 1 ∧
      posCfgB d 31 4 = false ∧ posRd (run (.posLevelRecognised 31 true false false) d) 31 Reg.POS.COUNT = 0#32 ∧
      posMove d 31 false false false = .none) ∧
    (let d := quad 0 []
     posMove d 31 false true false = .step (-1) ∧ posRd (run (.posLevelRecognised 31 false true false) d) 31 Reg.POS.RAW = 0xFFFFFFFF#32 ∧
      posMove d 31 true true false = .err ∧ indexHit d 31 true true false = false ∧
      posRd (run (.posLevelRecognised 31 true true false) d) 31 Reg.POS.QERR_CNT = 1#32) ∧
    (let d := quad 0 [(pgPos 31, Reg.POS.CFG, 0x20001)]
     lineLevel 7 2 (lineSample 7 true {}) false = false ∧ (posOf (run (.posLevelRecognised 31 true false false) d) 31).a = false ∧
      posRd (run (.posLevelRecognised 31 true false false) d) 31 Reg.POS.COUNT = 0#32) ∧
    (let d := quad 0 [(pgPos 31, hPAGE_CTL, 0)]
     posSampleDue d 31 = true ∧ posOn d 31 = false ∧ (posOf (run (.posLevelRecognised 31 true false false) d) 31).a = true) := by decide +kernel

/-- `Obligations.PositionCounting`, the index and COUNT (R294, R296). -/
theorem wit_index :
    (let d := quad 8 [(pgPos 31, Reg.POS.CFG, 0x101)]
     indexHit d 31 false false true = true ∧ posMove d 31 false false true = .none ∧ rdF d (pgPos 31) Reg.POS.CFG 8 2 ≠ 2 ∧
      rdB d (pgPos 31) Reg.POS.STAT 6 = false ∧ posRd (run (.posLevelRecognised 31 false false true) d) 31 Reg.POS.IDX_CNT = 8#32) ∧
    (let d := quad 8 [(pgPos 31, Reg.POS.CFG, 0x101), (pgPos 31, Reg.POS.STAT, 0x40)]
     rdB d (pgPos 31) Reg.POS.STAT 6 = true ∧ rdB (run (.posLevelRecognised 31 false false true) d) (pgPos 31) hIRQ_RAW 6 = true) ∧
    (let d := quad 0 [(pgPos 31, Reg.POS.MODULO, 100)]
     calm d = true ∧ accepts d (pgPos 31) Reg.POS.COUNT (host 205) = true ∧
      (run (.posCountWrite 31 (host 205)) d).soon.map SoonWrite.due = [4098] ∧
      posRd (usable d (pgPos 31) Reg.POS.COUNT (host 205)) 31 Reg.POS.RAW = 5#32) := by decide +kernel

/-- `Obligations.ProbesSpeedSsi`, probes and windows (R302 to R305). -/
theorem wit_probe :
    probeOpen (at' .sleep 5 (dv [])) 31 = false ∧ (posOf (run (.probe 31 true) (at' .sleep 5 (dv []))) 31).lp.pin = true ∧
    (let d := quad 77 [(pgPos 31, Reg.POS.PRB_CFG, 0x1011F)]
     probeOpen d 31 = true ∧ (posOf d 31).prb = false ∧ bit (rd d (pgPos 31) Reg.POS.PRB_CFG) 8 = true ∧ rdB d (pgPos 31) Reg.POS.STAT 8 = false ∧
      posRd (run (.probe 31 true) d) 31 Reg.POS.PRB_CNT = 77#32 ∧ posRd (run (.probe 31 true) d) 31 Reg.POS.PRB_STAMP_LO = 4096#32) ∧
    (let d := quad 77 [(pgPos 31, Reg.POS.PRB_CFG, 0x1011F), (pgPos 31, Reg.POS.STAT, 0x100)]
     rdB d (pgPos 31) Reg.POS.STAT 8 = true ∧ rdB (run (.probe 31 true) d) (pgPos 31) hIRQ_RAW 6 = true) ∧
    (let d := quad 77 [(pgPos 31, Reg.POS.PRB_CFG, 0x2011F)]
     (posOf (run (.probe 31 true) d) 31).prb = false ∧ (posOf (run (.probe 31 true) d) 31).lp.samp = true) ∧
    (let d := quad 77 []
     let e := setPos 31 { posOf d 31 with winBase := 80 } { d with time := { d.time with tl := 0x100000000#64 } }
     windowDue e 31 = true ∧ tlRuns e = true ∧ (posOf e 31).winSkip = false ∧ posRd e 31 Reg.POS.MODULO = 0#32 ∧
      posRd (run (.speedWindowEnd 31) e) 31 Reg.POS.CNT_WIN = 0xFFFFFFFD#32 ∧
      (posOf (run (.speedWindowEnd 31) e) 31).winSh = winShift e 31) ∧
    (let d := quad 77 []
     let e := setPos 31 { posOf d 31 with steps := [0] } { d with time := { d.time with now := 2 ^ 40 } }
     timeoutDue e 31 = true ∧ (posOf (run (.speedTimeout 31) e) 31).timedOut = true) := by decide +kernel

/-- An SSI channel with its data line at a level. -/
def ssi (b : Bool) : Device :=
  let d := at' .run 4096 (dv [(pgPos 31, hPAGE_CTL, 1), (pgPos 31, Reg.POS.CFG, 4)])
  setPos 31 { posOf d 31 with b := b } d
/-- A whole frame of two bits. -/
def frame2 (x y : Bool) : SsiFrame := { f := 0, stamp := 3, len := 2, half := 640, dly := 0, bits := [x, y] }

/-- `Obligations.ProbesSpeedSsi`, SSI (R307 to R309). -/
theorem wit_ssi :
    calm (ssi true) = true ∧ accepts (ssi true) (pgPos 31) Reg.POS.SSI_CTL (host 1) = true ∧ posOn (ssi true) 31 = true ∧
    posMode (ssi true) 31 = 4 ∧ (posOf (ssi true) 31).ssi = none ∧ (run (.ssiStart 31 (host 1)) (ssi true)).soon.map SoonWrite.due = [4098] ∧
    (let e := fun d => usable d (pgPos 31) Reg.POS.SSI_CTL (host 1)
     ((posOf (e (ssi true)) 31).ssi.map SsiFrame.f) = some 4096 ∧ rdF (e (ssi false)) (pgPos 31) Reg.POS.STAT 14 2 = 0 ∧
      rdB (e (ssi false)) (pgPos 31) Reg.POS.STAT 13 = true ∧ rdF (e (e (ssi true))) (pgPos 31) Reg.POS.STAT 14 2 = 2) ∧
    (let d := setPos 31 { posOf (ssi true) 31 with ssi := some (frame2 true true) } (ssi true)
     ssiDone d 31 = true ∧ domainOn d (pgPos 31) = true ∧ rdF (run (.ssiFrameComplete 31) d) (pgPos 31) Reg.POS.STAT 14 2 = 1) ∧
    (let d := setPos 31 { posOf (ssi true) 31 with ssi := some (frame2 true false) } (ssi true)
     (posOf d 31).ssiPrev = none ∧ rdF d (pgPos 31) Reg.POS.SSI_CFG 6 8 = 0 ∧
      posRd (run (.ssiFrameComplete 31) d) 31 Reg.POS.COUNT = 2#32 ∧ posRd (run (.ssiFrameComplete 31) d) 31 Reg.POS.SSI_DATA_LO = 2#32) := by
  decide +kernel

/-- `Obligations.ShadowReads` (R131): a write to PER of a group whose load point is not IMMEDIATE. -/
theorem wit_shadow :
    (let d := at' .run 4096 (dv [(pgLg 3, Reg.LG.PER, 1000)])
     let a := pageBase + 4096 * pgLg 3 + Reg.LG.PER
     calm d = true ∧ pageAt a = some (pgLg 3, Reg.LG.PER) ∧ accepts d (pgLg 3) Reg.LG.PER (host 500) = true ∧ pload d 3 ≠ 3 ∧
      (run (.registerWrite (host 0).who (BitVec.ofNat 36 a) .w4 500 false) d).soon.map SoonWrite.due = [4098] ∧
      (let e := usable d (pgLg 3) Reg.LG.PER (host 500)
       rd e (pgLg 3) Reg.LG.PER = 1000#32 ∧ shadowOf e (pgLg 3) Reg.LG.PER = some 500#32)) := by decide +kernel

/-- `Obligations.FixedEnable` (R38): a write of EN 0 to a core's PAGE_CTL. -/
theorem wit_fixed :
    enFixed (classOf (pageNum (.core 35))) = true ∧ enFixed (classOf (pageNum (.lg 0))) = false ∧ calm (dv []) = true ∧
    accepts (dv []) (pgCore 35) hPAGE_CTL (host 0) = true ∧ bit (pageRead (pgCore 35) hPAGE_CTL true (host 0).who (dv [])).2 0 = true := by
  decide +kernel

/-- A core that runs at the start of its code, its core state given. -/
def kcore (k : Nat) (f : Core → Core) : Device :=
  setCore k (f { coreOf State.reset.dev k with pc := 0x10000000#32 }) (at' .configure 0 (dv [(pgCore k, Reg.CORE.CTL, 1)]))
/-- General registers with values. -/
def ws (xs : List (Nat × Word)) (c : Core) : Core := xs.foldl (fun c x => setW x.1 { v := x.2 } c) c

/-- The premises of `completesAs`, and its conclusion for the core. -/
def completes (d : Device) (m : Memory) (k : Nat) (i : Instr) (form : KInst) (g : Core → Core) : Bool :=
  let n := positionLen k [form]
  let f := fetched d m k n
  issues d m k form && calm f &&
    (match exec i ⟨d, m, [], []⟩ with
     | .next s => decide (coreOf s.dev k = g { coreOf f k with pc := (coreOf f k).pc + wd n, pos := (coreOf f k).pos + 1 }) && decide (s.mem = m) &&
         decide (rd s.dev (pgCore k) Reg.CORE.RETIRED = 1#32)
     | _ => false)

/-- `Obligations.AluTwoRegisters`: a wrapped sum, a clamped one, a lane of a q form, a shift and a comparison. -/
theorem wit_alu2 :
    (let d := kcore 3 (ws [(1, 0x7FFFFFFF), (2, 1)])
     completes d {} 3 (.addI32 3 4 1 2 {}) { op := 0x10, d := 4, a := 1, b := 2 } (putW 4 0x80000000#32 false false) = true ∧
      completes d {} 3 (.addI32 3 4 1 2 { sat := true }) { op := 0x10, d := 4, a := 1, b := 2, enc := { sat := true } }
        (putW 4 0x7FFFFFFF#32 false true) = true ∧
      completes d {} 3 (.subQ15x2 3 4 2 1 {}) { op := 0x17, d := 4, a := 2, b := 1 } (putW 4 0x80010002#32 false false) = true) ∧
    (let d := kcore 35 (ws [(1, 0x80000000), (2, 33)])
     completes d {} 35 (.sra 35 1 1 2 {}) { op := 0x26, d := 1, a := 1, b := 2 } (putW 1 0xC0000000#32 false false) = true ∧
      completes d {} 35 (.sltu 35 1 1 2 {}) { op := 0x2B, d := 1, a := 1, b := 2 } (putW 1 0#32 false false) = true ∧
      completes d {} 35 (.slt 35 1 1 2 {}) { op := 0x2A, d := 1, a := 1, b := 2 } (putW 1 1#32 false false) = true) := by decide +kernel

/-- `Obligations.AluOneRegister`: an immediate, a clamped absolute value, a guard byte and a rounding. -/
theorem wit_alu1 :
    (let d := kcore 3 (fun c => setM 5 { v := 0xFF0000000180000000 } (ws [(1, 0x80000000), (2, 0x1234)] c))
     completes d {} 3 (.movhi 3 2 0xABCD {}) { op := 3, d := 2, imm := 0xABCD } (putW 2 0xABCD1234#32 false false) = true ∧
      completes d {} 3 (.absQ31 3 4 1 {}) { op := 0x1B, d := 4, a := 1 } (putW 4 0x7FFFFFFF#32 false true) = true ∧
      completes d {} 3 (.clz 3 4 2 {}) { op := 0x2E, d := 4, a := 2 } (putW 4 19#32 false false) = true ∧
      completes d {} 3 (.mvmG 3 4 5 {}) { op := 6, d := 4, a := 5 } (putW 4 0xFFFFFFFF#32 false false) = true ∧
      completes d {} 3 (.rndQ31 3 4 5 {}) { op := 7, d := 4, a := 5 } (putW 4 0x80000000#32 false true) = true ∧
      completes d {} 3 (.nop 3 {}) { op := 0 } (fun c => c) = true) := by decide +kernel

/-- A write of a wide register at the first position. -/
def newM (n v : Nat) (c : Core) : Core := { c with mNew := [{ reg := n, pos := 0, val := { v := v } }] }

/-- `Obligations.MultiplierResults`: a product, a clamped accumulation, an accumulator, and when a write is seen (R356). -/
theorem wit_mul :
    (let d := kcore 3 (fun c => setAcc 2 { v := 7 } (setM 5 { v := 0x7FFFFFFFFFFFFFFFFF } (ws [(1, 0xFFFFFFFF), (2, 2)] c)))
     completes d {} 3 (.mulI32 3 4 1 2 {}) { op := 0x40, d := 4, a := 1, b := 2 } (newM 4 0xFFFFFFFFFFFFFFFFFE) = true ∧
      completes d {} 3 (.mulU32 3 4 1 2 {}) { op := 0x41, d := 4, a := 1, b := 2 } (newM 4 0x1FFFFFFFE) = true ∧
      completes d {} 3 (.macQ31 3 5 2 2 {}) { op := 0x45, d := 5, a := 2, b := 2 } (fun c => setSr 14 1#32 (newM 5 0x7FFFFFFFFFFFFFFFFF c)) = true ∧
      completes d {} 3 (.accSub 3 2 6 {}) { op := 0x4B, d := 2, a := 6 } (setAcc 2 { v := 7 }) = true ∧
      completes d {} 3 (.clrM 3 5 {}) { op := 0x49, d := 5 } (newM 5 0) = true) ∧
    mSeen 3 { newM 4 9 {} with pos := 4 } 4 = { v := 9 } ∧ mSeen 3 { newM 4 9 {} with pos := 3 } 4 = {} ∧
    mSeen 35 { newM 4 9 {} with pos := 2 } 4 = { v := 9 } := by decide +kernel

/-- Bytes in the data memory of core 3. -/
def sram (a : Nat) (bs : List Byte) : Memory := setBytes (match coreTarget (kcore 3 (fun c => c)) 3 a with | some t => t.addr | none => 0) bs {}

/-- `Obligations.LoadsAndStores`, loads: no fault, the bytes, the result with its sign. -/
theorem wit_load :
    (let d := kcore 3 (ws [(1, 0x100)])
     let m := sram 0x102 [0x80, 0xFF, 1, 2, 3, 4]
     let i : KInst := { op := 0x52, d := 4, a := 1, imm := 2 }
     let j : KInst := { op := 0x58, d := 4, a := 1, imm := 0 }
     lsuFault (fetched d m 3 (positionLen 3 [i])) 3 (coreOf d 3) i = none ∧
      (loadParts 3 true m (lsuParts (coreOf d 3) i) [] (fetched d m 3 (positionLen 3 [i]))).1 = .ok [0x80, 0xFF] false ∧
      (loadParts 3 true m (lsuParts (coreOf d 3) i) [] (fetched d m 3 (positionLen 3 [i]))).2.1 = [] ∧
      issues d m 3 i = true ∧ wOf (coreOf (devOf (exec (.ldH 3 4 1 2 {}) ⟨d, m, [], []⟩)) 3) 4 = { v := 0xFFFFFF80 } ∧
      issues d m 3 j = true ∧ wOf (coreOf (devOf (exec (.ldD 3 4 1 0 {}) ⟨d, m, [], []⟩)) 3) 4 = { v := 0xFF800000 } ∧
      wOf (coreOf (devOf (exec (.ldD 3 4 1 0 {}) ⟨d, m, [], []⟩)) 3) 5 = { v := 0x04030201 }) := by decide +kernel

/-- `Obligations.LoadsAndStores`, stores: one part, and two across an 8-byte boundary. -/
theorem wit_store :
    (let d := kcore 3 (ws [(1, 0x100), (2, 0xCAFEF00D)])
     let i : KInst := { op := 0x57, d := 2, a := 1, imm := 4 }
     let j : KInst := { op := 0x57, d := 2, a := 1, imm := 6 }
     lsuFault (fetched d {} 3 (positionLen 3 [i])) 3 (coreOf d 3) i = none ∧ issues d {} 3 i = true ∧
      ((coreOf (devOf (exec (.stW 3 2 1 4 {}) ⟨d, {}, [], []⟩)) 3).sb.map StoreEnt.bytes) = [[0x0D, 0xF0, 0xFE, 0xCA]] ∧
      lsuFault (fetched d {} 3 (positionLen 3 [j])) 3 (coreOf d 3) j = none ∧ issues d {} 3 j = true ∧
      ((coreOf (devOf (exec (.stW 3 2 1 6 {}) ⟨d, {}, [], []⟩)) 3).sb.map (fun x => (x.core, x.bytes))) =
        [(0x106, [0x0D, 0xF0]), (0x108, [0xFE, 0xCA])]) := by decide +kernel

/-- `Obligations.LongOperations`: quotients, a division by zero, a root, and completion. -/
theorem wit_long :
    (let d := kcore 3 (ws [(1, 0xFFFFFFF9), (2, 2), (4, 0x40000000)])
     let one := fun (w : Word) (z : Option Word) (s : Bool) (c : Core) =>
       { c with longs := [{ wdst := some 5, adst := none, res := { v := w.toNat }, sat := s, zero := z }] }
     completes d {} 3 (.divI32 3 5 1 2 {}) { op := 0x60, d := 5, a := 1, b := 2 } (one 0xFFFFFFFD none false) = true ∧
      completes d {} 3 (.remI32 3 5 1 2 {}) { op := 0x62, d := 5, a := 1, b := 2 } (one 0xFFFFFFFF none false) = true ∧
      completes d {} 3 (.divU32 3 5 1 0 {}) { op := 0x61, d := 5, a := 1, b := 0 } (one 0 (some 0x10000000) false) = true ∧
      completes d {} 3 (.sqrtQ31 3 5 4 {}) { op := 0x65, d := 5, a := 4 } (one 0x5A82799A none false) = true ∧
      completes d {} 3 (.sqrtQ31 3 5 1 {}) { op := 0x65, d := 5, a := 1 } (one 0 none true) = true) ∧
    (let l : LongOp := { wdst := some 5, adst := none, res := { v := 9 }, sat := true, zero := some 0x10000010 }
     let d := kcore 3 (fun c => { c with longs := [l] })
     let c := coreOf (run (.longOpComplete 3) d) 3
     calm d = true ∧ (coreOf d 3).longs = [l] ∧ wOf c 5 = { v := 9 } ∧ srOf c 14 = 1#32 ∧
      c.imprecise = [{ desc := 7, xaddr := 0x10000010, detail := 0 }]) := by decide +kernel

/-- `Obligations.BranchesAndCalls`: branches taken and not, a call, its return, and a loop. -/
theorem wit_flow :
    (let d := kcore 3 (ws [(1, 5), (2, 0xFFFFFFFF), (3, 0x10000100)])
     completes d {} 3 (.b 3 0x40 {}) { op := 0x70, imm := 0x40 } (fun c => { c with pc := 0x10000040 }) = true ∧
      completes d {} 3 (.bz 3 1 0x40 {}) { op := 0x75, a := 1, imm := 0x40 } (fun c => c) = true ∧
      completes d {} 3 (.cblt 3 2 1 0x40 {}) { op := 0x79, d := 2, a := 1, imm := 0x40 } (fun c => { c with pc := 0x10000040 }) = true ∧
      completes d {} 3 (.cbltu 3 2 1 0x40 {}) { op := 0x7B, d := 2, a := 1, imm := 0x40 } (fun c => c) = true ∧
      completes d {} 3 (.callr 3 3 {}) { op := 0x74, a := 3 } (fun c => { c with pc := 0x10000100, stack := [c.pc] }) = true ∧
      completes d {} 3 (.loop 3 1 0x40 {}) { op := 0x7D, a := 1, imm := 0x40 }
        (fun c => setSr 11 5 (setSr 10 0x10000040 (setSr 9 c.pc c))) = true) ∧
    (let d := kcore 35 (fun c => { c with stack := [0x10000200] })
     completes d {} 35 (.ret 35 { unit := 4 }) { op := 0x72, enc := { unit := 4 } } (fun c => { c with pc := 0x10000200, stack := [] }) = true ∧
      completes d {} 35 (.cbge 35 1 2 4 { unit := 4 }) { op := 0x7A, a := 1, b := 2, imm := 4, enc := { unit := 4 } } (fun c => { c with pc := 0x10000010 }) = true) := by
  decide +kernel

/-- A descriptor: handler, stack, and attributes with VALID. -/
def descAt (n : Nat) (attr : Word) : Memory :=
  sram (16 * n) (bytesLE 4 0x10000400 ++ bytesLE 4 0x800 ++ bytesLE 4 attr.toNat)
/-- Core 3 in M or U, its vectors at 0 of its data memory. -/
def level (pl : Word) : Device := kcore 3 (fun c => setSr 0 pl (ws [(1, 0x1C0)] c))

/-- The descriptor of a request is read without fault, and its stack has room for the frame. -/
def roomFor (k : Nat) (m : Memory) (d : Device) (r : EntryReq) : Bool :=
  match readDesc k r.desc m [] d with
  | (.good x, [], _) =>
    let c := coreOf d k
    decide ((srOf c (if entryOwner c r x = 0 then 8 else if entryOwner c r x = 1 then 7 else 6)).toNat + 16 ≤ entrySp c r x) &&
      frameOk k (entrySp c r x - 16) && decide (x.pl < 4 ∧ x.ipl < 16 ∧ r.prio < 16)
  | _ => false

/-- `Obligations.SystemInstructions`: mfs, mts, wait, barrier and a trap. -/
theorem wit_system :
    (let d := level 3
     completes d {} 3 (.mfs 3 4 0 {}) { op := 0x82, d := 4, a := 0 } (setW 4 { v := 3 }) = true ∧
      mtsLevel 6 ≤ plOf (coreOf d 3) ∧ completes d {} 3 (.mts 3 6 1 {}) { op := 0x83, d := 6, a := 1 } (setSr 6 (0x1C0 &&& srMask 6)) = true ∧
      completes d {} 3 (.wait 3 {}) { op := 0x80 } (fun c => { c with waiting := true }) = true ∧
      completes d {} 3 (.barrier 3 {}) { op := 0x81 } (fun c => c) = true) ∧
    (let d := level 0
     let m := descAt 69 0x80000101
     let i : KInst := { op := 0x7E, imm := 5 }
     let b := fetched d m 3 (positionLen 3 [i])
     let req : EntryReq := { desc := 69, xpc := 0x10000000#32 + wd (positionLen 3 [i]), detail := 0, xaddr := 0#32, prio := 0, rep := none }
     issues d m 3 i = true ∧ calm b = true ∧ roomFor 3 m b req = true ∧
      (let c := coreOf (devOf (exec (.trap 3 5 {}) ⟨d, m, [], []⟩)) 3
       c.pc = 0x10000400#32 ∧ srOf c 0 = 0x105#32 &&& 0xF7#32 ∧ srOf c 1 = 0x10000000#32 + wd (positionLen 3 [i]) ∧
        srOf c 2 = 0x80000045#32 ∧ (wOf c 31).v = 0x7F0#32)) := by decide +kernel

/-- `Obligations.SystemInstructions`, retx: a frame on the stack, and what it restores. -/
theorem wit_retx :
    (let d := kcore 3 (fun c => setSr 0 3 (ws [(31, 0x7F0)] c))
     let m := sram 0x7F0 (bytesLE 4 0x10000123 ++ bytesLE 4 0 ++ bytesLE 4 0x80000045 ++ bytesLE 4 0)
     let i : KInst := { op := 0x7F }
     let f := fetched d m 3 (positionLen 3 [i])
     plOf (coreOf d 3) = 3 ∧ issues d m 3 i = true ∧ accessFault f 3 false true (frameParts (coreOf d 3)) = none ∧
      (match (loadParts 3 true m (frameParts (coreOf d 3)) [] f).1 with | .ok fr p => decide (frameFault (coreOf d 3) fr p = none) | _ => false) = true ∧
      (coreOf (devOf (exec (.retx 3 {}) ⟨d, m, [], []⟩)) 3).pc = 0x10000123#32 ∧
      srOf (coreOf (devOf (exec (.retx 3 {}) ⟨d, m, [], []⟩)) 3) 0 = 0#32) := by decide +kernel

/-- `Obligations.HandlerEntry`, `Obligations.ReturnStackUnderflow` (R388): a ret with nothing on the return stack. -/
theorem wit_entry :
    (let d := level 3
     let m := descAt 6 0x80000003
     let i : KInst := { op := 0x72 }
     issues d m 3 i = true ∧ (coreOf d 3).stack = [] ∧
      roomFor 3 m d { desc := 6, xpc := 0x10000000#32, detail := 2, xaddr := 0#32, prio := 0, rep := none } = true ∧
      (let c := coreOf (devOf (exec (.ret 3 {}) ⟨d, m, [], []⟩)) 3
       c.pc = 0x10000400#32 ∧ srOf c 1 = 0x10000000#32 ∧ srOf c 2 = 0x82000006#32)) := by decide +kernel

/-- `Obligations.CoreControl`, CTL and the caches (R342, R415). -/
theorem wit_start :
    (let d := at' .configure 0 (dv [(pgCore 3, Reg.CORE.START_PC, 0x10000040)])
     calm d = true ∧ accepts d (pgCore 3) Reg.CORE.CTL (withOnes (host 2) 1#32) = true ∧ coreCtl d 3 0 = false ∧
      (coreOf (run (.coreStart 3 (host 2)) d) 3).pc = 0x10000040#32 ∧ srOf (coreOf (run (.coreStart 3 (host 2)) d) 3) 0 = 0x103#32) ∧
    (let d := kcore 3 (fun c => { c with dcache := [{ line := 1, bytes := [], bad := [] }], icache := [{ line := 2, bytes := [], bad := [] }] })
     accepts d (pgCore 3) Reg.CORE.CTL (withOnes (host 2) 1#32) = true ∧ coreCtl d 3 0 = true ∧ coreCtl d 3 1 = false ∧
      (run (.coreStart 3 (host 2)) d).resp = .error (.refused 0x80) ∧
      accepts d (pgCore 3) Reg.CORE.CACHE_CTL (host 0) = true ∧ (coreOf (run (.cacheDinv 3 (host 0)) d) 3).dcache = [] ∧
      (coreOf (run (.cacheDinv 3 (host 0)) d) 3).icache ≠ [] ∧ (coreOf (run (.cacheIinv 3 (host 0)) d) 3).icache = []) := by decide +kernel

/-- A core halted under debug, w5 selected. -/
def halted : Device := wr (pgCore 3) Reg.CORE.DBG_RSEL 5 (wrB (pgCore 3) Reg.CORE.STAT 2 true (kcore 3 (ws [(5, 77)])))

/-- `Obligations.CoreControl`, debug (R344, R420). -/
theorem wit_debug :
    (let d := kcore 3 (fun c => c)
     calm d = true ∧ accepts d (pgCore 3) Reg.CORE.DBG (host 1) = true ∧ coreRuns d 3 = true ∧
      haltDue (run (.dbgHalt 3 (host 0)) d) 3 = true ∧ (coreOf (longsDone 3 d) 3).imprecise = [] ∧
      coreHalted (run (.haltTakesEffect 3) (run (.dbgHalt 3 (host 0)) d)) 3 = true) ∧
    coreHalted halted 3 = true ∧ calm halted = true ∧ accepts halted (pgCore 3) Reg.CORE.DBG (host 2) = true ∧
    coreHalted (run (.dbgResume 3 (host 0)) halted) 3 = false ∧ (coreOf (run (.dbgStep 3 (host 0)) halted) 3).stepping = true ∧
    pageMapped halted (pgCore 3) = true ∧ dbgSel halted 3 = 5 ∧ (run (.dbgRdataAccess 3 false (host 0).who none) halted).resp = .data 77 false ∧
    rdF (run (.dbgRdataAccess 3 true (host 0).who none) (kcore 3 (fun c => c))) (pgCore 3) hERR_CODE 0 8 = 0x81 ∧
    accepts halted (pgCore 3) Reg.CORE.DBG_RDATA (host 9) = true ∧
    wOf (coreOf (run (.dbgRdataAccess 3 false (host 0).who (some (host 9))) halted) 3) 5 = { v := 9 } ∧
    accepts halted (pgCore 3) Reg.CORE.DBG_RTAG (host 1) = true ∧
    wOf (coreOf (run (.dbgRdataAccess 3 true (host 0).who (some (host 1))) halted) 3) 5 = { v := 77, p := true } := by decide +kernel

/-- `Obligations.CoreControl`, the halt (R344, log 30): long operations complete at it, and one that divided by zero has its exception first. -/
theorem wit_halt :
    (let l : LongOp := { wdst := some 5, adst := none, res := { v := 9 }, sat := false, zero := none }
     let d := kcore 3 (fun c => { c with haltReq := true, longs := [l] })
     calm d = true ∧ haltDue d 3 = true ∧ (coreOf d 3).longs.all (fun x => x.zero.isNone) = true ∧
      (let e := run (.haltTakesEffect 3) d
       coreHalted e 3 = true ∧ rd e (pgCore 3) Reg.CORE.HALT_PC = 0x10000000#32 ∧ rdB e (pgCore 3) hIRQ_RAW 0 = true ∧
        wOf (coreOf e 3) 5 = { v := 9 } ∧ (coreOf e 3).longs = [])) ∧
    (let l : LongOp := { wdst := some 5, adst := none, res := { v := 0 }, sat := false, zero := some 0x10000010 }
     let d := kcore 3 (fun c => { c with haltReq := true, longs := [l] })
     let e := run (.haltTakesEffect 3) d
     calm d = true ∧ haltDue d 3 = true ∧ (coreOf d 3).longs = [l] ∧ coreHalted e 3 = false ∧
      (coreOf e 3).imprecise = [{ desc := 7, xaddr := 0x10000010, detail := 0 }] ∧ (coreOf e 3).haltReq = true) := by decide +kernel

/-- `Obligations.CoreControl`, lines; `Obligations.CoreBoundaries`, an interrupt that enters (R416). -/
theorem wit_line :
    (let d := wr (pgIcu 3) (Reg.ICU.SRC 40) 0x20000 (wr (pgIcu 3) Reg.ICU.EN_HI 0x100
        (kcore 3 (fun c => setSr 0 7 { c with waiting := true })))
     let e := run (.icuSet 3 true (host 0x100)) d
     calm d = true ∧ accepts d (pgIcu 3) Reg.ICU.SET_HI (host 0x100) = true ∧ linePend e 3 40 = true ∧ (coreOf e 3).waiting = false ∧
      interruptDue e 3 = true ∧ bestLine e 3 = some 40 ∧ calm e = true ∧ (coreOf e 3).longs = [] ∧ (coreOf e 3).sb = [] ∧
      roomFor 3 (descAt 232 0x80000003) e { desc := 232, xpc := (coreOf e 3).pc, detail := 2, xaddr := 0#32, prio := 2, rep := none } = true ∧
      (let c := coreOf (devOf (exec (.interruptEntry 3) ⟨e, descAt 232 0x80000003, [], []⟩)) 3
       c.pc = 0x10000400#32 ∧ fld (srOf c 0) 4 4 = 2 ∧ srOf c 2 = 0x820000E8#32)) := by decide +kernel

/-- `Obligations.CoreBoundaries`: a store drains; an imprecise exception enters. -/
theorem wit_boundary :
    (let d := kcore 3 (ws [(1, 0x100), (2, 0xCAFEF00D)])
     let e := run (.stW 3 2 1 4 {}) d
     (match sbHead (coreOf e 3) false with
      | some x => decide ((coreOf e 3).sb.find? (fun y => decide (y.id = x.id)) = some x ∧ sbReady e x = true ∧ x.dest = none ∧
          x.poison = false ∧ cleanAt e {} x.addr x.bytes.length = true ∧ (writeAt (coreReq e 3) x.addr x.bytes [x.poison] (e, {})).2.1 = stOk)
      | none => false) = true ∧ (coreOf e 3).dcache = [] ∧ calm e = true ∧
      (coreOf (run (.storeDrain 3 false) e) 3).sb = [] ∧
      memOf (exec (.storeDrain 3 false) ⟨e, {}, [], []⟩) = sram 0x104 [0x0D, 0xF0, 0xFE, 0xCA]) ∧
    (let d := kcore 3 (fun c => setSr 0 3 { c with imprecise := [{ desc := 8, xaddr := 1, detail := 3 }, { desc := 7, xaddr := 2, detail := 0 }] })
     calm d = true ∧ (coreOf d 3).longs = [] ∧ (coreOf d 3).sb = [] ∧
      roomFor 3 (descAt 7 0x80000003) d { desc := 7, xpc := (coreOf d 3).pc, detail := 0, xaddr := 2, prio := 0, rep := none } = true ∧
      impreciseDue d 3 = true ∧ nextImprecise (coreOf d 3) = some { desc := 7, xaddr := 2, detail := 0 } ∧
      (let c := coreOf (devOf (exec (.impreciseEntry 3) ⟨d, descAt 7 0x80000003, [], []⟩)) 3
       c.pc = 0x10000400#32 ∧ srOf c 2 = 0xC0000007#32 ∧ c.imprecise = [{ desc := 8, xaddr := 1, detail := 3 }])) := by decide +kernel

/-- `Obligations.CoreBoundaries`: a store to bulk SRAM reaches the line that holds it (R318). -/
theorem wit_drain_line :
    (let y : CacheLine := { line := 0x40000000 / 64, bytes := List.replicate 64 0#8, bad := List.replicate 8 false }
     let d := kcore 3 (fun c => { ws [(1, 0x40000008), (2, 0xCAFEF00D)] c with dcache := [y] })
     let x : StoreEnt := { id := 0, core := 0x40000008, dest := none, addr := bulkBase + 8, bytes := [0x0D, 0xF0, 0xFE, 0xCA], poison := false, page := false, sent := false }
     let e := setCore 3 { coreOf d 3 with sb := [x] } d
     calm e = true ∧ sbHead (coreOf e 3) false = some x ∧ sbReady e x = true ∧ cleanAt e {} x.addr 4 = true ∧
      findLine (coreOf e 3).dcache (0x40000008 / 64) = some y ∧ (lineWord y 1).outcome = .clean ∧
      (coreOf (run (.storeDrain 3 false) e) 3).sb = [] ∧
      ((coreOf (run (.storeDrain 3 false) e) 3).dcache.map (fun z => slice z.bytes 8 5)) = [[0x0D, 0xF0, 0xFE, 0xCA, 0]] ∧
      memByte (memOf (exec (.storeDrain 3 false) ⟨e, {}, [], []⟩)) (bulkBase + 11) = 0xCA#8) := by decide +kernel

/-- The premises of `entryReady`, but for the room that `roomFor` shows. -/
def entered3 (d : Device) (m : Memory) (r : EntryReq) : Bool :=
  decide ((coreOf d 3).longs = [] ∧ (coreOf d 3).sb = []) && descReady d m 3 r.desc &&
    coreClean d m 3 (entrySp (coreOf d 3) r (storedDesc d m 3 r.desc) - 16) 16 && roomFor 3 m d r

/-- `Obligations.CoreBoundaries`, both entries: the descriptor and the frame lie in clean words of the core's data memory (R398, R401). -/
theorem wit_entry_ready :
    (let d := kcore 3 (fun c => setSr 0 3 { c with imprecise := [{ desc := 7, xaddr := 2, detail := 0 }] })
     entered3 d (descAt 7 0x80000003) { desc := 7, xpc := (coreOf d 3).pc, detail := 0, xaddr := 2, prio := 0, rep := none } = true) ∧
    (let d := wr (pgIcu 3) (Reg.ICU.SRC 40) 0x20000 (wr (pgIcu 3) Reg.ICU.EN_HI 0x100 (wr (pgIcu 3) Reg.ICU.PEND_HI 0x100
        (kcore 3 (fun c => setSr 0 7 c))))
     let e := run (.interruptEntry 3) d
     interruptDue d 3 = true ∧ bestLine d 3 = some 40 ∧
      entered3 d (descAt 232 0x80000003) { desc := 232, xpc := (coreOf d 3).pc, detail := 2, xaddr := 0#32, prio := 2, rep := none } = true ∧
      (match exec (.interruptEntry 3) ⟨d, descAt 232 0x80000003, [], []⟩ with
       | .next t => !linePend t.dev 3 40 && decide (rd t.dev (pgIcu 3) Reg.ICU.TAKEN = 296#32)
       | _ => false) = true ∧ (coreOf e 3).sb = []) := by decide +kernel

/-- `Obligations.LoadsAndStores`, by where the bytes lie: clean words of the core's data memory. -/
theorem wit_clean_load :
    (let d := kcore 3 (ws [(1, 0x100)])
     let m := sram 0x102 [0x80, 0xFF, 1, 2, 3, 4]
     let i : KInst := { op := 0x52, d := 4, a := 1, imm := 2 }
     let f := fetched d m 3 (positionLen 3 [i])
     (wOf (coreOf d 3) 1).p = false ∧ issues d m 3 i = true ∧ coreClean f m 3 0x102 2 = true ∧ calm f = true ∧ 0x102 + 2 ≤ sramSize 3) := by
  decide +kernel

/-- An enabled scrubber over 16 bytes at address 0x1000 of bulk SRAM. -/
def scrub0 : Device := at' .configure 4096 (dv [(pgScrub 0, hPAGE_CTL, 1), (pgScrub 0, Reg.SCRUB.START_LO, 0x1000), (pgScrub 0, Reg.SCRUB.START_HI, 1), (pgScrub 0, Reg.SCRUB.LEN, 16)])

/-- `Obligations.ScrubPasses`: a start, one that is refused, a range that is none; a clean word, and the last of a pass. -/
theorem wit_scrub :
    calm scrub0 = true ∧ enabled scrub0 (pgScrub 0) = true ∧ accepts scrub0 (pgScrub 0) Reg.SCRUB.CTL (withOnes (host 0) 3#32) = true ∧
    scrubRun scrub0 0 = none ∧ (scrubRange scrub0 0x100001000 16).isSome = true ∧
    (let d := run (.scrubRepair 0 (host 0)) scrub0
     (scrubRun d 0).map (fun x => (x.word, x.left, x.repair)) = some (0x20000200, 2, true) ∧
      (run (.scrubReport 0 (host 0)) d).resp = .error (.refused 0x81) ∧
      (let e := run (.scrubWord 0) { d with time := { d.time with now := 8192 } }
       scrubReady { d with time := { d.time with now := 8192 } } 0 = true ∧ ramOk d 0x100001000 = true ∧ rd e (pgScrub 0) Reg.SCRUB.WORDS = 1#32 ∧
        (let f := run (.scrubWord 0) { e with time := { e.time with now := 16384 } }
         scrubRun f 0 = none ∧ rdB f (pgScrub 0) hIRQ_RAW 0 = true))) ∧
    (let d := wr (pgScrub 0) Reg.SCRUB.LEN 12 scrub0
     scrubRange d 0x100001000 12 = none ∧ rdF (run (.scrubReport 0 (host 0)) d) (pgScrub 0) hERR_CODE 0 8 = 0x80) := by decide +kernel

/-- A pass in REPAIR mode at word 0x20000200. -/
def repairing (left : Nat) : Device :=
  setScrub 0 (some { word := 0x20000200, left := left, repair := true, lastAt := 0, ueSeen := false, id := 0, base := 0 }) scrub0

/-- `Obligations.ScrubPasses`: a word damaged in one byte is counted and written back (R421, R440). -/
theorem wit_scrub_repair :
    (let m : Memory := { cells := [(0x100001000, 0x41#8)], faults := SMap.set (fun _ => {}) [] 0x20000200 { poison := false, damage := 0xFF } }
     (decodeWord m 0x20000200).outcome = .corrected ∧ (decodeWord m 0x20000200).data = 0xBE ∧
      (match exec (.scrubWord 0) ⟨repairing 2, m, [], []⟩ with
       | .next t => rd t.dev (pgScrub 0) Reg.SCRUB.CE == 1#32 && memByte t.mem 0x100001000 == 0xBE#8 && decide (t.mem.faults = [])
       | _ => false) = true) := by decide +kernel

/-- The nine digits at the start of bulk SRAM. -/
def digits : Memory := setBytes bulkBase [0x31, 0x32, 0x33, 0x34, 0x35, 0x36, 0x37, 0x38, 0x39] {}
/-- CVU2 over them with CRC-16/IBM-3740. -/
def crc16 : Device := at' .configure 4096 (dv [(pgCvu 2, hPAGE_CTL, 1), (pgCvu 2, Reg.CVU.CFG, 0x0F00), (pgCvu 2, Reg.CVU.POLY_LO, 0x1021),
  (pgCvu 2, Reg.CVU.INIT_LO, 0xFFFF), (pgCvu 2, Reg.CVU.XOROUT_LO, 0), (pgCvu 2, Reg.CVU.SRC_HI, 0xFFF1), (pgCvu 2, Reg.CVU.LEN, 9)])

/-- `Obligations.CheckValues` (R444, the table's check value 0x29B1), a busy unit and a range that is none. -/
theorem wit_cvu :
    calm crc16 = true ∧ accepts crc16 (pgCvu 2) Reg.CVU.CTL (withOnes (host 0) 1#32) = true ∧ enabled crc16 (pgCvu 2) = true ∧
    cvuBusyB crc16 2 = false ∧ cvuRemote crc16 2 = false ∧ cvuBadRange crc16 2 = false ∧ scanOf crc16 2 = {} ∧
    (cvuPieces crc16 2).all (fun p => isHome crc16 (destOf p.1) && decide (localOf p.1 + p.2 ≤ 2 ^ 36) && cleanAt crc16 digits (localOf p.1) p.2) = true ∧
    (let d := devOf (exec (.cvuCompute 2 (host 0)) ⟨crc16, digits, [], []⟩)
     cvuBusyB d 2 = true ∧ calm { d with cvuBusy := [] } = true ∧ readsLeft d 2 = [] ∧ (scanOf d 2).fault = none ∧ domainOn d (pgCvu 2) = true ∧
      calm (scanReport 2 d) = true ∧ (run (.cvuCheck 2 (host 0)) d).resp = .error (.refused 0x80) ∧
      rd (devOf (exec (.cvuComplete 2) ⟨d, digits, [], []⟩)) (pgCvu 2) Reg.CVU.RES_LO = 0x29B1#32) ∧
    (let d := wr (pgCvu 2) Reg.CVU.MSG_CFG 9 (wr (pgCvu 2) Reg.CVU.CFG 0x0F02 crc16)
     cvuBadRange d 2 = true ∧ (run (.cvuMessage 2 (host 0)) d).resp = .error (.refused 0x81)) := by decide +kernel

/-- R445's table, its last two rows: CRC-32C and CRC-64/XZ of the nine digits. -/
theorem test_crc :
    (let bs : List Byte := [0x31, 0x32, 0x33, 0x34, 0x35, 0x36, 0x37, 0x38, 0x39]
     let wide := dv [(pgCvu 0, Reg.CVU.CFG, 0x3F0C), (pgCvu 0, Reg.CVU.POLY_LO, 0xA9EA3693), (pgCvu 0, Reg.CVU.POLY_HI, 0x42F0E1EB),
       (pgCvu 0, Reg.CVU.INIT_HI, 0xFFFFFFFF), (pgCvu 0, Reg.CVU.XOROUT_HI, 0xFFFFFFFF)]
     cvuValue (dv [(pgCvu 0, Reg.CVU.CFG, 0x1F0C), (pgCvu 0, Reg.CVU.POLY_LO, 0x1EDC6F41)]) 0 bs = 0xE3069283 ∧
      cvuValue wide 0 bs = 0x995DC9BBDF1939FA) := by decide +kernel

/-- A message of the spec's example: four bytes, its check field first, its counter in byte 2. -/
def message (chk : Nat) (ctr : Byte) : Memory := setBytes bulkBase (bytesBE 2 chk ++ [ctr, 0x55]) {}
/-- CVU2 as the example sets it, the last counter given. -/
def cricket (ctr : Nat) : Device :=
  crc16 |> wr (pgCvu 2) Reg.CVU.CFG 0x0F02 |> wr (pgCvu 2) Reg.CVU.LEN 4 |> wr (pgCvu 2) Reg.CVU.MSG_CFG 2 |> wr (pgCvu 2) Reg.CVU.MAXDELTA 3
    |> wr (pgCvu 2) Reg.CVU.LAST_CTR (wd (0x80000000 + ctr))
/-- The outcome and the counter that a message with a good check field leaves. -/
noncomputable def checked (last : Nat) (ctr : Byte) (spoil : Nat) : Nat × Nat :=
  let m := message (cvuValue (cricket last) 2 [ctr, 0x55] ^^^ spoil) ctr
  match exec (.cvuMessage 2 (host 0)) ⟨cricket last, m, [], []⟩ with
  | .next s => (match exec (.cvuComplete 2) s with
    | .next t => (rdF t.dev (pgCvu 2) Reg.CVU.STAT 2 3, (rd t.dev (pgCvu 2) Reg.CVU.LAST_CTR).toNat % 65536)
    | _ => (9, 0))
  | _ => (9, 0)

/-- `Obligations.CheckValues`: the six messages of the worked example of spec/12 (R450, R451). -/
theorem wit_cricket : checked 0xFE 0xFF 0 = (0, 0xFF) ∧ checked 0xFF 0xFF 0 = (1, 0xFF) ∧ checked 0xFF 2 0 = (2, 2) ∧
    checked 2 3 0x20 = (4, 2) ∧ checked 2 4 0 = (2, 4) ∧ checked 4 0x40 0 = (3, 4) := by decide +kernel

/-- `Obligations.CheckValues`: a fault of the scan, and CLR_LAST. -/
theorem wit_cvu_fault :
    (let d := { crc16 with cvuBusy := [2], cvuScan := SMap.set (fun _ => {}) [] 2 { fault := some (1, 0x123456789) } }
     scanOf d 2 = { got := [], fault := some (1, 0x123456789) } ∧ domainOn d (pgCvu 2) = true ∧ calm (scanReport 2 d) = true ∧
      rd (run (.cvuComplete 2) d) (pgCvu 2) Reg.CVU.FAULT_ADDR_LO = 0x23456789#32) ∧
    calm (cricket 5) = true ∧ accepts (cricket 5) (pgCvu 2) Reg.CVU.CTL (withOnes (without (host 0) 1#32) 2#32) = true ∧
    rd (run (.clrLast 2 (host 0)) (cricket 5)) (pgCvu 2) Reg.CVU.LAST_CTR = 5#32 := by decide +kernel

/-- Both ports up, the control engine enabled, an image running in configure. -/
def net : Device := at' .configure 4096 (dv [(pgEth 0, hPAGE_CTL, 1), (pgEth 1, hPAGE_CTL, 1), (pgUandi, hPAGE_CTL, 1),
  (pgEth 0, Reg.ETH.STAT, 1), (pgEth 1, Reg.ETH.STAT, 1)])
/-- A register that this device's fuses set, with a value: the key is put in its place. -/
def fused (p off : Nat) (v : Word) (d : Device) : Device :=
  let k := p * 4096 + off
  { d with regs := d.regs.filter (fun x => decide (x.1 < k)) ++ [(k, v)] ++ d.regs.filter (fun x => decide (k < x.1)) }
/-- The same, port 1 with the MAC address 02. -/
def netMac : Device := fused (pgEth 1) Reg.ETH.MAC_HI 0 (fused (pgEth 1) Reg.ETH.MAC_LO 2 net)
/-- A broadcast frame of a type, its payload zeros up to a length. -/
def frame (ty n : Nat) : List Byte := bytesBE 6 0xFFFFFFFFFFFF ++ bytesBE 6 2 ++ bytesBE 2 ty ++ List.replicate (n - 14) 0#8

/-- `Obligations.FramesAndPorts`, frames: a port that is down, a bad FCS, a wrong address. -/
theorem wit_frames :
    calm netMac = true ∧ ethUp netMac 1 = true ∧ asleep netMac = false ∧ ethUp (dv []) 1 = false ∧
    (let e := run (.frameReceive 1 (frame 0x800 60) false { fines := 0, fecCorr := 3, fecUncorr := 1 }) netMac
     etRd e 1 Reg.ETH.CNT_FCS = 1#32 ∧ etRd e 1 Reg.ETH.CNT_FEC_CORR = 3#32 ∧ etRd e 1 Reg.ETH.CNT_FEC_UNCORR = 1#32) ∧
    macAccepted netMac 1 5 = false ∧
    etRd (run (.frameReceive 1 (bytesBE 6 5 ++ frame 0x800 60) true { fines := 0 }) netMac) 1 Reg.ETH.CNT_DROP = 1#32 ∧
    (let e := run (.frameReceive 1 (frame 0x800 59) true { fines := 0 }) netMac
     etRd e 1 Reg.ETH.CNT_DROP = 1#32 ∧ etRd e 1 Reg.ETH.CNT_RX = 0#32) := by decide +kernel

/-- Port 1 with a receive ring of two slots at 0 of bulk SRAM, taking EAPOL. -/
def ringed : Device := wr (pgEth 1) Reg.ETH.VLAN 0x10000 (wr (pgEth 1) Reg.ETH.RAWRX_CFG 2 netMac)

/-- `Obligations.FramesAndPorts`, the receive ring: an EAPOL frame goes into its slot; with the ring full it is dropped (R473). -/
theorem wit_ring :
    etCtl ringed 1 4 = false ∧ rdB ringed (pgEth 1) Reg.ETH.VLAN 16 = true ∧ macAccepted ringed 1 0xFFFFFFFFFFFF = true ∧
    domainOn ringed (pgEth 1) = true ∧ asleep ringed = false ∧ cleanAt ringed {} bulkBase 76 = true ∧
    slotAddr (rdF ringed (pgEth 1) Reg.ETH.RAWRX_BASE 12 14 * 4096) 0 = bulkBase ∧
    (let s := exec (.frameReceive 1 (frame 0x888E 60) true { fines := 0 }) ⟨ringed, {}, [], []⟩
     calm (devOf s) = true ∧ etRd (devOf s) 1 Reg.ETH.RAWRX_WR = 1#32 ∧ rdB (devOf s) (pgEth 1) hIRQ_RAW 1 = true ∧
      bytesAt (memOf s) bulkBase 4 = [60, 0, 0, 0] ∧ bytesAt (memOf s) (bulkBase + 16) 60 = frame 0x888E 60 ∧
      etRd (run (.frameReceive 1 (frame 0x888E 60) true { fines := 0 }) (devOf s)) 1 Reg.ETH.CNT_DROP = 1#32) := by decide +kernel

/-- `Obligations.FramesAndPorts`, in SLEEP with LISTEN: a frame that is no Uandi frame is counted and dropped (R464). -/
theorem wit_frame_asleep :
    (let d := fused (pgEth 0) Reg.ETH.MAC_HI 0 (fused (pgEth 0) Reg.ETH.MAC_LO 2 (wr (pgEth 0) Reg.ETH.VLAN 0x10000
        (wr (pgEth 0) Reg.ETH.CTL (setBit (rd net (pgEth 0) Reg.ETH.CTL) 16 true) net)))
     let e := { d with sys := { d.sys with mode := .sleep } }
     let s := run (.frameReceive 0 (frame 0x888E 60) true { fines := 0 }) e
     calm e = true ∧ asleep e = true ∧ ethUp e 0 = true ∧ macAccepted e 0 0xFFFFFFFFFFFF = true ∧ etCtl e 0 4 = false ∧
      etRd s 0 Reg.ETH.CNT_RX = 1#32 ∧ etRd s 0 Reg.ETH.CNT_DROP = 1#32 ∧ s.time.wakeAt = none) := by decide +kernel

/-- A transmit ring of two slots with one frame of a length written. -/
def ringTx : Device := wr (pgEth 1) Reg.ETH.RAWTX_WR 1 (wr (pgEth 1) Reg.ETH.RAWTX_CFG 2 net)

/-- `Obligations.FramesAndPorts`, pauses, the transmit ring and link changes (R465, R467, R474). -/
theorem wit_ports :
    (ethOf net 1).wait = [] ∧ paused (wr (pgEth 1) Reg.ETH.PFC_STAT 8 net) 1 3 = true ∧
    paused (run (.pfcPauseExpiry 1 3) (wr (pgEth 1) Reg.ETH.PFC_STAT 8 net)) 1 3 = false ∧
    accepts net (pgEth 1) Reg.ETH.RAWTX_WR (host 1) = true ∧ etRd (run (.rawtxWr 1 (host 1)) net) 1 Reg.ETH.RAWTX_WR = 1#32 ∧
    rawTxReady ringTx 1 = true ∧ rawTxReady net 1 = false ∧
    (match readMem bulkBase 4 (setBytes bulkBase [64] {}) ringTx with | some x => decide (numLE x.1.bytes = 64) | none => false) = true ∧
    (let e := devOf (exec (.rawtxDone 1 0) ⟨ringTx, setBytes bulkBase [64] {}, [], []⟩)
     etRd e 1 Reg.ETH.RAWTX_RD = 1#32 ∧ rdB e (pgEth 1) hIRQ_RAW 2 = true) ∧
    etRd (devOf (exec (.rawtxDone 1 0) ⟨ringTx, setBytes bulkBase [59] {}, [], []⟩)) 1 Reg.ETH.CNT_DROP = 1#32 ∧
    ethOn net 1 = true ∧ rdB (run (.linkChg 1 0) net) (pgEth 1) Reg.ETH.STAT 0 = false ∧
    rdB (run (.linkChg 1 0) net) (pgEth 1) hIRQ_RAW 0 = true ∧
    (let e := run (.linkChg 1 9) net; rdB e (pgEth 1) Reg.ETH.STAT 3 = true ∧ rdB e (pgEth 1) hIRQ_RAW 0 = false) := by decide +kernel

/-- A peer, and the head of its next request. -/
def peer1 : Peer := { mac := 2, v6 := false, ip := 0x0A000001, port := 4000, own := 0x0A000002 }
def head (n : Nat) : UandiHead := { peer := peer1, sess := 0, poison := false, gen := 7#16, seq := BitVec.ofNat 32 n }
/-- Session 0 open for it, its next number 5, number 4 answered from the cache. -/
def open0 : Device := setSess 0 { sessOf net 0 with
  opened := true, ever := true, gen := 7, next := 5, peer := some peer1
  cache := [{ seq := 4, opcode := 0x15, status := 0, poison := false, body := [], long := false }] } net
def bulkFab : FabAddr := BitVec.ofNat 48 (0xFFF * 2 ^ 36 + bulkBase + 0x10)

/-- `Obligations.SessionSequence`: a WRITE and a READ in turn, a FENCE that is a duplicate, and a session that is not open. -/
theorem wit_sequence :
    (let q := reqOf (head 5) 0x11 (bytesBE 2 0 ++ bytesBE 6 bulkFab.toNat ++ bytesBE 4 0x01020304)
     inTurn open0 (head 5) = true ∧ waitsAbort open0 q = false ∧ calm (performReq 0 q (begun open0 (head 5) q, {})).1 = true ∧
      formatOk q = true ∧ knownOp q.opcode = true ∧ aclAllows open0 0 (reqAddr q) 4 false true = true ∧ reqHome open0 q = true ∧
      (let s := exec (.write (head 5) bulkFab 0x01020304) ⟨open0, {}, [], []⟩
       memByte (memOf s) (bulkBase + 0x10) = 4#8 ∧ (sessOf (devOf s) 0).next = 6 ∧
        ((sessOf (devOf s) 0).cache.map (fun c => (c.seq, c.status))) = [(4, 0), (5, 0)])) ∧
    calm open0 = true ∧ ethUp open0 0 = true ∧ boundTo open0 0 peer1 = true ∧
    (let c : SessRsp := { seq := 4, opcode := 0x15, status := 0, poison := false, body := [], long := false }
     calm (respondAgain 0 (reqOf (head 4) 0x15 []) c open0) = true ∧
      rd (run (.fence (head 4)) open0) pgUandi (Reg.UANDI.SESS_DUP 0) = 1#32) ∧
    (let q := reqOf (head 5) 0x15 []
     (sessOf net 0).opened = false ∧ calm (sendResponse 0 q false 0x0304 false [] net) = true) := by decide +kernel

/-- `Obligations.SessionSequence`, the nine kinds completed at home: what holds before, and the answer's status and body. -/
theorem wit_answers :
    calm open0 = true ∧ inTurn open0 (head 5) = true ∧ plainPort open0 = true ∧ isHome open0 (destOf bulkFab.toNat) = true ∧
    cleanAt open0 {} (localOf bulkFab.toNat) 8 = true ∧ aclAllows open0 0 bulkFab.toNat 8 true true = true ∧ sessRight open0 0 1 = true ∧
    (let go := fun (i : Instr) => exec i ⟨open0, setBytes (bulkBase + 0x10) [1, 2, 3, 4] {}, [], []⟩
     let last := fun (i : Instr) => (sessOf (devOf (go i)) 0).cache.getLast?.map (fun c => (c.seq, c.status, c.body))
     last (.fence (head 5)) = some (5, 0, []) ∧ (sessOf (devOf (go (.close (head 5)))) 0).opened = false ∧
      (devOf (go (.close (head 5)))).sent.length = 1 ∧ last (.read (head 5) bulkFab) = some (5, 0, [4, 3, 2, 1])) := by decide +kernel

/-- `Obligations.SessionSequence`, the kinds that write. -/
theorem wit_answers_stores :
    (let go := fun (i : Instr) => exec i ⟨open0, setBytes (bulkBase + 0x10) [1, 2, 3, 4] {}, [], []⟩
     let last := fun (i : Instr) => (sessOf (devOf (go i)) 0).cache.getLast?.map (fun c => (c.seq, c.status, c.body))
     last (.write (head 5) bulkFab 9) = some (5, 0, []) ∧ last (.rmw (head 5) bulkFab 0xFF 0x55) = some (5, 0, [4, 3, 2, 1]) ∧
      last (.readBlock (head 5) bulkFab 5) = some (5, 0, [1, 2, 3, 4, 0]) ∧
      last (.writeBlock (head 5) bulkFab 3 [7, 8, 9, 0]) = some (5, 0, bytesBE 4 3) ∧
      last (.eventSubscribe (head 5) 0 3 6) = some (5, 0, bytesBE 4 2)) := by decide +kernel

/-- `Obligations.SessionSequence`, a chunk of an image (R491). -/
theorem wit_chunk :
    (let d : Device := { open0 with sys := { open0.sys with mode := .boot, hostImage := true } }
     sessRight d 0 3 = true ∧ d.sys.received = 0 ∧ d.sys.total = none ∧ d.sys.verify = none ∧ cleanAt d {} bulkBase 4 = true ∧
      (devOf (exec (.loadImage (head 5) 0 8 false [1, 2, 3, 4]) ⟨d, {}, [], []⟩)).sys.received = 4 ∧
      memByte (memOf (exec (.loadImage (head 5) 0 8 false [1, 2, 3, 4]) ⟨d, {}, [], []⟩)) (bulkBase + 3) = 4#8) := by decide +kernel

/-- `Obligations.SessionOperations`: a READ of a page at an address that is no word's (R30). -/
theorem wit_misaligned :
    (let x := reqOf (head 5) 0x10 (bytesBE 2 0 ++ bytesBE 6 (0xFFF * 2 ^ 36 + pageBase + 4096 * pgFab + 0x41))
     let e := (performReq 0 x (open0, {})).1
     rangeOk open0 (pageBase + 4096 * pgFab + 0x41) 4 false = true ∧ pageAt (pageBase + 4096 * pgFab + 0x41) = some (pgFab, 0x41) ∧
      (sessOf e 0).cache.getLast?.map (fun c => (c.status, c.body)) = some (0, [0, 0, 0, 0]) ∧ rdF e pgFab hERR_CODE 0 8 = 3) := by decide +kernel

/-- `Obligations.SessionOperations`: statuses in their order, a READ of a page register and of memory, subscriptions, and image chunks. -/
theorem wit_operations :
    (let st := fun (op : Nat) (body : List Byte) (d : Device) =>
       ((sessOf (performReq 0 (reqOf (head 5) op body) (d, {})).1 0).cache.getLast?.map (fun c => (c.status, c.body)))
     let at48 := fun (a : Nat) => bytesBE 2 0 ++ bytesBE 6 (0xFFF * 2 ^ 36 + a)
     let sub := bytesBE 1 0 ++ [0#8] ++ bytesBE 2 9 ++ bytesLE 128 6
     st 0x77 [] open0 = some (0x0302, []) ∧ st 0x15 [1] open0 = some (0x0303, []) ∧ st 0x15 [] open0 = some (0, []) ∧
      st 0x10 (at48 bulkBase) (wr pgUandi (Reg.UANDI.ACL_ATTR 0 0) 0 open0) = some (0x0301, []) ∧
      st 0x10 (at48 0x600000000) open0 = some (0x0201, []) ∧
      st 0x10 (at48 (pageBase + 4096 * pgFab + 0x40)) (wr pgFab 0x40 0x12345678 open0) ≠ some (0, []) ∧
      st 0x10 (at48 bulkBase) open0 = some (0, [0, 0, 0, 0]) ∧ st 0x20 sub open0 = some (0, bytesBE 4 2) ∧
      (sessOf (performReq 0 (reqOf (head 5) 0x20 sub) (open0, {})).1 0).subs = 6#1024 ∧
      st 0x40 (bytesBE 4 0 ++ bytesBE 4 8 ++ [0, 0, 0, 0]) open0 = some (0x0308, []) ∧
      (sessOf (performReq 0 (reqOf (head 5) 0x02 []) (open0, {})).1 0).opened = false) ∧
    (let d : Device := { open0 with sys := { open0.sys with mode := .boot, hostImage := true } }
     let st := fun (body : List Byte) =>
       ((sessOf (performReq 0 (reqOf (head 5) 0x40 body) (d, {})).1 0).cache.getLast?.map (fun c => (c.status, c.body)))
     st (bytesBE 4 4 ++ bytesBE 4 8 ++ [0, 0, 0, 0] ++ bytesBE 4 9) = some (0x0401, []) ∧
      st (bytesBE 4 0 ++ bytesBE 4 8 ++ [0, 0, 0, 0] ++ bytesBE 4 9) = some (0, bytesBE 4 4)) := by decide +kernel

/-- `Obligations.SessionEvents`, OPEN, ABORT_FUNCTION and CREDIT. -/
theorem wit_session :
    sessRight net 0 0 = true ∧ (sessOf net 0).ever = false ∧ calm (openSession 0 (reqOf (head 9) 0x01 []) net) = true ∧
    (sessOf (run (.sessOpen (head 9)) net) 0).next = 10 ∧ sessRight (wr pgUandi (Reg.UANDI.SESS_CFG 0) 0 net) 0 0 = false ∧
    calm (sendResponse 0 (reqOf (head 9) 0x01 []) false 0x0301 false [] net) = true ∧
    (let a : FabAddr := BitVec.ofNat 48 (0xFFF * 2 ^ 36 + pageBase + 4096 * pgTmr 3)
     let x := reqOf (head 5) 0x16 (bytesBE 2 0 ++ bytesBE 6 a.toNat)
     inTurn open0 (head 5) = true ∧ formatOk x = true ∧ reqHome open0 x = true ∧ pageAt (localOf (reqAddr x)) = some (pgTmr 3, 0) ∧
      pageMapped open0 (pgTmr 3) = true ∧ aclAllows open0 0 (reqAddr x) 4 false true = true ∧
      aborting (run (.abortFunction (head 5) a) open0) (pgTmr 3) = true) ∧
    sessRight open0 0 2 = true ∧ rd (run (.credit 1 (head 0) 3 100) open0) pgStream (Reg.STREAM.LIMIT 3) = 100#32 ∧
    rd (run (.credit 1 (head 0) 3 0xFFFFFFFF) open0) pgStream (Reg.STREAM.LIMIT 3) = 0#32 := by decide +kernel

/-- Session 0 with a request at another device, sent at tick 0. -/
def remote : Device :=
  let o : OutReq := { tag := 1, dest := 9, op := 1, addr := 0, len := 4, sentAt := 0, src := .sess 0 4 }
  let d := setSess 0 { sessOf open0 0 with fly := [reqOf (head 4) 0x10 []] } open0
  { d with fab := { d.fab with out := [o] }, time := { d.time with now := 2 ^ 27 } }
/-- Session 0 with an event that has waited. -/
def waited : Device :=
  let x := sessOf open0 0
  setSess 0 { x with events := [({ source := 3, code := 0, stamp := 0 }, 0)] } open0

/-- `Obligations.SessionEvents`, a remote request that times out, events that leave HOLD, and an image that is no image. -/
theorem wit_session_end :
    (remote.fab.out.find? (fun o => decide (o.src = .sess 0 4))).isSome = true ∧ rdF remote pgUandi Reg.UANDI.REMOTE_TO 0 16 * 1280 ≤ remote.time.now ∧
    (sessOf remote 0).opening = none ∧ (sessOf remote 0).closing = false ∧
    ((sessOf (run (.remoteTimeout 0 4) remote) 0).cache.getLast?.map (fun c => c.status)) = some 0x0203 ∧
    calm (run (.remoteTimeout 0 4) remote) = true ∧ holdOver open0 0 = false ∧ holdOver waited 0 = true ∧
    (sessOf (run (.eventFrameHoldExpiry 0) waited) 0).events = [] ∧ open0.sys.verify = none ∧ run .imageVerifyDone open0 = open0 ∧
    (let d : Device := { remote with fab := {}, sys := { remote.sys with mode := .boot, hostImage := true, received := 8, total := some 8, verify := some (0, reqOf (head 4) 0x40 []) } }
     (takeImage 8 ({ d with sys := { d.sys with verify := none } }, {})).1 = none ∧
      ((sessOf (run .imageVerifyDone d) 0).cache.getLast?.map (fun c => c.status)) = some 0x0402 ∧ calm (run .imageVerifyDone d) = true) := by
  decide +kernel

/-- A record of a stream with a payload of zeros. -/
def recOf (n : Nat) : StreamRec := { kind := 1, rseq := 0, stamp := 64, flags := 0, payload := List.replicate n 0#8, closed := 0 }
/-- Stream 3, its owner session 0 open, in a state. -/
def streamed (x : Stream) : Device :=
  setStream 3 x (wr pgStream (Reg.STREAM.LIMIT 3) 10 (wr pgStream (Reg.STREAM.CFG 3) 0x80000001 (wr pgStream hPAGE_CTL 1 open0)))
/-- An open record that has waited. -/
def opened (bad : Bool) : StreamOpen := { kind := 1, stamp := 7, tick := 0, count := 1, flags := 0, bytes := [1, 2], overrun := bad }
def later (d : Device) : Device := { d with time := { d.time with now := 2 ^ 40 } }

/-- `Obligations.StreamCommands`, records and frames (R501, R503 to R505, R508, R509). -/
theorem wit_stream :
    recordFlushDue (streamed {}) 3 = false ∧
    (let d := later (streamed { cur := some (opened false) })
     recordFlushDue d 3 = true ∧ stRd (run (.recordFlushExpiry 3) d) 3 Reg.STREAM.RSEQ = 1#32 ∧
      (streamOf (run (.recordFlushExpiry 3) d) 3).staged.map (fun r => (r.stamp, r.payload)) = [(7, [1, 2])]) ∧
    (let d := later (streamed { cur := some (opened true) })
     recordFlushDue d 3 = true ∧ domainOn d pgStream = true ∧ (streamOf (run (.recordFlushExpiry 3) d) 3).staged = [] ∧
      (streamOf (run (.recordFlushExpiry 3) d) 3).gap.isSome = true) ∧
    frameFlush (later (streamed { staged := [recOf 2] })) 3 = true ∧ nextStream (later (streamed { staged := [recOf 2] })) = none ∧
    (let d := run (.frameFlushExpiry 3) (later (streamed { staged := [recOf 2] }))
     nextStream d = some 3 ∧ (sessOf d (streamOwner d 3)).peer.isSome = true ∧ stRd (run .streamFrameSend d) 3 Reg.STREAM.USED = 1#32 ∧
      (streamOf (run .streamFrameSend d) 3).staged = [] ∧ (run .streamFrameSend d).streamTurn = 4) := by decide +kernel

/-- `Obligations.StreamCommands`, a closed record behind a held one, and one with no place (R507, R509). -/
theorem wit_stream_hold :
    (let d := later (wr pgStream (Reg.STREAM.HOLD_SIZE 3) 1 (streamed { cur := some (opened false), hold := [recOf 2], holdAt := 24 }))
     let e := run (.recordFlushExpiry 3) d
     recordFlushDue d 3 = true ∧ (streamOf d 3).gap = none ∧ holdSize d 3 = 4096 ∧ (streamOf e 3).hold.map (fun r => r.payload) = [[0, 0], [1, 2]] ∧
      (streamOf e 3).spill.map (fun p => (p.1, p.2.length)) = [(bulkBase + 24, 24)] ∧ rdB e pgStream hIRQ_RAW 1 = true) ∧
    (let d := later (streamed { cur := some (opened false), staged := [recOf 32740, recOf 32740] })
     let e := run (.recordFlushExpiry 3) d
     recordFlushDue d 3 = true ∧ bit (stRd d 3 Reg.STREAM.CFG) 29 = false ∧ stRd e 3 Reg.STREAM.GAP_CNT = 1#32 ∧
      (streamOf e 3).gap = some { rseq := 0, stamp := 7, count := 1, last := 7, reason := 1, flags := 0 }) := by decide +kernel

/-- `Obligations.StreamCommands`, failover (R510, R511). -/
theorem wit_failover :
    failoverDue (streamed {}) 3 = false ∧ failbackDue (streamed {}) 3 = false ∧
    (let d := later (wr pgStream (Reg.STREAM.CFG 3) 0xC0000001 (wr (pgEth 1) Reg.ETH.STAT 0 (streamed {})))
     failoverDue d 3 = true ∧ (streamOf (run (.streamFailover 3) d) 3).onEth0 = true ∧
      rdB (run (.streamFailover 3) d) pgStream hIRQ_RAW 2 = true) ∧
    (let d := later (streamed { onEth0 := true, fence := some 0 })
     failbackDue d 3 = true ∧ (streamOf (run (.streamFailback 3) d) 3).onEth0 = false ∧ foFenceOver d 3 = true ∧
      (streamOf (run (.foFenceExpiry 3) d) 3).fence = none) := by decide +kernel

/-- A link in a state, this device numbered 5. -/
def linked (l st : Nat) (k : Link) : Device :=
  setLink l k (wr (pgLink l) Reg.LINK.CREDIT 0x08602060 (wr pgFab Reg.FAB.CTL 0 <| wr pgFab Reg.FAB.ID 5 (at' .configure 4096 (dv [(pgLink l, hPAGE_CTL, 1), (pgLink l, Reg.LINK.STAT, wd st)]))))
def long (d : Device) : Device := { d with time := { d.time with now := 2 ^ 40 } }
/-- A flit with a link sequence number. -/
def flit (t v dst n : Nat) (p : List Byte) : Flit := { typ := t, vc := v, dest := dst, src := 9, lseq := n, payload := p }

/-- `Obligations.LinkStates` (R516, R517). -/
theorem wit_link :
    (let d := linked 2 1 {}
     let e := identArrives 2 0x1122334455667788#64 9#12 6 true 3#4 true d
     d.fab.wait = [] ∧ d.fab.fences = [] ∧ lstate d 2 = 1 ∧ domainOn d (pgLink 2) = true ∧ calm e = true ∧
      lstate (run (.ident 2 0x1122334455667788#64 9#12 6 0 true 3#4 true) d) 2 = 2) ∧
    (lstate (linked 2 4 {}) 2 = 4 ∧ calm (linked 2 4 {}) = true ∧ run (.ident 2 1 9 6 0 true 0 false) (linked 2 4 {}) = linked 2 4 {}) ∧
    (let d := linked 2 3 { replay := [(flit 7 3 9 4 [], 0), (flit 7 3 9 5 [], 2)] }
     let e := run (.resume 2 { number := 5, vc := 3, credits := 2 }) (setCredit 2 3 1 d)
     lstate d 2 = 3 ∧ calm (resumeArrives 2 5 3 2 d) = true ∧ (linkOf e 2).replay = [(flit 7 3 9 4 [], 0), (flit 7 3 9 5 [], 2)] ∧
      lkRd e 2 Reg.LINK.REPLAY_CNT = 1#32 ∧ creditOf e 2 3 = 3 ∧ e.sent.take 1 = [.lctl 2 2 0 0 0] ∧ e.sent.length = 2 ∧
      (let f := setLink 2 { resumed := true } d
       (run (.resume 2 { number := 5, vc := 3, credits := 2 }) f).sent = [] ∧ fabOutMask f = 0)) ∧
    (let d := long (linked 2 2 {})
     linkUp d 2 = true ∧ lctlLate d 2 = true ∧ lstate (run (.lctlTimeout 2) d) 2 = 3 ∧
      rdF (run (.laneLockLoss 2 1) d) (pgLink 2) Reg.LINK.STAT 0 3 = 3 ∧ linkUp (linked 2 3 {}) 2 = false) ∧
    (let d := long (linked 2 3 {})
     failDue d 2 = true ∧ lstate (run (.linkFail 2) d) 2 = 4 ∧ failDue (linked 2 3 {}) 2 = false) ∧
    (let d := long (linked 2 4 {})
     retryDue d 2 = true ∧ (match (run (.linkFailedRetry 2) d).sent with | [.ident 2 0 5 _ true] => true | _ => false) = true) := by decide +kernel

/-- `Obligations.LinkControl` (R522 to R525): acknowledgement, replay, the retrain behind the eighth, timers and CRC errors. -/
theorem wit_lctl :
    (let d := linked 2 2 { replay := [(flit 7 3 9 4 [], 0), (flit 7 3 9 5 [], 0), (flit 7 3 9 6 [], 0)] }
     calm d = true ∧ linkUp d 2 = true ∧ d.fab.wait = [] ∧ resentOut d 2 5 = false ∧
      ((linkOf (run (.lctlAck 2 5 3 4) d) 2).replay.map (fun e => e.1.lseq)) = [6] ∧ creditOf (run (.lctlAck 2 5 3 4) d) 2 3 = 8 ∧
      ((linkOf (run (.lctlNak 2 5 3 0) d) 2).replay.map (fun e => (e.1.lseq, e.2))) = [(4, 0), (5, 1), (6, 1)]) ∧
    (let d := linked 2 2 { replay := [(flit 7 3 9 4 [], 8)] }
     resentOut d 2 4 = true ∧ lstate (run (.lctlNak 2 4 3 0) d) 2 = 3) ∧
    (let d := linked 2 2 {}; (linkOf d 2).lctlSent + 1280 ≤ d.time.now ∧ ackDue d 2 = true) ∧
    (let d := long (linked 2 2 { accAt := some 0, nakAt := some 0 })
     (linkOf d 2).owed = [] ∧ ackDue d 2 = true ∧ nakDue d 2 = true ∧ (run (.ackTimerExpiry 2) d).sent = [.lctl 2 0 4095 0 0] ∧
      (run (.nakRepeatExpiry 2) d).sent = [.lctl 2 1 0 0 0]) ∧
    (ackDue (linked 2 2 { lctlSent := 4096 }) 2 = false ∧ nakDue (linked 2 2 {}) 2 = false ∧ linkUp (linked 2 1 {}) 2 = false ∧
      (run (.crcErr 2) (linked 2 2 {})).sent = [.lctl 2 1 0 0 0]) := by decide +kernel

/-- A head: TAG, OP, requester, ADDR, LEN. -/
def headP (tag op a n : Nat) : List Byte :=
  bytesBE 2 tag ++ bytesBE 1 op ++ [0x80] ++ bytesBE 5 a ++ bytesBE 3 n ++ List.replicate 12 0#8
/-- Device 5 with a route to device 9 on link 2. -/
def routed (d : Device) : Device := putRoute 9 0x8002 d

/-- `Obligations.FabricMessages`, requests and responses (R519, R528 to R533). -/
theorem wit_messages :
    (let d := routed (linked 2 2 {})
     let h := flit 1 0 5 0 (headP 7 1 bulkBase 8)
     let u := (acceptAll 1 2 [h] d).1
     messageFlit 1 0 (flit 2 0 5 0 []) = false ∧ calm (badFlit 2 d) = true ∧ messageShape 1 [h] = true ∧ messageWhole [h] = true ∧
      (acceptAll 1 2 [h] d).2 = [h] ∧ partsOf u 2 0 = [] ∧
      mine u h = true ∧ headWaits (consumed 2 [h] (setParts 2 0 [] u)) h = false ∧ headLen h = 8 ∧ headOp h = 1 ∧
      headAddr h = bulkBase ∧
      (match (run (.reqMessage 2 [h]) d).sent with
       | [.unit (.flit 2 f) none, .unit (.flit 2 g) none] =>
           decide (f.typ = 2 ∧ f.dest = 9 ∧ f.src = 5 ∧ numBE (slice f.payload 0 2) = 7 ∧ numBE (slice f.payload 12 2) = 0 ∧ g.typ = 3 ∧ g.tail = true)
       | _ => false) = true ∧
      (acceptAll 1 2 [{ h with lseq := 3 }] d).2 = [] ∧ mine d { h with dest := 9 } = false ∧ calm (run (.reqMessage 2 [h]) d) = true) ∧
    (let o : OutReq := { tag := 7, dest := 9, op := 2, addr := 0, len := 4, sentAt := 0, src := .store 3 1 }
     let d := linked 2 2 {}
     let e : Device := { d with fab := { d.fab with out := [o] } }
     let h := flit 2 0 5 0 (headP 7 2 0 0)
     messageShape 2 [h] = true ∧ messageWhole [h] = true ∧ (acceptAll 2 2 [h] e).2 = [h] ∧ mine e h = true ∧ calm (run (.respMessage 2 [h]) e) = true ∧
      (run (.respMessage 2 [h]) e).fab.out = [] ∧ rd (run (.respMessage 2 [h]) d) pgFab Reg.FAB.LATE_RESP = 1#32 ∧
      calm (run (.respMessage 2 [h]) d) = true ∧
      (let f := long e
       (f.fab.out.find? (fun o => decide (o.tag = 7) && outLate f o)).isSome = true ∧ (run (.fabricReqTimeout 7) f).fab.out = [] ∧
        calm (run (.fabricReqTimeout 7) f) = true)) := by decide +kernel

/-- `Obligations.FabricMessages`, messages in parts (R520): the head waits for its data flit; a data flit without a head is dropped; a whole
request for device 9 goes on with one hop less. -/
theorem wit_message_parts :
    (let d := routed (linked 2 2 {})
     let h := { flit 1 0 5 0 (headP 7 2 bulkBase 4) with tail := false }
     let x := flit 3 0 5 1 (List.replicate 48 0#8)
     let e := run (.reqMessage 2 [h]) d
     messageShape 1 [h] = true ∧ messageWhole [h] = false ∧ calm e = true ∧ partsOf e 2 0 = [h] ∧ e.sent = [] ∧
      messageShape 1 [h, x] = true ∧ messageWhole [h, x] = true ∧ partsOf (run (.reqMessage 2 [x]) e) 2 0 = [] ∧
      (run (.reqMessage 2 [x]) e).sent.length = 1) ∧
    (let d := linked 2 2 {}
     let x := flit 3 0 5 0 []
     let e := run (.reqMessage 2 [x]) d
     (acceptAll 1 2 [x] d).2 = [x] ∧ messageShape 1 [x] = false ∧ calm e = true ∧ lkRd e 2 Reg.LINK.RX_SEQ = 1#32 ∧ e.sent = []) ∧
    (let d := routed (linked 2 2 {})
     let h := { flit 1 0 9 0 (headP 7 1 bulkBase 4) with hops := 4 }
     let e := run (.reqMessage 2 [h]) d
     mine d h = false ∧ calm e = true ∧
      (match e.sent with | [.unit (.flit 2 f) none] => decide (f.hops = 3 ∧ f.dest = 9 ∧ f.src = 9) | _ => false) = true) := by decide +kernel

/-- `Obligations.FabricMessages`, a write that is answered, and a store's response (R319, R529 to R531). -/
theorem wit_write_message :
    (let d := routed (linked 2 2 {})
     let h := { flit 1 2 5 0 (headP 7 2 bulkBase 4) with tail := false }
     let x := { flit 3 2 5 1 ([0, 0, 0, 0, 4, 3, 2, 1] ++ List.replicate 40 0#8) with tail := true }
     let s := exec (.reqMessage 2 [h, x]) ⟨d, {}, [], []⟩
     calm d = true ∧ messageShape 1 [h, x] = true ∧ messageWhole [h, x] = true ∧ [h, x].all (messageFlit 1 2) = true ∧ mine d h = true ∧ inSeq d 2 0 2 = true ∧ headOp h = 2 ∧ headLen h = 4 ∧
      headAddr h % 8 + headLen h ≤ 48 ∧ x.pmap = 0 ∧ cleanAt d {} bulkBase 4 = true ∧ freeWay d 9 2 2 = true ∧
      bytesAt (memOf s) bulkBase 4 = [1, 2, 3, 4] ∧ (bytesFrom bulkBase 4 (flitWords [x])).bytes = [1, 2, 3, 4] ∧
      lkRd (devOf s) 2 Reg.LINK.RX_SEQ = 2#32 ∧
      (devOf s).sent = [.unit (.flit 2 (sealed { respHead d 9 2 7 2 0 4 0 true with lseq := 0 })) none]) ∧
    (let o : OutReq := { tag := 7, dest := 9, op := 2, addr := 0, len := 4, sentAt := 0, src := .store 3 1 }
     let k := kcore 3 (fun c => { c with sb := [{ id := 1, core := 5, addr := 0, bytes := [1], poison := false, page := false, dest := some 9, sent := true }] })
     let d := setLink 2 {} (wr (pgLink 2) Reg.LINK.STAT 2 (wr pgFab Reg.FAB.ID 5 (wr pgFab Reg.FAB.CTL 0 k)))
     let e : Device := { d with fab := { d.fab with out := [o] } }
     let h := { flit 2 0 5 0 (headP 7 2 0 0) with payload := slice (headP 7 2 0 0) 0 12 ++ bytesBE 2 0x0201 ++ List.replicate 10 0#8 }
     calm e = true ∧ messageShape 2 [h] = true ∧ h.tail = true ∧ messageFlit 2 0 h = true ∧ mine e h = true ∧ inSeq e 2 0 1 = true ∧ numBE (slice h.payload 12 2) = 0x0201 ∧
      (coreOf (run (.respMessage 2 [h]) e) 3).imprecise = [{ desc := 8, xaddr := 5, detail := 1 }] ∧
      (coreOf (run (.respMessage 2 [h]) e) 3).sb = [] ∧
      (coreOf (run (.fabricReqTimeout 7) (long e)) 3).imprecise = [{ desc := 8, xaddr := 5, detail := 2 }]) := by decide +kernel

/-- `Obligations.FabricMessages`, the words of a trip, fences and events (R535, R537, R538, R564). -/
theorem wit_flit_effects :
    (let d := wr pgLegsys (Reg.LEGSYS.TZ_CFG 2) 4 (linked 2 2 {})
     let e := run (.tripFlit 2 0x05 9 77) d
     zoneLatched e 2 = true ∧ zoneLatched e 0 = false ∧ rd e pgLegsys (Reg.LEGSYS.TZ_CAUSE 2) = 0x60000009#32) ∧
    (let d := routed (linked 2 2 {})
     let a := flit 8 1 5 0 [1]
     mine d a = true ∧ inSeq d 2 0 1 = true ∧ freeWay d 9 3 2 = true ∧
      (match (run (.fenceFlit 2 a) d).sent with
       | [.unit (.flit 2 f) none] => decide (f.typ = 9 ∧ f.vc = 3 ∧ f.dest = 9 ∧ f.src = 5 ∧ f.payload = [1])
       | _ => false) = true) ∧
    (let d := routed (linked 2 2 {})
     let x : Fence := { dest := 9, vc := 1, byTime := false, since := 0, held := [] }
     let e : Device := { d with fab := { d.fab with fences := [x] } }
     fenceOf e 9 1 = some x ∧ e.fab.wait = [] ∧ (run (.fenceAck 2 (flit 9 3 5 0 [1])) e).fab.fences = [] ∧
      fenceOver (long e) = some x ∧ calm (long e) = true ∧ domainOn e pgFab = true ∧ rdB (run .fenceTimeout (long e)) pgFab hIRQ_RAW 1 = true) ∧
    (let d := linked 2 2 {}
     let v := flit 6 1 5 0 (List.replicate 48 0#8)
     mine d v = true ∧ inSeq d 2 0 1 = true ∧ (run (.eventFlit 2 v) d).eva.pending.map (fun e => (e.source, e.fwd)) = [(1016, true)]) ∧
    (let d := wr pgLegsys Reg.LEGSYS.TZ_LATCH 4 (wr pgLegsys (Reg.LEGSYS.TZ_CFG 2) 2 (linked 2 2 {}))
     let e := { d with legs := { d.legs with trips := [(2, (9, 77))] } }
     tripDue e = true ∧ tripOrigin e = some (9, 77) ∧ (run .tripRepeat e).sent.length = 1 ∧ (List.range 8).all (fun l => !ffArmed e l && decide ((fireflyOf e l).held = [])) = true ∧ upLinks e = [2]) := by decide +kernel

/-- `Obligations.FabricMessages`, trip flits, event flits and fences (R535, R537, R538, R564). -/
theorem wit_flits :
    (let d := wr pgLegsys (Reg.LEGSYS.TZ_CFG 2) 4 (linked 2 2 {})
     linkUp d 2 = true ∧ domainOn d pgLegsys = true ∧ (run (.tripFlit 2 0x05 9 77) d).legs.flash = 4#8 ∧ edgesOff d = true) ∧
    tripDue (linked 2 2 {}) = false ∧
    (let d := linked 2 2 {}
     let fn := flit 8 1 5 0 [1]
     let ev := flit 6 1 5 0 (List.replicate 48 0#8)
     fn.typ = 8 ∧ (acceptSeq 2 fn d).2 = true ∧ mine (acceptSeq 2 fn d).1 fn = true ∧ calm (run (.fenceFlit 2 fn) d) = true ∧
      calm (run (.eventFlit 2 ev) d) = true ∧ calm (run (.fenceAck 2 (flit 9 3 5 0 [1])) d) = true ∧
      lkRd (run (.eventFlit 2 fn) d) 2 Reg.LINK.CRC_ERR = 1#32 ∧ lkRd (run (.eventFlit 2 ev) d) 2 Reg.LINK.RX_SEQ = 1#32) ∧
    (let d := long (linked 2 2 {})
     let e : Device := { d with fab := { d.fab with fences := [{ dest := 9, vc := 0, byTime := false, since := 0, held := [] }] } }
     fenceOver d = none ∧ (fenceOver e).isSome = true ∧ (run .fenceTimeout e).fab.fences = [] ∧
      rd (run .fenceTimeout e) pgFab Reg.FAB.FENCE_TMO = 1#32 ∧ calm (run .fenceTimeout e) = true) := by decide +kernel

/-- A write from another device, which a MAINT flit brought. -/
def far (i : Fin 64) (v : Word) : Wr := { who := { devid := 0xFFF#12, kind := .session, index := i, uid := some 9#64 }, data := v, poison := false }

/-- `Obligations.MaintAndMembership`, MAINT (R541 to R543). -/
theorem wit_maint :
    (let d := wr pgFab Reg.FAB.MPATH_LO 0x20000000 (linked 2 2 {})
     let go := fun (n : Nat) => far 1 (wd (n * 2 ^ 24))
     calm d = true ∧ accepts d pgFab Reg.FAB.MCTL (maintWord (go 1) 1) = true ∧ d.fab.maint = none ∧ nibble (maintPath d) 0 = 2 ∧
      canSend d 2 3 = true ∧ (run (.maintRead (go 1)) d).fab.maint = some (0, 4096) ∧ lkRd (run (.maintRead (go 1)) d) 2 Reg.LINK.TX_SEQ = 1#32 ∧
      rd (run (.maintRead (go 0)) d) pgFab Reg.FAB.MSTAT = 0x80000303#32 ∧
      rd (run (.maintWrite (go 1)) (wr pgFab Reg.FAB.MPATH_LO 0x30000000 d)) pgFab Reg.FAB.MSTAT = 0x80000202#32 ∧
      (run (.maintRead (go 1)) (run (.maintRead (go 1)) d)).resp = .error (.refused 0x82) ∧
      (let e := run (.maintRead (go 1)) d
         let f := flit 7 3 0xFFF 0 (maintPayload 3 1 0 (List.replicate 6 0) (List.replicate 6 0) (List.replicate 8 0) 0 0 0x1234 0 0)
       mtOp f.payload = 3 ∧ mtHops f.payload ≤ mtDone f.payload + 1 ∧ mtTag f.payload = 0 ∧ (acceptSeq 2 f e).2 = true ∧
        rd (run (.maintResponse 2 f) e) pgFab Reg.FAB.MDATA = 0x1234#32 ∧ rd (run (.maintResponse 2 f) e) pgFab Reg.FAB.MSTAT = 0x80000000#32 ∧
        rd (run (.maintResponse 2 f) d) pgFab Reg.FAB.LATE_RESP = 1#32 ∧ calm (run (.maintResponse 2 f) e) = true)) ∧
    (let d := linked 2 2 {}
     let p := maintPayload 1 1 0 (List.replicate 6 0) (List.replicate 6 0) (List.replicate 8 0) 0xC0 (4096 * pgFab + Reg.FAB.ID) 0 0 0
     pageAt (pageBase + mtOff p) = some (pgFab, Reg.FAB.ID) ∧ pageMapped d pgFab = true ∧ (maintAccess p (d, {})).2 = (5, 0) ∧
      calm (run (.maintFlit 2 (flit 7 3 0xFFF 0 p)) d) = true ∧
      (let f := flit 7 3 0xFFF 0 p
       mtHops f.payload = mtDone f.payload + 1 ∧ f.payload.length = 36 ∧ inSeq d 2 0 1 = true ∧ mtOp f.payload = 1 ∧
        (match (run (.maintFlit 2 f) d).sent with
         | [.unit (.flit 2 g) none] => decide (g.typ = 7 ∧ g.vc = 3 ∧ mtOp g.payload = 3 ∧ mtData g.payload = 5 ∧ mtStatus g.payload = 0 ∧
             mtDone g.payload = 0 ∧ nibble (mtPath g.payload) 0 = 2 ∧ mtHops g.payload = 1)
         | _ => false) = true)) := by decide +kernel

/-- `Obligations.MaintAndMembership`, claims and the ID (R544, R545). -/
theorem wit_claim :
    (let d := linked 2 2 {}
     let e := run (.tgenWrite (far 1 5)) d
     accepts d pgFab Reg.FAB.TGEN (far 1 5) = true ∧ rd e pgFab Reg.FAB.TGEN = 5#32 ∧ claimant e = some (claimOf (far 1 5).who) ∧
      (run (.tgenWrite (far 1 5)) e).resp = .done ∧ (run (.tgenWrite (far 2 5)) e).resp = .error (.refused 0x81) ∧
      (run (.tgenWrite (far 1 4)) e).resp = .error (.refused 0x81) ∧ claimant (run (.tgenWrite (far 2 6)) e) = some (claimOf (far 2 0).who) ∧
      accepts e pgFab Reg.FAB.CTL (withOnes (far 1 0) 2#32) = true ∧ claimant (run (.release (far 1 0)) e) = none ∧
      notClaimant e (claimOf (far 2 0).who) = true ∧ (run (.idWrite (far 2 7)) e).resp = .error (.refused 0x80) ∧
      notClaimant e (claimOf (far 1 0).who) = false ∧ rdB e pgFab Reg.FAB.CTL 0 = false ∧ myId (run (.idWrite (far 1 7)) e) = 7) := by decide +kernel

/-- A request of a source at EVA. -/
def ev (src stamp : Nat) : EvRec := { source := src, code := 1, stamp := stamp }
/-- Requests that wait at EVA, source 3 followed by line 5 of core 7, the log on for it. -/
def waiting (xs : List EvRec) : Device :=
  let d := at' .run 4096 (dv [(pgIcu 7, Reg.ICU.SRC 5, 3), (pgEva, Reg.EVA.CTL, 1), (pgEva, Reg.EVA.LOG_MASK 0, 8)])
  { d with eva := { d.eva with pending := xs } }

/-- `Obligations.ArbiterAndFirefly` (R415, R561, R565, R566, R574 to R578). -/
theorem wit_order :
    calm (waiting []) = true ∧ domainOn (waiting []) pgEva = true ∧
    (let d := waiting [ev 9 70, ev 3 64]
     (grantSort d d.eva.pending).map EvRec.source = [3, 9]) ∧
    (let d := waiting [ev 3 64]
     (sessOf d 0).opened = false ∧ rdB d pgFab (Reg.FAB.EVFWD 0) 31 = false ∧ calm (run .evaGrant d) = true ∧
      linePend (run .evaGrant d) 7 5 = true ∧ (run .evaGrant d).eva.log.map EvRec.source = [3]) ∧
    (let d := at' .configure 4096 (dv [(pgFirefly 4, Reg.FIREFLY.SEED, 0x55), (pgFirefly 4, Reg.FIREFLY.SEEN, 9)])
     accepts d (pgFirefly 4) Reg.FIREFLY.CTL (withOnes (host 0x10000) 1#32) = true ∧
      (fireflyOf (run (.fireflyArm 4 (host 0x10000)) d) 4).lfsr = 0x55 ∧ rd (run (.fireflyArm 4 (host 0x10000)) d) (pgFirefly 4) Reg.FIREFLY.SEEN = 0#32 ∧
      (run (.fireflyArm 4 (host 0x10000)) { d with sys := { d.sys with mode := .run } }).resp = .error (.refused 0x80)) ∧
    (let f : Firefly := { held := [.flit 1 { typ := 7, vc := 3, dest := 9, src := 5 }], heldAt := 0 }
     let d := dv []
     let e : Device := { d with fab := { d.fab with firefly := SMap.set (fun _ => {}) [] 1 f }, time := { d.time with now := 2 ^ 30 } }
     ffHoldOver d 1 = false ∧ ffHoldOver e 1 = true ∧ (run (.fireflyReorderTimeout 1) e).sent.length = 1) := by decide +kernel

/-- `Obligations.PowerAndSleep`, domains (R581, R582): three refusals, a stored word, and a domain that goes off. -/
theorem wit_domains :
    (let d := at' .configure 4096 (dv [(pgCore 35, Reg.CORE.CTL, 1), (pgModg 0, hLOCK, 1)])
     calm d = true ∧ accepts d pgPwr Reg.PWR.PD_OFF_LO (host 4) = true ∧ switchMode d.sys.mode = true ∧
      (run (.pdOffWrite false (host 1)) d).resp = .error (.refused 0x80) ∧ (run (.pdOffWrite true (host 0x8000)) d).resp = .error (.refused 0x81) ∧
      (run (.pdOffWrite false (host 0x200)) d).resp = .error (.refused 0x82) ∧
      rd (run (.pdOffWrite false (host 4)) d) pgPwr Reg.PWR.PD_OFF_LO = 4#32) ∧
    (let d := at' .configure 4096 (dv [(pgPwr, Reg.PWR.PD_OFF_LO, 4)])
     fixedDomain 2 = false ∧ domainOn d pgPwr = true ∧ domainDue d 2 = true ∧ domainDue d 3 = false ∧ calm (run (.pdChg 2) d) = true ∧
      (run (.pdChg 2) d).sys.pd.getLsbD 2 = false ∧ edgesOff (run (.pdChg 2) d) = true) ∧
    switchMode (at' .sleep 0 (dv [])).sys.mode = false := by decide +kernel

/-- A device that asked for SLEEP at tick 0, every wake enabled. -/
def drowsy (x : Mode) (n : Nat) : Device :=
  let d := at' x n (dv [(pgMode, Reg.MODE.SLEEP_CFG, 0x7FF), (pgTb, Reg.TB.WAKE_CNT_LO, 1), (pgEth 0, Reg.ETH.CTL, 0x1AC01), (pgEth 0, hPAGE_CTL, 1), (pgEth 0, Reg.ETH.STAT, 1)])
  { d with sys := { d.sys with sleepReq := some (0, (host 0).who), reqWas := 6 }, tmrs := { d.tmrs with aon := [4, 4, 0] } }

/-- `Obligations.PowerAndSleep`, SLEEP and its wakes (R590 to R592). -/
theorem wit_sleep :
    sleepReady (drowsy .hold 5) = true ∧ calm (sleepEnter (drowsy .hold 5)) = true ∧ (sleepEnter (drowsy .hold 5)).sys.mode = .sleep ∧
    (sleepEnter (drowsy .hold 5)).legs.leg = (drowsy .hold 5).legs.leg ∧
    sleepReady (dv []) = false ∧ sleepLate (dv []) = false ∧ sleepLate (wr (pgCore 1) Reg.CORE.CTL 1 (drowsy .hold 1000000)) = true ∧
    (let e := run .sleepIdleTimeout (wr (pgCore 1) Reg.CORE.CTL 1 (drowsy .hold 1000000))
     rdF e pgMode hERR_CODE 0 8 = 0x82 ∧ rd e pgMode Reg.MODE.REQ = 6#32) ∧
    (let d := drowsy .sleep 5
     aonEdge d 2 = true ∧ aonEdge d 1 = false ∧ rdB d pgMode Reg.MODE.SLEEP_CFG 6 = true ∧ d.time.wakeAt = none ∧ rd (run (.wakeTio 2) d) pgMode Reg.MODE.WAKE_SRC = 0x21#32 ∧
      ethUp d 0 = true ∧ rd (run .wakeEth d) pgMode Reg.MODE.WAKE_SRC = 2#32 ∧ wakeTimerDue d = true ∧
      rd (run .wakeTimer d) pgMode Reg.MODE.WAKE_SRC = 3#32 ∧ rd (run .wakeEth (wr pgMode Reg.MODE.SLEEP_CFG 0 d)) (pgEth 0) Reg.ETH.CNT_DROP = 1#32) ∧
    (let d := drowsy .retain 5
     (run (.wakeTio 2) d).sys.mode = .boot ∧ edgesOff (run (.wakeTio 2) d) = true ∧ wakeTimerDue (wr pgMode Reg.MODE.SLEEP_CFG 0 d) = false) := by
  decide +kernel

/-- `Obligations.Modes` (R583 to R591): the four refusals, and each kind of move. -/
theorem wit_modes :
    (let d := at' .configure 4096 (dv [])
     accepts d pgMode Reg.MODE.REQ (host 5) = true ∧
      (run (.modeReqRun (host 0)) { d with sys := { d.sys with transit := some .hold } }).resp = .error (.refused 0x84) ∧
      (run (.modeReqConfigure (host 0)) d).resp = .error (.refused 0x80) ∧
      (run (.modeReqConfigure { host 0 with who := { (host 0).who with kind := .core } }) { d with sys := { d.sys with mode := .safe } }).resp =
        .error (.refused 0x81) ∧
      (run (.modeReqConfigure (host 0)) { d with sys := { d.sys with mode := .safe }, legs := { d.legs with safeNLow := true } }).resp =
        .error (.refused 0x83) ∧
      (run (.modeReqRun (host 0)) d).sys.transit = some .run ∧ calm (run (.modeReqRun (host 0)) d) = true ∧
      (run (.modeReqSafe (host 0)) d).sys.dusk = true ∧ calm (run (.modeReqSafe (host 0)) d) = true ∧
      d.sys.dawn = none ∧ (run (.modeReqSelftest ⟨host 0, {}⟩) d).sys.mode = .selftest ∧ calm (run (.modeReqSelftest ⟨host 0, {}⟩) d) = true ∧ (run (.modeReqSleep (host 0)) d).sys.sleepReq.isSome = true ∧
      (run (.modeReqRetain (host 0)) d).sys.transit = some .retain ∧
      (run (.modeReqHold (host 0)) { d with sys := { d.sys with mode := .run } }).sys.transit = some .hold) := by decide +kernel

/-- `Obligations.Modes`, MODE_CHG and DUSK_COMPLETE (R584, R588, R591). -/
theorem wit_mode_change :
    (let d := at' .configure 4096 (dv [])
     let e : Device := { d with sys := { d.sys with transit := some .run } }
     let f : Device := { d with sys := { d.sys with transit := some .retain } }
     let g : Device := { d with sys := { d.sys with dusk := true } }
     d.sys.transit = none ∧ domainOn e pgMode = true ∧ (run .modeChg e).sys.mode = .run ∧ calm (run .modeChg e) = true ∧
      (run .modeChg f).sys.mode = .retain ∧ calm (run .modeChg f) = true ∧
      memByte (memOf (exec .modeChg ⟨wr pgMode Reg.MODE.RET_MASK_LO 1 f, { cells := [(bulkBase, 5#8), (bulkBase + 0x100000, 6#8)] }, [], []⟩)) bulkBase = 5#8 ∧
      memByte (memOf (exec .modeChg ⟨wr pgMode Reg.MODE.RET_MASK_LO 1 f, { cells := [(bulkBase, 5#8), (bulkBase + 0x100000, 6#8)] }, [], []⟩)) (bulkBase + 0x100000) = 0#8 ∧
      (run .duskComplete g).sys.mode = .safe ∧ calm (run .duskComplete g) = true) := by decide +kernel

/-- `Obligations.BootAndDawn`, RESET_N (R619). -/
theorem wit_pulse :
    (let d := at' .run 4096 (dv [(pgLegsys, Reg.LEGSYS.TRIP_LVL, 3), (pgTmr 0, Reg.TMR.TOP, 9)])
     (run .resetNPulse d).sys.mode = .boot ∧ rd (run .resetNPulse d) (pgTmr 0) Reg.TMR.TOP = resetVal (pgTmr 0) Reg.TMR.TOP ∧
      memOf (exec .resetNPulse ⟨d, { cells := [(bulkBase, 5#8)] }, [], []⟩) = {}) := by decide +kernel

/-- What the silicon brings to a boot in which nothing fails, from a source of BOOTSEL, with a first flash copy. -/
def bootOf (n : Fin 8) (c : Option (List Byte)) : BootRun :=
  { straps := { dawnEn := true, root := false, bootsel := n, posid := 0 }, ticks := 5, decoders := 0, banks := 0, dawn := {}, dawnTicks := 0
    board := [], lanes := [], copy1 := c, copy2 := none }

/-- The fuses of a part without spares in use: Lean sees no value of a fuse. -/
def NoSpares : Prop := ∀ i, Config.spare i = 0#32
/-- Its step 2 of R593. -/
theorem spares_of (h : NoSpares) : applySpares = fun d => forEach (List.range 119) (fun i => wr pgMemerr (Reg.MEMERR.SPARE i) 0#32) d := by
  funext d
  unfold applySpares spareWord
  simp only [h _]
  rfl

/-- `Obligations.BootAndDawn`, RESET (R593, R594): the next step after reset boots, and a neighbour's image is waited for. -/
theorem wit_boot (h : NoSpares) :
    bootReady State.reset.dev = true ∧ (bootFirst (bootOf 2 none) State.reset.dev).sys.wakeBoot = false ∧
    (bootFirst (bootOf 2 none) State.reset.dev).sys.straps.bootsel = 2 ∧ calm (bootAll (bootOf 2 none) (State.reset.dev, {})).1 = true ∧
    (bootAll (bootOf 2 none) (State.reset.dev, {})).1.sys.bootAt.isSome = true ∧
    (bootAll (bootOf 2 none) (State.reset.dev, {})).1.legs.leg = State.reset.dev.legs.leg ∧ bootReady (at' .configure 0 (dv [])) = false := by
  unfold bootAll bootFirst
  rw [spares_of h]
  decide +kernel

/-- `Obligations.BootAndDawn`, the host's image (R594), by its strap and behind two flash copies that are no images. -/
theorem wit_boot_host (h : NoSpares) :
    calm (bootAll (bootOf 1 none) (State.reset.dev, {})).1 = true ∧ (bootAll (bootOf 1 none) (State.reset.dev, {})).1.sys.hostImage = true ∧
    calm (bootAll (bootOf 0 (some [1])) (State.reset.dev, {})).1 = true ∧
    (bootAll (bootOf 0 (some [1])) (State.reset.dev, {})).1.sys.hostImage = true ∧
    rdB (bootAll (bootOf 0 (some [1])) (State.reset.dev, {})).1 pgXspi Reg.XSPI.XSTAT 0 = true ∧
    rdF (bootAll (bootOf 0 (some [1])) (State.reset.dev, {})).1 pgBoot Reg.BOOT.STAT 0 8 ≠ 9 ∧
    hostError (bootAll (bootOf 0 (some [1])) (State.reset.dev, {})).1 4 = 9 := by
  unfold bootAll bootFirst bootFlash flashCopy flashRead
  rw [spares_of h]
  generalize Config.xspiOctal = b
  cases b <;> decide +kernel

/-- An image of one segment of 8 bytes for bulk SRAM, its key, hash and signature zeros. -/
def image : List Byte :=
  bytesBE 4 0x534B4E49 ++ bytesBE 2 1 ++ bytesBE 2 1 ++ bytesBE 4 520 ++ bytesBE 4 0 ++ List.replicate 288 0#8 ++
    bytesBE 8 (bulkBase + 0x100000) ++ bytesBE 4 0 ++ bytesBE 4 8 ++ List.replicate 200 0#8
/-- A device that waits for a neighbour's image, with any fuses. -/
def waitsImage : Device :=
  let d := at' .boot 4096 (dv [])
  { d with sys := { d.sys with bootAt := some 0, rbFuse := some 0 } }

/-- `Obligations.BootAndDawn`, an image that is accepted (R595). Lean sees no value of the hash, of the signature check or of the fuses: the
theorem says what they must answer. -/
theorem wit_image (h1 : Config.sha384 (slice image (imgTrailer image + 4) 97) = Config.keyHash (imgSlot image))
    (h2 : ¬ Config.keyRevoked (imgSlot image) = true)
    (h3 : Config.ecdsaValid (slice image (imgTrailer image + 4) 97) (Config.sha384 (image.take (imgTotal image - 200)))
      (numBE (slice image (imgTrailer image + 104) 48)) (numBE (slice image (imgTrailer image + 152) 48)) = true)
    (h4 : rbLevel waitsImage = 0) : imageError waitsImage image = 0 := by
  have a1 : ¬ (numBE (slice image 0 4) ≠ 0x534B4E49 ∨ numBE (slice image 4 2) ≠ 1 ∨ ¬ (1 ≤ imgNseg image ∧ imgNseg image ≤ 64) ∨
    63 < imgRbVer image ∨ imgTotal image < 504 + 16 * imgNseg image ∨ 0x2000000 < imgTotal image ∨ image.length < imgTotal image) := by
    decide +kernel
  have a2 : ¬ 3 < imgSlot image := by decide +kernel
  have a5 : ¬ imgRbVer image < rbLevel waitsImage := by rw [h4]; decide +kernel
  have a6 : (imgSegments image).all (segmentOk image) = true := by decide +kernel
  unfold imageError
  dsimp only
  rw [if_neg a1, if_neg (by rintro (h | h); exact a2 h; exact h h1), if_neg h2, if_neg (by rw [h3]; simp), if_neg a5, if_neg (by rw [a6]; simp)]

/-- `Obligations.BootAndDawn`, the commands of the BOOT page (R594, R597). -/
theorem wit_boot_page :
    calm waitsImage = true ∧ accepts waitsImage pgBoot Reg.BOOT.CTL (withOnes (host 0) 1#32) = true ∧
    calm (run (.verify (host 0)) waitsImage) = true ∧ (run (.verify (host 0)) waitsImage).sys.hostImage = true ∧
    (run (.verify (host 0)) (at' .configure 0 (dv []))).resp = .done ∧
    sourceLate waitsImage = false ∧ sourceLate { waitsImage with time := { waitsImage.time with now := 2 ^ 40 } } = true ∧
    rdF (run .bootSourceTimeout { waitsImage with time := { waitsImage.time with now := 2 ^ 40 } }) pgBoot Reg.BOOT.STAT 0 8 = 8 ∧
    (let d := at' .configure 0 (dv [])
     accepts d pgBoot Reg.BOOT.CTL (withOnes (host 0) 2#32) = true ∧ imageRight d (host 0).who = true ∧
      (run (.rbAdv (host 0)) d).sys.rbFuse.isSome = true ∧ (run (.rbAdv (host 0)) { d with sys := { d.sys with mode := .run } }).resp = .error (.refused 0x80) ∧
      imageRight d { (host 0).who with index := 3 } = false) := by decide +kernel

/-- `Obligations.BootAndDawn`, Dawn (R598 to R600): refused, begun, a timeout, done. -/
theorem wit_dawn :
    (let d := at' .configure 4096 (dv [(pgDawn, hPAGE_CTL, 1)])
     accepts d pgDawn Reg.DAWN.CTL (withOnes (host 0) 1#32) = true ∧ enabled d pgDawn = true ∧ inTransit d = false ∧
      (run (.dawnRun ⟨host 0, {}⟩) (wr pgDawn hPAGE_CTL 0 d)).resp = .error (.refused 0x80) ∧
      (run (.dawnRun ⟨host 0, {}⟩) { d with sys := { d.sys with mode := .run } }).resp = .done ∧
      (let e := run (.dawnRun ⟨host 0, { gate := 1#16 }⟩) d
       e.sys.mode = .selftest ∧ calm e = true ∧
        e.sys.dawn = some { back := .configure, start := 4096, step := 1, stepAt := 4096, failed := { gate := 1#16 } })) ∧
    (dv []).sys.dawn = none := by decide +kernel

/-- A run of Dawn from CONFIGURE, at a step that began at tick 4096. -/
def dawned (step now : Nat) : Device :=
  let d := at' .selftest now (dv [(pgDawn, hPAGE_CTL, 1), (pgDawn, Reg.DAWN.CTL, 1), (pgDawn, Reg.DAWN.STAT, wd step)])
  { d with sys := { d.sys with dawn := some { back := .configure, start := 4096, step := step, stepAt := 4096, failed := { gate := 1#16 } } } }

/-- `Obligations.BootAndDawn`, a slice's timeout 2 ms after the step began (R598), and the end of the last step (R599, R600). -/
theorem wit_dawn_steps :
    (run (.dawnSliceTimeout 1 1) (dawned 1 5000)) = dawned 1 5000 ∧ (run (.dawnSliceTimeout 2 1) (dawned 1 2564096)) = dawned 1 2564096 ∧
    (let e := run (.dawnSliceTimeout 1 1) (dawned 1 2564096)
     nextStep (dawned 1 2564096) 1 = 2 ∧ rdF e pgDawn Reg.DAWN.STAT 0 5 = 2 ∧
      e.sys.dawn = some { back := .configure, start := 4096, step := 2, stepAt := 2564096, failed := { gate := 1#16, ref := 1#9 } }) ∧
    calm (dawned 19 5000) = true ∧ run (.dawnDone {}) (dawned 19 5000) = dawned 19 5000 ∧
    (let e := run (.dawnDone { dl := 4#32 }) (dawned 20 5000)
     calm e = true ∧ e.sys.mode = .configure ∧ e.sys.dawn = none ∧ rd e pgDawn Reg.DAWN.F_LG = 4#32 ∧ unusable e (pgLg 2) = true ∧
      unusable e (pgLg 1) = true ∧ unusable e (pgLg 3) = false) := by decide +kernel

/-! ## Ill-formed commands -/

/-- Each check of `Instr.wf` refuses a term. -/
theorem test_ill_formed :
    let f : Flit := { typ := 1, vc := 0, dest := 0, src := 0 }
    let p : Peer := { mac := 0, v6 := false, ip := 0, port := 0, own := 0 }
    f.wf = true ∧ { f with typ := 16 }.wf = false ∧ { f with vc := 4 }.wf = false ∧ { f with dest := 4096 }.wf = false ∧
    { f with src := 4096 }.wf = false ∧ { f with lseq := 4096 }.wf = false ∧ { f with pmap := 64 }.wf = false ∧ { f with hops := 32 }.wf = false ∧
    { f with payload := List.replicate 53 0#8 }.wf = false ∧
    p.wf = true ∧ { p with mac := 2 ^ 48 }.wf = false ∧ { p with ip := 2 ^ 32 }.wf = false ∧ { p with v6 := true, ip := 2 ^ 32 }.wf = true ∧
    { p with port := 65536 }.wf = false ∧
    (Instr.initDone 0 []).wf = false ∧ (Instr.frameReceive 0 [1#8] true { fines := 0 }).wf = false ∧
    (Instr.frameReceive 0 (frame 0x800 60) true { fines := 0 }).wf = true ∧ (Instr.frameReceive 0 (frame 0x800 60) true { fines := 2 ^ 70 }).wf = false ∧
    (Instr.frameReceive 0 (frame 0x800 60) true { fines := 0, damage := [(0, 2 ^ 88)] }).wf = false ∧ (Instr.reqMessage 0 []).wf = false ∧
    (Instr.respMessage 0 [{ f with typ := 16 }]).wf = false ∧ (Instr.eventFlit 0 { f with vc := 4 }).wf = false ∧
    (Instr.maintFlit 0 { f with vc := 4 }).wf = false ∧
    (Instr.sessOpen { peer := { p with port := 65536 }, sess := 0, poison := false, gen := 0, seq := 0 }).wf = false ∧
    (Instr.conversionEnd 0 []).wf = false ∧ (Instr.rawtxDone 0 (2 ^ 70)).wf = false ∧ (Instr.tsyncRequest 0 (2 ^ 32) 0 0).wf = false ∧
    (Instr.reset (bootOf 0 none)).wf = true := by decide +kernel
end Sys2Proof.Tests
end

section
/-! PROOFS. Reads that change what they read (O23): a register without writable bits reads as its page's function shows it, and a read
of it has the page's effect. -/

namespace Sys2Proof.Machine.Reads

variable {d : Device} {m : Memory} {q r : List Instr} {who : Requester}

/-! ## Registers that no write can set -/

/-- No row of the class gives the offset a writable bit. -/
def readOnlyAt (cls off : Nat) : Bool := (rowAt cls off).all (fun r => decide (r.rw = 0#32))

theorem merge_no_mask (a v : Word) : merge a v 0#32 = a := by
  rw [merge, BitVec.and_zero, BitVec.or_zero, BitVec.not_zero, BitVec.and_allOnes]

theorem writable_of_rw_zero (p off : Nat) {r : RegRow} (h : r.rw = 0#32) : writable p off r = 0#32 := by
  simp [writable, h]

/-- A fold that takes nothing of its elements gives its start. -/
theorem foldl_keep {α β : Type} (a : α) (xs : List β) : xs.foldl (fun acc _ => acc) a = a := by
  induction xs with
  | nil => rfl
  | cons x xs ih => exact ih

/-- Writes that wait for their tick show nothing of themselves in such a register (R6, R15). -/
theorem lastWritten_readOnly (d : Device) {p off : Nat} (h : readOnlyAt (classOf p) off = true) :
    lastWritten p off d = blockView p off d := by
  unfold lastWritten
  split
  · rfl
  · split
    · next r hr =>
      have hrw : r.rw = 0#32 := by simpa [readOnlyAt, hr] using h
      simp only [writable_of_rw_zero p off hrw, merge_no_mask]
      exact foldl_keep _ _
    · rfl

/-- A read of such a register of a mapped page, for the value and the effect that its page gives. -/
theorem readCmd_readOnly {p off : Nat} {v : Word} {e : Device} (hm : pageMapped d p = true) (ho : 0x040 ≤ off)
    (hr : readOnlyAt (classOf p) off = true) (hv : blockView p off d = v) (he : readEffect p off who d = e) :
    readCmd p off who ⟨d, m, q, r⟩ = .next ⟨{ e with resp := .data v false }, m, q, r⟩ := by
  have hview : pageView p off d = v := by rw [pageView, if_pos ho, lastWritten_readOnly d hr, hv]
  rw [readCmd_mapped (s := ⟨d, m, q, r⟩) hm]
  simp only [hview, he, answer]

/-! ## Class and index of a page number (R23) -/

theorem classOf_pgTmr (n : Fin 64) : classOf (pgTmr n.val) = 4 := by unfold classOf pgTmr; omega
theorem instOf_pgTmr (n : Fin 64) : instOf (pgTmr n.val) = n.val := by unfold instOf pgTmr; omega
theorem classOf_pgPfe (p : Fin 24) : classOf (pgPfe p.val) = 8 := by unfold classOf pgPfe; omega
theorem instOf_pgPfe (p : Fin 24) : instOf (pgPfe p.val) = p.val := by unfold instOf pgPfe; omega
theorem classOf_pgOlu (u : Fin 32) : classOf (pgOlu u.val) = 12 := by unfold classOf pgOlu; omega
theorem instOf_pgOlu (u : Fin 32) : instOf (pgOlu u.val) = u.val := by unfold instOf pgOlu; omega
theorem classOf_pgPos (n : Fin 32) : classOf (pgPos n.val) = 13 := by unfold classOf pgPos; omega
theorem instOf_pgPos (n : Fin 32) : instOf (pgPos n.val) = n.val := by unfold instOf pgPos; omega
theorem classOf_pgEth (i : Fin 2) : classOf (pgEth i.val) = 20 := by unfold classOf pgEth; omega
theorem instOf_pgEth (i : Fin 2) : instOf (pgEth i.val) = i.val := by unfold instOf pgEth; omega

/-! ## What each class shows and does on a read -/

theorem blockView_tmr (n : Fin 64) (off : Nat) (d : Device) : blockView (pgTmr n.val) off d = tmrView n.val off d := by
  simp only [blockView, classOf_pgTmr, instOf_pgTmr]
theorem blockView_pfe (p : Fin 24) (off : Nat) (d : Device) : blockView (pgPfe p.val) off d = pfeView p.val off d := by
  simp only [blockView, classOf_pgPfe, instOf_pgPfe]
theorem blockView_olu (u : Fin 32) (off : Nat) (d : Device) : blockView (pgOlu u.val) off d = oluView u.val off d := by
  simp only [blockView, classOf_pgOlu, instOf_pgOlu]
theorem blockView_pos (n : Fin 32) (off : Nat) (d : Device) : blockView (pgPos n.val) off d = posView n.val off d := by
  simp only [blockView, classOf_pgPos, instOf_pgPos]
theorem blockView_eth (i : Fin 2) (off : Nat) (d : Device) : blockView (pgEth i.val) off d = ethView i.val off d := by
  simp only [blockView, classOf_pgEth, instOf_pgEth]

theorem readEffect_capHead (n : Fin 64) (who : Requester) (d : Device) :
    readEffect (pgTmr n.val) Reg.TMR.CAP_HEAD who d = capPop n.val d := by
  rw [readEffect, if_neg (by decide), classOf_pgTmr, instOf_pgTmr]; rfl
theorem readEffect_resHead (p : Fin 24) (who : Requester) (d : Device) :
    readEffect (pgPfe p.val) Reg.PFE.RES_HEAD who d = resPop p.val d := by
  rw [readEffect, if_neg (by decide), classOf_pgPfe, instOf_pgPfe]; rfl
theorem readEffect_fePeak (u : Fin 32) (who : Requester) (d : Device) :
    readEffect (pgOlu u.val) Reg.OLU.FE_PEAK who d = wr (pgOlu u.val) Reg.OLU.FE_PEAK 0#32 d := by
  rw [readEffect, if_neg (by decide), classOf_pgOlu]; rfl
theorem readEffect_intLo (u : Fin 32) (quad : Bool) (who : Requester) (d : Device) :
    readEffect (pgOlu u.val) (if quad then Reg.OLU.INT_Q_LO else Reg.OLU.INT_D_LO) who d = intHold u.val quad d := by
  cases quad <;> rw [readEffect, if_neg (by decide), classOf_pgOlu, instOf_pgOlu] <;> rfl
theorem readEffect_ssiDataLo (n : Fin 32) (who : Requester) (d : Device) :
    readEffect (pgPos n.val) Reg.POS.SSI_DATA_LO who d = ssiHoldRead n.val d := by
  rw [readEffect, if_neg (by decide), classOf_pgPos, instOf_pgPos]; rfl
theorem readEffect_tsHead (i : Fin 2) (who : Requester) (d : Device) :
    readEffect (pgEth i.val) Reg.ETH.TS_HEAD who d = tsPop i.val d := by
  rw [readEffect, if_neg (by decide), classOf_pgEth, instOf_pgEth]; rfl

/-- A read of a count of the error page clears it (R432). -/
theorem readEffect_errCount {off : Nat} (h : errCount off = true) (who : Requester) (d : Device) :
    readEffect pgMemerr off who d = wr pgMemerr off 0#32 d := by
  have hlow : ¬ off = hERR_CODE := fun hc => by subst hc; exact absurd h (by decide)
  rw [readEffect, if_neg hlow]
  exact if_pos h

theorem errCount_ceCnt (id : Nat) : errCount (Reg.MEMERR.CE_CNT id) = true := by
  rw [errCount, Bool.and_eq_true, decide_eq_true_eq, decide_eq_true_eq, Reg.MEMERR.CE_CNT]; omega
theorem errCount_ueCnt (id : Nat) : errCount (Reg.MEMERR.UE_CNT id) = true := by
  rw [errCount, Bool.and_eq_true, decide_eq_true_eq, decide_eq_true_eq, Reg.MEMERR.UE_CNT]; omega

theorem readOnly_ceCnt : ∀ id : Fin 119, readOnlyAt 16 (Reg.MEMERR.CE_CNT id.val) = true := by decide
theorem readOnly_ueCnt : ∀ id : Fin 119, readOnlyAt 16 (Reg.MEMERR.UE_CNT id.val) = true := by decide

/-! ## Registers written, and nothing else -/

theorem wr_eta {x e : Device} (h : e = { x with regs := e.regs }) {p off : Nat} {v : Word} :
    wr p off v e = { x with regs := (wr p off v e).regs } := by
  obtain ⟨g, rfl⟩ : ∃ g, e = { x with regs := g } := ⟨_, h⟩
  rfl

theorem answered_eta {x e : Device} (h : e = { x with regs := e.regs }) {v : Response} :
    { e with resp := v } = { x with regs := e.regs, resp := v } := by
  obtain ⟨g, rfl⟩ : ∃ g, e = { x with regs := g } := ⟨_, h⟩
  rfl

/-- The answer is no register. -/
theorem rd_answered (e : Device) (v : Response) (p off : Nat) : rd { e with resp := v } p off = rd e p off := rfl

/-! ## Heads of queues -/

/-- CAP_HEAD answers and takes off the oldest capture, or answers 0 (R156). -/
theorem exec_capHeadRead (n : Fin 64) (hm : pageMapped d (pgTmr n.val) = true) :
    exec (.capHeadRead n who) ⟨d, m, q, r⟩ =
      .next ⟨{ capPop n.val d with resp := .data (tmrView n.val Reg.TMR.CAP_HEAD d) false }, m, q, r⟩ :=
  readCmd_readOnly hm (by decide) (by rw [classOf_pgTmr]; decide) (blockView_tmr ..) (readEffect_capHead ..)

theorem exec_resHeadRead (p : Fin 24) (hm : pageMapped d (pgPfe p.val) = true) :
    exec (.resHeadRead p who) ⟨d, m, q, r⟩ =
      .next ⟨{ resPop p.val d with resp := .data (pfeView p.val Reg.PFE.RES_HEAD d) false }, m, q, r⟩ :=
  readCmd_readOnly hm (by decide) (by rw [classOf_pgPfe]; decide) (blockView_pfe ..) (readEffect_resHead ..)

theorem exec_tsHeadRead (i : Fin 2) (hm : pageMapped d (pgEth i.val) = true) :
    exec (.tsHeadRead i who) ⟨d, m, q, r⟩ = .next ⟨{ tsPop i.val d with resp := .data (tsHead d i.val) false }, m, q, r⟩ :=
  readCmd_readOnly hm (by decide) (by rw [classOf_pgEth]; decide) (blockView_eth ..) (readEffect_tsHead ..)

theorem exec_logHeadRead (hm : pageMapped d pgEva = true) :
    exec (.logHeadRead who) ⟨d, m, q, r⟩ =
      .next ⟨{ logPop d with resp := .data (evaView Reg.EVA.LOG_HEAD d) false }, m, q, r⟩ :=
  readCmd_readOnly hm (by decide) (by decide) rfl rfl

/-- The POP registers show the oldest result that RES_HEAD takes off (R229). -/
theorem resPop_cons {p : Nat} {x : PfeRes} {xs : List PfeRes} (h : (pfeOf d p).fifo = x :: xs) :
    resPop p d = wr (pgPfe p) Reg.PFE.RES_POP_SEQ x.req.seq (wr (pgPfe p) Reg.PFE.RES_POP_STAMP (wd x.req.stamp)
      (wr (pgPfe p) Reg.PFE.RES_POP_INFO (resInfoWord x) (setPfe p { pfeOf d p with fifo := xs } d))) := by
  simp only [resPop, h]

theorem capPop_cons {n : Nat} {c : Capture} {cs : List Capture} (h : (timerOf d n).queue = c :: cs) :
    capPop n d = wr (pgTmr n) Reg.TMR.CAP_POP_STAMP (wd c.stamp)
      (wr (pgTmr n) Reg.TMR.CAP_POP_INFO (wd (2 ^ 31 + c.edge * 2 ^ 16 + c.stamp / 2 ^ 32))
        (setTimer n { timerOf d n with queue := cs } d)) := by
  simp only [capPop, h]

theorem tsPop_cons {i : Nat} {t : TsEntry} {ts : List TsEntry} (h : (ethOf d i).ts = t :: ts) :
    ∃ hi, tsPop i d = wr (pgEth i) Reg.ETH.TS_POP_HI hi
      (wr (pgEth i) Reg.ETH.TS_POP_LO (wd t.fines) (setEth i { ethOf d i with ts := ts } d)) := by
  simp only [tsPop, h]
  exact ⟨_, rfl⟩

theorem logPop_cons {x : EvRec} {xs : List EvRec} (h : d.eva.log = x :: xs) :
    ∃ info, logPop d = wr pgEva Reg.EVA.LOG_POP_CODE (wd x.code) (wr pgEva Reg.EVA.LOG_POP_STAMP (wd x.stamp)
      (wr pgEva Reg.EVA.LOG_POP_INFO info { d with eva := { d.eva with log := xs } })) := by
  simp only [logPop, h]
  exact ⟨_, rfl⟩

theorem capHeadRead_cons (n : Fin 64) {c : Capture} {cs : List Capture} (hm : pageMapped d (pgTmr n.val) = true)
    (h : (timerOf d n.val).queue = c :: cs) :
    exec (.capHeadRead n who) ⟨d, m, q, r⟩ = .next ⟨{ (wr (pgTmr n.val) Reg.TMR.CAP_POP_STAMP (wd c.stamp)
      (wr (pgTmr n.val) Reg.TMR.CAP_POP_INFO (wd (2 ^ 31 + c.edge * 2 ^ 16 + c.stamp / 2 ^ 32))
        (setTimer n.val { timerOf d n.val with queue := cs } d))) with resp := .data c.count false }, m, q, r⟩ := by
  have hv : tmrView n.val Reg.TMR.CAP_HEAD d = c.count := by
    rw [tmrView, if_neg (by decide), if_pos rfl, h]
  rw [exec_capHeadRead n hm, hv, capPop_cons h]

theorem capHeadRead_nil (n : Fin 64) (hm : pageMapped d (pgTmr n.val) = true) (h : (timerOf d n.val).queue = []) :
    exec (.capHeadRead n who) ⟨d, m, q, r⟩ =
      .next ⟨{ wrB (pgTmr n.val) Reg.TMR.CAP_POP_INFO 31 false d with resp := .data 0#32 false }, m, q, r⟩ := by
  have hv : tmrView n.val Reg.TMR.CAP_HEAD d = 0#32 := by
    rw [tmrView, if_neg (by decide), if_pos rfl, h]
  have hp : capPop n.val d = wrB (pgTmr n.val) Reg.TMR.CAP_POP_INFO 31 false d := by
    simp only [capPop, h]
  rw [exec_capHeadRead n hm, hv, hp]

theorem resHeadRead_cons (p : Fin 24) {x : PfeRes} {xs : List PfeRes} (hm : pageMapped d (pgPfe p.val) = true)
    (h : (pfeOf d p.val).fifo = x :: xs) :
    ∃ e, exec (.resHeadRead p who) ⟨d, m, q, r⟩ = .next ⟨e, m, q, r⟩ ∧
      e = { setPfe p.val { pfeOf d p.val with fifo := xs } d with regs := e.regs, resp := .data (resHeadWord x) false } ∧
      keptBut [(pgPfe p.val, Reg.PFE.RES_POP_INFO), (pgPfe p.val, Reg.PFE.RES_POP_STAMP), (pgPfe p.val, Reg.PFE.RES_POP_SEQ)] d e ∧
      rd e (pgPfe p.val) Reg.PFE.RES_POP_INFO = resInfoWord x ∧ rd e (pgPfe p.val) Reg.PFE.RES_POP_STAMP = wd x.req.stamp ∧
      rd e (pgPfe p.val) Reg.PFE.RES_POP_SEQ = x.req.seq := by
  have hv : pfeView p.val Reg.PFE.RES_HEAD d = resHeadWord x := by
    rw [pfeView, if_neg (by decide), if_neg (by decide), if_pos rfl, h]
  refine ⟨_, exec_resHeadRead p hm, ?_, keptBut_regs (e := resPop p.val d) rfl ?_, ?_, ?_, ?_⟩
  · rw [hv, resPop_cons h]
    exact answered_eta (wr_eta (wr_eta (wr_eta rfl)))
  · rw [resPop_cons h]
    exact keptBut_wr _ (by simp) (by decide) (keptBut_wr _ (by simp) (by decide) (keptBut_wr _ (by simp) (by decide)
      (keptBut_regs rfl (keptBut_refl d _))))
  · rw [rd_answered, resPop_cons h, rd_wr_off _ _ (by decide), rd_wr_off _ _ (by decide), rd_wr_same]
  · rw [rd_answered, resPop_cons h, rd_wr_off _ _ (by decide), rd_wr_same]
  · rw [rd_answered, resPop_cons h, rd_wr_same]

theorem tsHeadRead_cons (i : Fin 2) {t : TsEntry} {ts : List TsEntry} (hm : pageMapped d (pgEth i.val) = true)
    (h : (ethOf d i.val).ts = t :: ts) :
    ∃ e, exec (.tsHeadRead i who) ⟨d, m, q, r⟩ = .next ⟨e, m, q, r⟩ ∧
      e = { setEth i.val { ethOf d i.val with ts := ts } d with regs := e.regs, resp := .data (tsHead d i.val) false } ∧
      keptBut [(pgEth i.val, Reg.ETH.TS_POP_LO), (pgEth i.val, Reg.ETH.TS_POP_HI)] d e ∧
      rd e (pgEth i.val) Reg.ETH.TS_POP_LO = wd t.fines := by
  obtain ⟨hi, hpop⟩ := tsPop_cons h
  refine ⟨_, exec_tsHeadRead i hm, ?_, keptBut_regs (e := tsPop i.val d) rfl ?_, ?_⟩
  · rw [hpop]
    exact answered_eta (wr_eta (wr_eta rfl))
  · rw [hpop]
    exact keptBut_wr _ (by simp) (by decide) (keptBut_wr _ (by simp) (by decide) (keptBut_regs rfl (keptBut_refl d _)))
  · rw [rd_answered, hpop, rd_wr_off _ _ (by decide), rd_wr_same]

theorem logHeadRead_cons {x : EvRec} {xs : List EvRec} (hm : pageMapped d pgEva = true) (h : d.eva.log = x :: xs) :
    ∃ e, exec (.logHeadRead who) ⟨d, m, q, r⟩ = .next ⟨e, m, q, r⟩ ∧
      e = { d with regs := e.regs, eva := { d.eva with log := xs }, resp := .data (wd x.seq) false } ∧
      keptBut [(pgEva, Reg.EVA.LOG_POP_INFO), (pgEva, Reg.EVA.LOG_POP_STAMP), (pgEva, Reg.EVA.LOG_POP_CODE)] d e ∧
      rd e pgEva Reg.EVA.LOG_POP_STAMP = wd x.stamp ∧ rd e pgEva Reg.EVA.LOG_POP_CODE = wd x.code := by
  have hv : evaView Reg.EVA.LOG_HEAD d = wd x.seq := by
    rw [evaView, if_neg (by decide), if_pos rfl, h]
  obtain ⟨info, hpop⟩ := logPop_cons h
  refine ⟨_, exec_logHeadRead hm, ?_, keptBut_regs (e := logPop d) rfl ?_, ?_, ?_⟩
  · rw [hv, hpop]
    exact answered_eta (x := { d with eva := { d.eva with log := xs } }) (wr_eta (wr_eta (wr_eta rfl)))
  · rw [hpop]
    exact keptBut_wr _ (by simp) (by decide) (keptBut_wr _ (by simp) (by decide) (keptBut_wr _ (by simp) (by decide)
      (keptBut_regs rfl (keptBut_refl d _))))
  · rw [rd_answered, hpop, rd_wr_off _ _ (by decide), rd_wr_same]
  · rw [rd_answered, hpop, rd_wr_same]

/-! ## Counts and holding registers -/

theorem exec_intLoRead (u : Fin 32) (quad : Bool) (hm : pageMapped d (pgOlu u.val) = true) :
    exec (.intLoRead u quad who) ⟨d, m, q, r⟩ = .next ⟨{ intHold u.val quad d with
      resp := .data (intPart (if quad then (oluOf d u.val).intQ else (oluOf d u.val).intD) 0) false }, m, q, r⟩ := by
  refine readCmd_readOnly hm ?_ ?_ ?_ (readEffect_intLo ..)
  · cases quad <;> decide
  · rw [classOf_pgOlu]
    cases quad <;> decide
  · rw [blockView_olu]
    cases quad <;> rfl

theorem exec_fePeakRead (u : Fin 32) (hm : pageMapped d (pgOlu u.val) = true) :
    exec (.fePeakRead u who) ⟨d, m, q, r⟩ = .next ⟨{ wr (pgOlu u.val) Reg.OLU.FE_PEAK 0#32 d with
      resp := .data (rd d (pgOlu u.val) Reg.OLU.FE_PEAK) false }, m, q, r⟩ :=
  readCmd_readOnly hm (by decide) (by rw [classOf_pgOlu]; decide) (blockView_olu ..) (readEffect_fePeak ..)

theorem exec_ssiDataLoRead (n : Fin 32) (hm : pageMapped d (pgPos n.val) = true) :
    exec (.ssiDataLoRead n who) ⟨d, m, q, r⟩ = .next ⟨{ setPos n.val { posOf d n.val with
      ssiHold := some (rd d (pgPos n.val) Reg.POS.SSI_DATA_HI, rd d (pgPos n.val) Reg.POS.SSI_STAMP_LO) } d with
        resp := .data (rd d (pgPos n.val) Reg.POS.SSI_DATA_LO) false }, m, q, r⟩ :=
  readCmd_readOnly hm (by decide) (by rw [classOf_pgPos]; decide) (blockView_pos ..) (readEffect_ssiDataLo ..)

theorem exec_ceCntRead (id : Fin 119) (hm : pageMapped d pgMemerr = true) :
    exec (.ceCntRead id who) ⟨d, m, q, r⟩ = .next ⟨{ wr pgMemerr (Reg.MEMERR.CE_CNT id.val) 0#32 d with
      resp := .data (rd d pgMemerr (Reg.MEMERR.CE_CNT id.val)) false }, m, q, r⟩ :=
  readCmd_readOnly hm (by unfold Reg.MEMERR.CE_CNT; omega) (readOnly_ceCnt id) rfl (readEffect_errCount (errCount_ceCnt _) who d)

theorem exec_ueCntRead (id : Fin 119) (hm : pageMapped d pgMemerr = true) :
    exec (.ueCntRead id who) ⟨d, m, q, r⟩ = .next ⟨{ wr pgMemerr (Reg.MEMERR.UE_CNT id.val) 0#32 d with
      resp := .data (rd d pgMemerr (Reg.MEMERR.UE_CNT id.val)) false }, m, q, r⟩ :=
  readCmd_readOnly hm (by unfold Reg.MEMERR.UE_CNT; omega) (readOnly_ueCnt id) rfl (readEffect_errCount (errCount_ueCnt _) who d)

theorem exec_pendPeakRead (hm : pageMapped d pgEva = true) :
    exec (.pendPeakRead who) ⟨d, m, q, r⟩ = .next ⟨{ wr pgEva Reg.EVA.PEND_PEAK (wd (min 0xFFFF d.eva.pending.length)) d with
      resp := .data (rd d pgEva Reg.EVA.PEND_PEAK) false }, m, q, r⟩ :=
  readCmd_readOnly hm (by decide) (by decide) rfl rfl

/-- Settles O23: each head, count and low word is a read-only register, so its read answers the page's view and has the page's effect. -/
theorem readEffects : Obligations.ReadEffects := by
  unfold Obligations.ReadEffects
  exact ⟨fun _ _ _ _ n _ _ _ => capHeadRead_cons n, fun _ _ _ _ n _ => capHeadRead_nil n,
    fun _ _ _ _ p _ _ _ => resHeadRead_cons p,
    fun _ _ _ _ u _ hm => ⟨exec_intLoRead u false hm, exec_intLoRead u true hm, exec_fePeakRead u hm⟩,
    fun _ _ _ _ n _ => exec_ssiDataLoRead n,
    fun _ _ _ _ id _ hm => ⟨exec_ceCntRead id hm, exec_ueCntRead id hm⟩,
    fun _ _ _ _ i _ _ _ => tsHeadRead_cons i, fun _ _ _ _ _ _ _ => logHeadRead_cons, fun _ _ _ _ _ => exec_pendPeakRead⟩

end Sys2Proof.Machine.Reads
end

section
/-! PROOFS. One count step of a timer (O21): what counting, the one-shot, the raised causes and OUT each leave of the state. -/

namespace Sys2Proof.Machine.TimerStep

variable (d : Device)

/-! ## Timers, registers and domains under updates -/

theorem timerOf_setTimer_same (n : Nat) (t : Timer) : timerOf (setTimer n t d) n = t := SMap.get_set_same ..

theorem timerOf_setTimer_ne {n k : Nat} (t : Timer) (h : k ≠ n) : timerOf (setTimer n t d) k = timerOf d k := SMap.get_set_ne _ _ _ h

/-- A timer is told by the timers' part of the state. -/
theorem timerOf_congr {e : Device} (h : e.tmrs = d.tmrs) (k : Nat) : timerOf e k = timerOf d k := by unfold timerOf; rw [h]

/-- A domain is told by the system's part of the state. -/
theorem domainOn_congr {e : Device} (h : e.sys = d.sys) (p : Nat) : domainOn e p = domainOn d p := by unfold domainOn; rw [h]

@[simp] theorem raiseIf_tmrs (b : Bool) (p i : Nat) : (raiseIf b p i d).tmrs = d.tmrs := by cases b <;> simp [raiseIf]
@[simp] theorem raiseIf_sys (b : Bool) (p i : Nat) : (raiseIf b p i d).sys = d.sys := by cases b <;> simp [raiseIf]

theorem raiseIf_eta (b : Bool) (p i : Nat) :
    raiseIf b p i d = { d with regs := (raiseIf b p i d).regs, eva := (raiseIf b p i d).eva } := by
  cases b
  · rfl
  · exact raise_eta d p i

theorem keptBut_raiseIf {ks : List (Nat × Nat)} {e : Device} {p : Nat} (b : Bool) (i : Nat) (hm : ∀ x ∈ raiseRegs p, x ∈ ks)
    (h : keptBut ks d e) : keptBut ks d (raiseIf b p i e) := by
  cases b
  · exact h
  · exact keptBut_raise i hm h

/-- The causes of a timer's page that bits 0 to 5 of IRQ_RAW carry. -/
theorem bit_irqMask_tmr {n j : Nat} (hn : n < 64) (hj : j < 6) : bit (irqMask (classOf (pgTmr n))) j = true := by
  have hc : classOf (pgTmr n) = 4 := Reads.classOf_pgTmr ⟨n, hn⟩
  have hall : ∀ i : Fin 6, bit (irqMask 4) i.val = true := by decide
  rw [hc]
  exact hall ⟨j, hj⟩

/-- A cause that a timer raises sets its own bit of IRQ_RAW and no other (R40). -/
theorem rdB_raiseIf_tmr {n j : Nat} (b : Bool) (i : Nat) (hn : n < 64) (hd : domainOn d (pgTmr n) = true) (hj : j < 6) :
    rdB (raiseIf b (pgTmr n) i d) (pgTmr n) hIRQ_RAW j = (rdB d (pgTmr n) hIRQ_RAW j || (b && decide (i = j))) := by
  cases b
  · simp [raiseIf]
  · rw [raiseIf, if_pos rfl, rdB, raise, rd_raiseAt_irq _ _ _ _ _ _ hd (evaCount_irq _), bit_and, bit_or, bit_oneBit _ _ (by omega),
      bit_irqMask_tmr hn hj, Bool.and_true, Bool.true_and, rdB]

/-! ## The decisions of a step (R148 step 4) -/

/-- OUT after the actions for overflow, MATCH0 and MATCH1, in this order (R152). -/
def outAfter (cfg : Word) (ovf m0 m1 b : Bool) : Bool :=
  let o1 := if ovf then outAction (fld cfg 8 2) b else b
  let o2 := if m0 then outAction (fld cfg 4 2) o1 else o1
  if m1 then outAction (fld cfg 6 2) o2 else o2

/-- COUNT equals the MATCH register at this offset (R149). -/
def meets (n off : Nat) (d : Device) : Bool := decide (tmrRd d n Reg.TMR.COUNT = tmrRd d n off)

/-- The timer with the OUT that a step gives it. -/
def withOut (n : Nat) (ovf : Bool) (d : Device) : Device :=
  setTimer n { timerOf d n with
    out := outAfter (tmrRd d n Reg.TMR.TIO_CFG) ovf (meets n Reg.TMR.MATCH0 d) (meets n Reg.TMR.MATCH1 d) (timerOf d n).out } d

/-- An overflow ends a one-shot: RUN clears (R151). -/
def endOneShot (n : Nat) (ovf : Bool) (d : Device) : Device :=
  if ovf ∧ rdB d (pgTmr n) Reg.TMR.CTL 1 then wrB (pgTmr n) Reg.TMR.CTL 0 false d else d

/-- The causes of a step: OVF, M0, M1 (R149, R150). -/
def raiseStep (n : Nat) (ovf m0 m1 : Bool) (d : Device) : Device :=
  raiseIf m1 (pgTmr n) 1 (raiseIf m0 (pgTmr n) 0 (raiseIf ovf (pgTmr n) 2 d))

theorem timerDecide_eq (n : Nat) (ovf : Bool) : timerDecide n ovf d =
    (raiseStep n ovf (meets n Reg.TMR.MATCH0 d) (meets n Reg.TMR.MATCH1 d) (endOneShot n ovf (withOut n ovf d)),
      (if ovf then [sel 3 n] else []) ++ (if meets n Reg.TMR.MATCH0 d then [sel 1 n] else []) ++
        (if meets n Reg.TMR.MATCH1 d then [sel 2 n] else [])) := rfl

section
variable (n : Nat) (ovf m0 m1 : Bool)

theorem endOneShot_eta : endOneShot n ovf d = { d with regs := (endOneShot n ovf d).regs } := by
  unfold endOneShot
  split <;> rfl

@[simp] theorem endOneShot_tmrs : (endOneShot n ovf d).tmrs = d.tmrs := by rw [endOneShot_eta]
@[simp] theorem endOneShot_sys : (endOneShot n ovf d).sys = d.sys := by rw [endOneShot_eta]

theorem rd_endOneShot_ne {q off : Nat} (h : rkey q off ≠ rkey (pgTmr n) Reg.TMR.CTL) :
    rd (endOneShot n ovf d) q off = rd d q off := by
  unfold endOneShot
  split
  · exact rd_wr_ne d _ h
  · rfl

/-- RUN stays but where an overflow ends a one-shot. -/
theorem run_endOneShot : rdB (endOneShot n ovf d) (pgTmr n) Reg.TMR.CTL 0 =
    (rdB d (pgTmr n) Reg.TMR.CTL 0 && !(ovf && rdB d (pgTmr n) Reg.TMR.CTL 1)) := by
  unfold endOneShot
  split
  · next h =>
    rw [rdB, wrB, rd_wr_same, bit_setBit_same _ _ _ (by decide)]
    simp [h]
  · next h =>
    have hkeep : (ovf && rdB d (pgTmr n) Reg.TMR.CTL 1) = false := by simpa using h
    rw [hkeep, Bool.not_false, Bool.and_true]

theorem raiseStep_eta : raiseStep n ovf m0 m1 d =
    { d with regs := (raiseStep n ovf m0 m1 d).regs, eva := (raiseStep n ovf m0 m1 d).eva } := by
  unfold raiseStep
  rw [raiseIf_eta, raiseIf_eta (raiseIf ovf _ _ d), raiseIf_eta d]

@[simp] theorem raiseStep_tmrs : (raiseStep n ovf m0 m1 d).tmrs = d.tmrs := by simp [raiseStep]

theorem keptBut_raiseStep {ks : List (Nat × Nat)} {e : Device} (hm : ∀ x ∈ raiseRegs (pgTmr n), x ∈ ks) (h : keptBut ks d e) :
    keptBut ks d (raiseStep n ovf m0 m1 e) :=
  keptBut_raiseIf d _ _ hm (keptBut_raiseIf d _ _ hm (keptBut_raiseIf d _ _ hm h))

/-- Each of the three causes is raised where its condition holds. -/
theorem irq_raiseStep {j : Nat} (hn : n < 64) (hd : domainOn d (pgTmr n) = true) (hj : j < 6) :
    rdB (raiseStep n ovf m0 m1 d) (pgTmr n) hIRQ_RAW j =
      (((rdB d (pgTmr n) hIRQ_RAW j || (ovf && decide (2 = j))) || (m0 && decide (0 = j))) || (m1 && decide (1 = j))) := by
  have h1 : domainOn (raiseIf ovf (pgTmr n) 2 d) (pgTmr n) = true := by rw [domainOn_congr d (by simp), hd]
  have h2 : domainOn (raiseIf m0 (pgTmr n) 0 (raiseIf ovf (pgTmr n) 2 d)) (pgTmr n) = true := by
    rw [domainOn_congr d (by simp), hd]
  rw [raiseStep, rdB_raiseIf_tmr _ _ _ hn h2 hj, rdB_raiseIf_tmr _ _ _ hn h1 hj, rdB_raiseIf_tmr _ _ _ hn hd hj]

end

/-! ## What the decisions change and keep -/

section
variable (n : Nat) (ovf : Bool)

theorem timerDecide_eta : (timerDecide n ovf d).1 =
    { d with regs := (timerDecide n ovf d).1.regs, eva := (timerDecide n ovf d).1.eva, tmrs := (timerDecide n ovf d).1.tmrs } := by
  rw [timerDecide_eq, raiseStep_eta, endOneShot_eta]
  rfl

theorem keptBut_timerDecide {ks : List (Nat × Nat)} {e : Device} (hc : (pgTmr n, Reg.TMR.CTL) ∈ ks)
    (hr : ∀ x ∈ raiseRegs (pgTmr n), x ∈ ks) (h : keptBut ks d e) : keptBut ks d (timerDecide n ovf e).1 := by
  have hw : keptBut ks d (withOut n ovf e) := keptBut_regs rfl h
  have hs : keptBut ks d (endOneShot n ovf (withOut n ovf e)) := by
    unfold endOneShot
    split
    · exact keptBut_wrB _ _ hc (by decide) hw
    · exact hw
  exact keptBut_raiseStep d n _ _ _ hr hs

theorem tmrs_timerDecide : (timerDecide n ovf d).1.tmrs = (withOut n ovf d).tmrs := by
  rw [timerDecide_eq, raiseStep_tmrs, endOneShot_tmrs]

theorem timerOf_timerDecide : timerOf (timerDecide n ovf d).1 n = { timerOf d n with
    out := outAfter (tmrRd d n Reg.TMR.TIO_CFG) ovf (meets n Reg.TMR.MATCH0 d) (meets n Reg.TMR.MATCH1 d) (timerOf d n).out } := by
  rw [timerOf_congr (withOut n ovf d) (tmrs_timerDecide d n ovf), withOut, timerOf_setTimer_same]

theorem timerOf_timerDecide_ne {k : Nat} (h : k ≠ n) : timerOf (timerDecide n ovf d).1 k = timerOf d k := by
  rw [timerOf_congr (withOut n ovf d) (tmrs_timerDecide d n ovf), withOut, timerOf_setTimer_ne _ _ h]

/-- A register of the timer's page that the three causes leave alone. -/
theorem rd_raiseStep_ne {off : Nat} (m0 m1 : Bool) (hn : n < 64) (ho : off < 4096) (h : off ≠ hIRQ_RAW) :
    rd (raiseStep n ovf m0 m1 d) (pgTmr n) off = rd d (pgTmr n) off := by
  refine keptBut_raiseStep d n ovf m0 m1 (fun _ hx => hx) (keptBut_refl d _) _ _ ho ?_
  have hp : pgTmr n ≠ pgEva := by unfold pgTmr pgEva; omega
  simp [raiseRegs, h, hp]

theorem count_timerDecide (hn : n < 64) : tmrRd (timerDecide n ovf d).1 n Reg.TMR.COUNT = tmrRd d n Reg.TMR.COUNT := by
  rw [timerDecide_eq, tmrRd, rd_raiseStep_ne _ _ _ _ _ hn (by decide) (by decide),
    rd_endOneShot_ne _ _ _ (by unfold rkey Reg.TMR.COUNT Reg.TMR.CTL; omega)]
  rfl

theorem run_timerDecide (hn : n < 64) : rdB (timerDecide n ovf d).1 (pgTmr n) Reg.TMR.CTL 0 =
    (rdB d (pgTmr n) Reg.TMR.CTL 0 && !(ovf && rdB d (pgTmr n) Reg.TMR.CTL 1)) := by
  rw [timerDecide_eq, rdB, rd_raiseStep_ne _ _ _ _ _ hn (by decide) (by decide)]
  exact run_endOneShot (withOut n ovf d) n ovf

theorem irq_timerDecide {j : Nat} (hn : n < 64) (hd : domainOn d (pgTmr n) = true) (hj : j < 6) :
    rdB (timerDecide n ovf d).1 (pgTmr n) hIRQ_RAW j =
      (((rdB d (pgTmr n) hIRQ_RAW j || (ovf && decide (2 = j))) || (meets n Reg.TMR.MATCH0 d && decide (0 = j))) ||
        (meets n Reg.TMR.MATCH1 d && decide (1 = j))) := by
  have hdom : domainOn (endOneShot n ovf (withOut n ovf d)) (pgTmr n) = true := by
    rw [domainOn_congr (withOut n ovf d) (by simp)]
    exact hd
  rw [timerDecide_eq, irq_raiseStep _ _ _ _ _ hn hdom hj, rdB,
    rd_endOneShot_ne _ _ _ (by unfold rkey hIRQ_RAW Reg.TMR.CTL; omega)]
  rfl

end

/-! ## The step itself -/

theorem pinHit_nil (pin edges : Nat) : pinHit [] pin edges = none := by simp [pinHit]
theorem selHit_nil (s : Nat) : selHit [] s = false := by simp [selHit]

/-- A step of the timer's own ticks restarts the prescaler (R138). -/
theorem tickStep_true {n : Nat} (h : (tickStep n d).2 = true) :
    (tickStep n d).1 = setTimer n { timerOf d n with presc := 0, seen := tickMark d } d := by
  unfold tickStep at h ⊢
  dsimp only at h ⊢
  split at h
  · exact absurd h (by simp)
  · next h1 =>
    split at h
    · next h2 => rw [if_neg h1, if_pos h2]
    · exact absurd h (by simp)

/-- COUNT and the prescaler after a step (R136, R138). -/
def counted (n : Nat) (d : Device) : Device :=
  wr (pgTmr n) Reg.TMR.COUNT (stepCount (tmrRd d n Reg.TMR.TOP) (tmrRd d n Reg.TMR.COUNT)).1
    (setTimer n { timerOf d n with presc := 0, seen := tickMark d } d)

/-- With no event and no slave mode a step that is due counts and decides, and nothing else happens (R148). -/
theorem timerAct_ownStep {n : Nat} (hon : tmrOn d n = true) (hslv : slvMode d n = 0) (hstep : (tickStep n d).2 = true)
    (hno : (timerOf d n).noStep ≠ tickMark d) :
    timerAct n [] d = timerDecide n (stepCount (tmrRd d n Reg.TMR.TOP) (tmrRd d n Reg.TMR.COUNT)).2 (counted n d) := by
  have hregs : ∀ t off, tmrRd (setTimer n t d) n off = tmrRd d n off := fun _ _ => rfl
  unfold timerAct
  simp only [hon, hslv, hstep, hno, tickStep_true d hstep, hregs, selHit_nil, pinHit_nil, not_true_eq_false, if_false, if_true,
    Bool.and_false, Bool.false_eq_true, and_false, false_and, decide_false, Bool.not_false, Bool.or_true, Bool.true_and, true_or,
    counted]

theorem stepCount_fst (top c : Word) : (stepCount top c).1 = if c.toNat < top.toNat then c + 1#32 else 0#32 := by
  unfold stepCount; split <;> rfl

theorem stepCount_snd (top c : Word) : (stepCount top c).2 = decide (top.toNat ≤ c.toNat) := by
  unfold stepCount
  split
  · next h => exact (decide_eq_false (Nat.not_le.2 h)).symm
  · next h => exact (decide_eq_true (Nat.not_lt.1 h)).symm

section
variable (n : Nat)

theorem counted_eta : counted n d = { d with regs := (counted n d).regs, tmrs := (counted n d).tmrs } := rfl

theorem tmrRd_counted_count :
    tmrRd (counted n d) n Reg.TMR.COUNT = (stepCount (tmrRd d n Reg.TMR.TOP) (tmrRd d n Reg.TMR.COUNT)).1 := rd_wr_same ..

theorem tmrRd_counted_ne {off : Nat} (h : off ≠ Reg.TMR.COUNT) : tmrRd (counted n d) n off = tmrRd d n off := rd_wr_off _ _ h

theorem rdB_counted_ne {off : Nat} (h : off ≠ Reg.TMR.COUNT) (j : Nat) :
    rdB (counted n d) (pgTmr n) off j = rdB d (pgTmr n) off j := congrArg (bit · j) (tmrRd_counted_ne d n h)

theorem keptBut_counted {ks : List (Nat × Nat)} (hm : (pgTmr n, Reg.TMR.COUNT) ∈ ks) : keptBut ks d (counted n d) :=
  keptBut_wr _ hm (by decide) (keptBut_regs rfl (keptBut_refl d ks))

theorem timerOf_counted : timerOf (counted n d) n = { timerOf d n with presc := 0, seen := tickMark d } := timerOf_setTimer_same ..

theorem timerOf_counted_ne {k : Nat} (h : k ≠ n) : timerOf (counted n d) k = timerOf d k := timerOf_setTimer_ne _ _ h

/-- The count meets a MATCH register as the timer held it before the step. -/
theorem meets_counted {off : Nat} (h : off ≠ Reg.TMR.COUNT) :
    meets n off (counted n d) = decide ((stepCount (tmrRd d n Reg.TMR.TOP) (tmrRd d n Reg.TMR.COUNT)).1 = tmrRd d n off) := by
  rw [meets, tmrRd_counted_count, tmrRd_counted_ne d n h]

end

/-- Settles O21: the step is `timerDecide` on the counted state; each clause reads off what counting and deciding do to that part. -/
theorem timerCountsAndDecides : Obligations.TimerCountsAndDecides := by
  unfold Obligations.TimerCountsAndDecides
  intro d n hn hon hslv hstep hno
  have hdom : domainOn d (pgTmr n) = true := by
    rw [tmrOn, Bool.and_eq_true] at hon
    exact hon.2
  have hirq := rdB_counted_ne d n (off := hIRQ_RAW) (by decide)
  have hctl := rdB_counted_ne d n (off := Reg.TMR.CTL) (by decide)
  have hcfg := tmrRd_counted_ne d n (off := Reg.TMR.TIO_CFG) (by decide)
  have hm0 := meets_counted d n (off := Reg.TMR.MATCH0) (by decide)
  have hm1 := meets_counted d n (off := Reg.TMR.MATCH1) (by decide)
  have hraised := fun ovf j hj => irq_timerDecide (counted n d) n ovf (j := j) hn hdom hj
  rw [stepCount_fst] at hm0 hm1
  simp only [hm0, hm1, hirq] at hraised
  dsimp only
  rw [timerAct_ownStep d hon hslv hstep hno, stepCount_snd]
  refine ⟨?_, ?_, ?_, ?_, ?_, ?_, ?_, ?_, ?_, ?_, ?_, ?_⟩
  · rw [timerDecide_eq, hm0, hm1]
  · rw [timerDecide_eta, counted_eta]
  · exact keptBut_timerDecide d n _ (by simp) (fun x hx => by simp [hx]) (keptBut_counted d n (by simp))
  · rw [count_timerDecide _ _ _ hn, tmrRd_counted_count, stepCount_fst]
  · rw [timerOf_timerDecide, timerOf_counted]
  · rw [run_timerDecide _ _ _ hn, hctl, hctl]
  · simp [hraised]
  · simp [hraised]
  · simp [hraised]
  · rw [timerOf_timerDecide, hm0, hm1, hcfg, timerOf_counted]
    rfl
  · rw [timerOf_timerDecide, timerOf_counted]
  · intro k hk
    rw [timerOf_timerDecide_ne _ _ _ hk, timerOf_counted_ne d n hk]

end Sys2Proof.Machine.TimerStep
end
